-- ==== Sys2Proof/Word.lean ====
section
/-! DEFINITION. The word types of the device (R5, R42, R177) and the names of its parts (R9). -/

namespace Sys2Proof

/-- A byte of any memory of the device. -/
abbrev Byte := BitVec 8
/-- A control-space register or one slot of a bundle (R5, R72). -/
abbrev Word := BitVec 32
/-- An x register, a special register, a header word or a global fabric address (R42, R171, R176). -/
abbrev DWord := BitVec 64
/-- A vector register (R42). -/
abbrev VWord := BitVec 1024
/-- A predicate register, one bit per byte lane (R42). -/
abbrev PWord := BitVec 128

/-- Core index 0–2,047 = 256·anvil + 16·row + col (R9). -/
abbrev CoreId := Fin 2048
/-- Site or anvil number 0–7 (R9). -/
abbrev SiteId := Fin 8
/-- Hearth endpoint E0–E19 (R9). -/
abbrev EpId := Fin 20
/-- Crucible, gateway or tile number 0–3 (R9). -/
abbrev QuadId := Fin 4
/-- Anvil region r = 4·anvil + q (R352). -/
abbrev RegionId := Fin 32
/-- Host-visible function F0–F15 (R9). -/
abbrev FuncId := Fin 16
/-- Fabric number D0–D63 (R9). -/
abbrev FabId := Fin 64
/-- Local port 0–11 of a gateway (R9, R261). -/
abbrev PortId := Fin 12
/-- Damper requester q = 0–41 (R353). -/
abbrev ReqId := Fin 42
/-- Temperature sensor index 0–363 (R368). -/
abbrev SensorId := Fin 364
/-- Throttle unit u: region 0–31, or 32 + crucible (R378). -/
abbrev UnitId := Fin 36

/-- Bit `i` of a bit vector as a Bool. -/
abbrev bit {w : Nat} (x : BitVec w) (i : Nat) : Bool := x.getLsbD i
/-- A Bool as one bit. -/
abbrev b1 (b : Bool) : BitVec 1 := BitVec.ofBool b

end Sys2Proof
end

