-- ==== Sys2Proof/Syntax.lean ====
section
/-! DEFINITION. The commands the device takes: one constructor per row of spec/opcode_table.json, each an indivisible
step (95_what_each_step_holds.md), with its operands. -/

namespace Sys2Proof

/-- The interfaces that access the control space, each with its own 64-bit latch (R6, R411). `fabric` is the tongs'
mirror and the site-control range (R173, R175); `tongs` is the tongs firmware and the configuration record (R424). -/
inductive Iface where
  | spasen | smbus | jtag | fabric | tongs
  deriving DecidableEq, Repr

/-- The ports of a mesh router (R147). -/
inductive RPort where
  | north | south | east | west | loc | down
  deriving DecidableEq, Repr

/-- A whole port or one of its halves (R248). -/
inductive Half where
  | full | a | b
  deriving DecidableEq, Repr

/-- One ECC finding of a memory access: the offsets of words or bursts corrected, of lines the symbol code corrected,
and of words or lines found uncorrectable (R166, R280); `die` counts on-die reports per stack; `spec` holds the offsets of
words of the speculation buffer found uncorrectable (R270). -/
structure Ecc where
  ce  : List Nat
  sym : List Nat
  ue  : List Nat
  die : List Nat
  spec : List Nat
  deriving DecidableEq, Repr

/-- A line to be written back, and what its decoding finds. -/
structure DrainTurn where
  line : Nat
  ecc  : Ecc
  deriving DecidableEq, Repr

/-- What is read of a comb position: the least receiver margin of its role in 0.02 dB, and its temperature (R330, R331,
R340). -/
structure CombReading where
  margin : BitVec 9
  temp   : BitVec 8
  deriving DecidableEq, Repr

/-- A fabric packet: header words W0–W3 by field, and payload (R176–R179). For a control packet `p0` and `p1` are the
payload words; for a response `comp` is the completion word (P1 or W3). `data` holds the 64 B payload units. -/
structure Pkt where
  dst     : DWord
  cls     : Bool
  op      : BitVec 6
  var     : BitVec 4
  srcFab  : BitVec 6
  srcEp   : BitVec 5
  srcCore : BitVec 8
  eng     : BitVec 2
  tag     : BitVec 8
  ord     : BitVec 2
  flag    : Bool
  job     : BitVec 12
  seq     : BitVec 9
  len     : BitVec 4
  redId   : BitVec 16
  mcKind  : BitVec 2
  members : BitVec 18
  epoch   : BitVec 6
  p0      : DWord
  p1      : DWord
  comp    : BitVec 23
  data    : List (BitVec 512)
  deriving DecidableEq, Repr

/-- A link frame between devices (R253, R254); `ctrl` marks the control stream. -/
structure Frame where
  src  : BitVec 6
  dst  : BitVec 6
  hop  : BitVec 2
  ctrl : Bool
  seq  : BitVec 24
  pkt  : Pkt
  deriving DecidableEq, Repr

/-- What a receiver finds as it takes a frame (R247): data codewords that FEC corrected and that it could not, and whether
the CRC of a control frame fails. -/
structure Fec where
  corrected : Nat
  lost      : Nat
  badCrc    : Bool
  deriving DecidableEq, Repr

/-- A frame as it comes: its port and half, and what the receiver finds (R246, R247). -/
structure FrameIn where
  port  : PortId
  half  : Half
  frame : Frame
  fec   : Fec
  deriving DecidableEq, Repr

/-- What a peer reports at training step 5: its fabric number, port and half; on the mirror link its ROLE strap
instead (R250, R439). -/
structure Peer where
  fab  : BitVec 6
  port : BitVec 6
  half : BitVec 2
  role : Bool
  deriving DecidableEq, Repr

/-- A die link: kind 0 hybrid-bond, 1 inductive, 2 optical transmit, 3 optical receive, and its index (R322). -/
structure LinkId where
  kind  : BitVec 3
  index : BitVec 12
  deriving DecidableEq, Repr

/-- What the self-test finds of a physical lane of a link: whether it had a bit error, and its eye margin (R310). A lane that
a list of results does not name passes with the margin it had. -/
structure LaneTest where
  lane   : BitVec 9
  err    : Bool
  margin : BitVec 10
  deriving DecidableEq, Repr

/-- An optical lane as OPT_SEL names it (R340). -/
structure OLane where
  kind  : BitVec 3
  index : BitVec 13
  lane  : BitVec 5
  deriving DecidableEq, Repr

/-- The values of one calibration result (R335). -/
structure Cal where
  heater    : BitVec 12
  bias      : BitVec 8
  depth     : BitVec 8
  threshold : BitVec 8
  eyeWidth  : BitVec 10
  eyeHeight : BitVec 10
  berExp    : BitVec 5
  /-- The BER estimate lies within 2 decades of the rate counted, or nothing was counted. -/
  berOk     : Bool
  deriving DecidableEq, Repr

/-- A Spasen request header (R400). -/
structure SpsHdr where
  addr : BitVec 7
  op   : BitVec 8
  tag  : BitVec 16
  len  : BitVec 13
  w1   : DWord
  /-- payload of a packet whose row names none (R402) -/
  extra : List Word := []
  deriving DecidableEq, Repr

/-- A Spasen packet on its way to the host (R400, R401), its payload in 32-bit words. -/
structure SpsUp where
  addr   : BitVec 7
  op     : BitVec 8
  tag    : BitVec 16
  status : BitVec 4
  func   : BitVec 4
  w1     : DWord
  data   : List Word
  deriving DecidableEq, Repr

/-- What the outside fixes for one start of the device: straps, fuse and image facts, self-test and initialisation
outcomes, calibration facts and guest identities (R299, R310, R338, R416–R429). (DESIGN CHOICE, log 42) -/
structure StartEnv where
  role      : Bool
  pairEn    : Bool
  smbAddr   : BitVec 3
  fuseOk    : Bool
  /-- The signatures of the images in slots A and B verify (R419). -/
  sigA      : Bool
  sigB      : Bool
  /-- The signature of the current debug-token record verifies (R425). -/
  tokenOk   : Bool
  /-- Committed records that this start's flash reads find corrupt: older ones, which leave the current ones as they are (R423). -/
  badRecs   : Nat
  /-- The mean hearth temperature as the start reads it, in 1/8 °C (R338). -/
  hearthTemp : BitVec 12
  /-- Lanes with the result of their primary rings, and that of the alternate ones where the primary's is implausible:
  none where they cannot lock either (R325, R334–R336). Of other lanes the results are plausible. -/
  cals      : List (OLane × Cal × Option Cal)
  /-- Cores whose logic fails the self-test (R64). -/
  bistFail  : List CoreId
  /-- Crucible stacks that fail initialisation (R283). -/
  hbmFail   : List QuadId
  /-- What the die-link test finds (R310). -/
  lanes     : List (LinkId × LaneTest)
  /-- Sensors whose calibration fuses fail their check (R369). -/
  uncal     : List SensorId
  /-- Identity of each fitted guest die with its trained modules (R320, R429). -/
  guests    : List (Fin 3 × BitVec 4 × List Word)
  /-- Whether a good signal stands on the Spasen ports UP and DN (R397). -/
  upSignal  : Bool
  dnSignal  : Bool
  deriving DecidableEq, Repr

/-- What a per-function reset meets: cores failing their self-test, what the link test finds, and a stack failing
a rerun of the initialisation (R64, R318, R285). -/
structure ResetEnv where
  bistFail : List CoreId
  lanes    : List (LinkId × LaneTest)
  initFail : Bool
  deriving DecidableEq, Repr

/-- A mirror record: the home, the offset in it and the new bytes (R440). -/
structure MirrorRec where
  ep    : EpId
  off   : BitVec 53
  bytes : List Byte
  deriving DecidableEq, Repr

/-- The commands. `b` is the slot B word that stands beside a slot A instruction in its bundle, `a` the slot A word
beside a slot B instruction (R43). -/
inductive Instr where
  -- slot A: scalar arithmetic and control (chapters 03, 04)
  | nop (c : CoreId) (b : Word)
  | alu (c : CoreId) (rd rs1 rs2 : BitVec 5) (fn : BitVec 11) (b : Word)
  | addi (c : CoreId) (rd rs1 : BitVec 5) (imm : BitVec 16) (b : Word)
  | andi (c : CoreId) (rd rs1 : BitVec 5) (imm : BitVec 16) (b : Word)
  | ori (c : CoreId) (rd rs1 : BitVec 5) (imm : BitVec 16) (b : Word)
  | xori (c : CoreId) (rd rs1 : BitVec 5) (imm : BitVec 16) (b : Word)
  | slti (c : CoreId) (rd rs1 : BitVec 5) (imm : BitVec 16) (b : Word)
  | sltiu (c : CoreId) (rd rs1 : BitVec 5) (imm : BitVec 16) (b : Word)
  | slli (c : CoreId) (rd rs1 : BitVec 5) (imm : BitVec 16) (b : Word)
  | srli (c : CoreId) (rd rs1 : BitVec 5) (imm : BitVec 16) (b : Word)
  | srai (c : CoreId) (rd rs1 : BitVec 5) (imm : BitVec 16) (b : Word)
  | orsh (c : CoreId) (rd rs1 : BitVec 5) (imm : BitVec 16) (b : Word)
  | beq (c : CoreId) (rs1 rs2 : BitVec 5) (off : BitVec 16) (b : Word)
  | bne (c : CoreId) (rs1 rs2 : BitVec 5) (off : BitVec 16) (b : Word)
  | blt (c : CoreId) (rs1 rs2 : BitVec 5) (off : BitVec 16) (b : Word)
  | bge (c : CoreId) (rs1 rs2 : BitVec 5) (off : BitVec 16) (b : Word)
  | bltu (c : CoreId) (rs1 rs2 : BitVec 5) (off : BitVec 16) (b : Word)
  | bgeu (c : CoreId) (rs1 rs2 : BitVec 5) (off : BitVec 16) (b : Word)
  | j (c : CoreId) (off : BitVec 26) (b : Word)
  | jal (c : CoreId) (off : BitVec 26) (b : Word)
  | jalr (c : CoreId) (rd rs1 : BitVec 5) (imm : BitVec 16) (b : Word)
  | loop (c : CoreId) (rd rs1 : BitVec 5) (imm : BitVec 16) (b : Word)
  | loopBackEdge (c : CoreId)
  | waitt (c : CoreId) (rd rs1 : BitVec 5) (imm : BitVec 16) (b : Word)
  | halt (c : CoreId) (off : BitVec 26) (b : Word)
  | trap (c : CoreId) (off : BitVec 26) (b : Word)
  | breakpointStop (c : CoreId)
  | srd (c : CoreId) (rd rs1 : BitVec 5) (imm : BitVec 16) (b : Word)
  | swr (c : CoreId) (rd rs1 : BitVec 5) (imm : BitVec 16) (b : Word)
  -- slot A: core store and billet
  | ldx (c : CoreId) (rd rs1 : BitVec 5) (imm : BitVec 16) (b : Word)
  | stx (c : CoreId) (rd rs1 : BitVec 5) (imm : BitVec 16) (b : Word)
  | ldv16 (c : CoreId) (rd rs1 : BitVec 5) (imm : BitVec 16) (b : Word)
  | ldv32 (c : CoreId) (rd rs1 : BitVec 5) (imm : BitVec 16) (b : Word)
  | ldv64 (c : CoreId) (rd rs1 : BitVec 5) (imm : BitVec 16) (b : Word)
  | ldv (c : CoreId) (rd rs1 : BitVec 5) (imm : BitVec 16) (b : Word)
  | stv16 (c : CoreId) (rd rs1 : BitVec 5) (imm : BitVec 16) (b : Word)
  | stv32 (c : CoreId) (rd rs1 : BitVec 5) (imm : BitVec 16) (b : Word)
  | stv64 (c : CoreId) (rd rs1 : BitVec 5) (imm : BitVec 16) (b : Word)
  | stv (c : CoreId) (rd rs1 : BitVec 5) (imm : BitVec 16) (b : Word)
  | ldp (c : CoreId) (rd rs1 : BitVec 5) (imm : BitVec 16) (b : Word)
  | stp (c : CoreId) (rd rs1 : BitVec 5) (imm : BitVec 16) (b : Word)
  | bldx (c : CoreId) (rd rs1 : BitVec 5) (imm : BitVec 16) (b : Word)
  | bstx (c : CoreId) (rd rs1 : BitVec 5) (imm : BitVec 16) (b : Word)
  | bldv (c : CoreId) (rd rs1 : BitVec 5) (imm : BitVec 16) (b : Word)
  | bstv (c : CoreId) (rd rs1 : BitVec 5) (imm : BitVec 16) (b : Word)
  | billetLoadReturn (c : CoreId)
  -- slot A: fabric
  | fld (c : CoreId) (rd rs1 rs2 : BitVec 5) (cls : BitVec 3) (ord : BitVec 2) (flag : Bool) (size : BitVec 2) (hint : BitVec 3) (b : Word)
  | fst (c : CoreId) (rd rs1 rs2 : BitVec 5) (cls : BitVec 3) (ord : BitVec 2) (size : BitVec 2) (hint : BitVec 3) (b : Word)
  | fstf (c : CoreId) (rd rs1 rs2 : BitVec 5) (cls : BitVec 3) (ord : BitVec 2) (size : BitVec 2) (hint : BitVec 3) (b : Word)
  | fat (c : CoreId) (rd rs1 rs2 : BitVec 5) (cls : BitVec 3) (ord : BitVec 2) (flag : Bool) (size : BitVec 2) (hint : BitVec 3) (b : Word)
  | fred (c : CoreId) (rd rs1 rs2 : BitVec 5) (cls : BitVec 3) (ord : BitVec 2) (flag : Bool) (size : BitVec 2) (hint : BitVec 3) (b : Word)
  | fmcs (c : CoreId) (rd rs1 rs2 : BitVec 5) (cls : BitVec 3) (ord : BitVec 2) (flag : Bool) (size : BitVec 2) (hint : BitVec 3) (b : Word)
  | ffence (c : CoreId) (rd rs1 : BitVec 5) (imm : BitVec 16) (b : Word)
  | fenceTimeout (c : CoreId)
  | ownx (c : CoreId) (rd rs1 rs2 : BitVec 5) (cls : BitVec 3) (ord : BitVec 2) (flag : Bool) (size : BitVec 2) (hint : BitVec 3) (b : Word)
  | ownr (c : CoreId) (rd rs1 rs2 : BitVec 5) (cls : BitVec 3) (ord : BitVec 2) (flag : Bool) (size : BitVec 2) (hint : BitVec 3) (b : Word)
  | etag (c : CoreId) (rd rs1 : BitVec 5) (imm : BitVec 16) (b : Word)
  | eview (c : CoreId) (rd rs1 : BitVec 5) (imm : BitVec 16) (b : Word)
  | ecommit (c : CoreId) (rd rs1 rs2 : BitVec 5) (cls : BitVec 3) (ord : BitVec 2) (flag : Bool) (size : BitVec 2) (hint : BitVec 3) (b : Word)
  | bulkq (c : CoreId) (rd rs1 rs2 : BitVec 5) (cls : BitVec 3) (ord : BitVec 2) (flag : Bool) (size : BitVec 2) (hint : BitVec 3) (b : Word)
  | bulkPacketStart (site : SiteId) (cluster : Fin 16)
  | descriptorCompletion (c : CoreId)
  -- slot B (chapter 05)
  | vfp (c : CoreId) (vd vs1 vs2 : BitVec 5) (pm : BitVec 3) (fn : BitVec 8) (a : Word)
  | vint (c : CoreId) (vd vs1 vs2 : BitVec 5) (pm : BitVec 3) (fn : BitVec 8) (a : Word)
  | vlog (c : CoreId) (vd vs1 vs2 : BitVec 5) (pm : BitVec 3) (fn : BitVec 8) (a : Word)
  | vcmp (c : CoreId) (vd vs1 vs2 : BitVec 5) (pm : BitVec 3) (fn : BitVec 8) (a : Word)
  | vpred (c : CoreId) (vd vs1 vs2 : BitVec 5) (pm : BitVec 3) (fn : BitVec 8) (a : Word)
  | vxcn (c : CoreId) (vd vs1 vs2 : BitVec 5) (pm : BitVec 3) (fn : BitVec 8) (a : Word)
  | vperm (c : CoreId) (vd vs1 vs2 : BitVec 5) (pm : BitVec 3) (fn : BitVec 8) (a : Word)
  | vred (c : CoreId) (vd vs1 vs2 : BitVec 5) (pm : BitVec 3) (fn : BitVec 8) (a : Word)
  | vcvtRne (c : CoreId) (vd vs1 vs2 : BitVec 5) (pm : BitVec 3) (fn : BitVec 8) (a : Word)
  | vcvtRtz (c : CoreId) (vd vs1 vs2 : BitVec 5) (pm : BitVec 3) (fn : BitVec 8) (a : Word)
  | vcvtSr (c : CoreId) (vd vs1 vs2 : BitVec 5) (pm : BitVec 3) (fn : BitVec 8) (a : Word)
  | mma (c : CoreId) (acc : BitVec 2) (vs1 vs2 : BitVec 5) (fmtA fmtB mode : BitVec 4) (scale : BitVec 2) (a : Word)
  | aclr (c : CoreId) (acc : BitVec 2) (zero : BitVec 24) (a : Word)
  | acvt (c : CoreId) (acc : BitVec 2) (vd row : BitVec 5) (fmt : BitVec 4) (rnd : BitVec 2) (mul sat : Bool) (zero part scale : BitVec 2) (a : Word)
  | awr (c : CoreId) (acc : BitVec 2) (vs1 row : BitVec 5) (zero : BitVec 14) (a : Word)
  -- core and site control (chapter 03)
  | bankYield (c : CoreId) (bank : Fin 4) (id : Nat)
  | start (c : CoreId)
  | stop (c : CoreId)
  | stopDrainDone (c : CoreId)
  | resume (c : CoreId)
  | step (c : CoreId)
  | siteGo (site : SiteId)
  | debugDataRead (via : Iface) (c : CoreId) (hi : Bool)
  | debugDataWrite (via : Iface) (c : CoreId) (hi : Bool) (val : Word)
  | siteJobCfgWrite (site : SiteId) (n : Fin 8) (order : Bool) (val : Word)
  | coreFence (c : CoreId)
  | registerWrite (via : Iface) (addr val : Word)
  -- mesh and billet (chapter 07)
  | routerForward (c : CoreId) (port : RPort) (vc : Fin 3)
  | redholdExpiry (id : Nat)
  | multicastAnswer (ctx : Nat)
  | routerFault (r : RegionId)
  | billetRequest (site : SiteId) (slice : Fin 16) (bank : Fin 4) (ecc : Ecc)
  | scrubRead (site : SiteId) (slices : BitVec 16)
  | billetCfgWrite (site : SiteId) (val : Word)
  -- fabric homes and completions (chapters 08, 09, 12)
  | hearthPortRequest (id : Nat)
  | rd (id : Nat)
  | wr8 (id : Nat)
  | wr (id : Nat)
  | mcs8 (id : Nat)
  | mcs (id : Nat)
  | fatAtHome (id : Nat)
  | fredAtHome (id : Nat)
  | ownxAtHome (id : Nat)
  | ownrAtHome (id : Nat)
  | ecommitAtHome (id : Nat)
  | epochStateChange (ep : EpId)
  | commitDrainWriteback (ep : EpId) (epoch : BitVec 6) (line : DrainTurn)
  | epochFree (ep : EpId) (epoch : BitVec 6)
  | ack (id : Nat)
  | data8 (id : Nat)
  | data (id : Nat)
  | heldRequestRelease (id : Nat)
  | flagWriteRelease (id : Nat)
  | ownCfgWrite (ep : EpId) (val : Word)
  | ownForceRelRegion (ep : EpId) (off : BitVec 53)
  | ownForceRelAll (ep : EpId)
  | creditReturn (src dst : EpId) (rb : Fin 80)
  | inputQueueRelease (k : QuadId)
  | combEntryFree (g : QuadId)
  | gatewayRedholdExpiry (g : QuadId) (id : Nat)
  | jobKill (tag : BitVec 12)
  | jobKillDone
  | jobKillRelease (tag : BitVec 12)
  -- hearth fabric (chapter 10)
  | grantRequest (g : Fin 912) (dst : EpId)
  | grant (g : Fin 912) (dst : EpId)
  | grantEnd (dst : EpId) (rb : Fin 80)
  | l0Packet (ep : EpId)
  | loopFailure (l1 : Bool)
  | opticalWindowFail (id : Nat) (lane : BitVec 9)
  | waveguideFailure (k : Fin 8) (g : Fin 912)
  -- gateways and ports (chapter 11)
  | gwPortCfgWrite (g : QuadId) (p : PortId) (val : Word)
  | portTraining (g : QuadId) (p : PortId) (half : Half) (peer : Peer) (lanes : Word)
  | portTrainingTimeout (g : QuadId) (p : PortId) (half : Half)
  | portTrainingRetry (g : QuadId) (p : PortId) (half : Half)
  | mismatchRecheck (g : QuadId) (p : PortId) (half : Half) (peer : Peer)
  | portLaneFailure (g : QuadId) (p : PortId) (slot : Fin 32)
  | portDown (g : QuadId) (p : PortId) (half : Half)
  | linkFrame (g : QuadId) (f : FrameIn)
  | e2eAck (f : FabId) (ctrl : Bool) (seq : BitVec 24)
  | rtoExpiry (f : FabId) (ctrl : Bool)
  | deadTimeout (f : FabId)
  | gwRouteWrite (f : FabId) (val : Word)
  | revive (f : FabId)
  -- crucibles (chapter 13)
  | pcArbiterGrant (k : QuadId) (pc : Fin 128) (bank : Fin 48) (ecc : Ecc)
  | ageCap (k : QuadId) (pc : Fin 128)
  | refresh (k : QuadId) (pc : Fin 128) (bank : Fin 48)
  | hbmTempRead (k : QuadId) (t0 t1 t2 t3 : Option (BitVec 8))
  | crucScrubRead (k : QuadId) (pcs : BitVec 128)
  | pcFailed (k : QuadId) (pc : Fin 128)
  | hbmInit (k : QuadId) (failStep : Option (Fin 7))
  -- die links (chapter 15)
  | replay (l : LinkId) (lane : BitVec 9)
  | laneMonitorProbe (l : LinkId) (lane : BitVec 9) (margin : Option (BitVec 10))
  | spareSwap (l : LinkId) (lane : BitVec 9)
  | linkDegrade (l : LinkId) (lane : BitVec 9)
  | fullRetrain (l : LinkId) (lanes : List LaneTest)
  | fieldSelfTest (f : FuncId) (lanes : List (LinkId × LaneTest))
  -- optical control (chapter 16)
  | lockUpdate (l : OLane) (delta : BitVec 4) (trim : Option (Fin 3 × Bool)) (fail : Option Bool)
  | wrongLineLock (l : OLane) (relocked : Bool)
  | laserDriveUpdate (t : QuadId) (p : Fin 10) (diff : BitVec 16) (reading : CombReading)
  | combSwap (t : QuadId) (role : Fin 8) (okFirst okSecond : Bool)
  | quietGap (t : QuadId)
  | forceSwap (t : QuadId) (role : BitVec 3) (okFirst okSecond : Bool)
  | combDark (t : QuadId) (p : Fin 10)
  | imageSnapshot
  | imageRead (via : Iface)
  -- clocking (chapter 17)
  | stepSwitch (n : BitVec 24) (lockFail : Word)
  | droopStretch (r : RegionId) (lowRail : Bool)
  | refclkLoss
  | refclkRestored
  | holdoverTimeout
  | referenceLoss (f : FuncId)
  | xtalLoss
  -- power (chapter 18)
  | boostRequest (q : ReqId)
  | burstExpiry (q : ReqId)
  | regulatorReport (anvil : SiteId)
  | avsTimeout (anvil : SiteId)
  | ocAlert
  | ocHoldExpiry
  | napEntry (delay : Option (BitVec 5))
  | handshakeRetry (delay : Option (BitVec 5))
  | standbyEntry (delay : Option (BitVec 5))
  | wake (env : StartEnv)
  | regionOn (r : RegionId)
  | regionGatedClock (r : RegionId) (delay : Bool)
  | regionRetain (r : RegionId) (delay : Bool)
  | regionOff (r : RegionId) (delay : Bool)
  | regionWakeDone (r : RegionId)
  | autoIdle (r : RegionId)
  -- thermal (chapter 19)
  | sensorConversion (n : SensorId) (reading : BitVec 12) (stopped : Bool)
  | thermalCapStep (u : UnitId)
  | capLift (u : UnitId)
  | billetImplausible (site : SiteId)
  -- faults and resets (chapter 20)
  | faultEvent (code : BitVec 16) (detail : Word)
  | collectorMismatch
  | quenchRelease
  | perFunctionReset (f : FuncId) (env : ResetEnv)
  | f0Restart (verifies : Bool)
  | billetInternalReset (site : SiteId)
  | fltHeartbeat (beat : Word)
  | heartbeatMiss (verifies : Bool)
  | clearC2
  | coldReset
  | startSequence (env : StartEnv)
  | startTimeout
  -- Spasen and SMBus and JTAG (chapter 21)
  | csrRd (h : SpsHdr)
  | csrWr (h : SpsHdr) (ws : List Word)
  | memRd (h : SpsHdr)
  | memWr (h : SpsHdr) (ws : List Word)
  | assign (h : SpsHdr)
  | assignAck (p : SpsUp)
  | assignEnd (p : SpsUp)
  | unassign
  | resp (p : SpsUp)
  | event (p : Option SpsUp)
  | evtCredit (h : SpsHdr)
  | spasenReplay (dn : Bool) (again : Bool)
  | spasenPortDown (dn : Bool)
  | fabricNumberAssign (val : Word)
  -- boot, security and flash (chapter 22)
  | flashRecordWrite (progOk : Bool)
  | flashSlotSwitch (verifies progOk : Bool)
  | attestationReport
  | fuseSequence
  | fuseWindowCheck
  | saveCalibrationImage (progOk : Bool)
  | secExtend
  | smbusSetPointer (addr : Word) (pecOk : Bool)
  | smbusRead (pecOk : Bool)
  | smbusWrite (val : Word) (pecOk : Bool)
  | smbusHealth
  | smbusTemp
  | smbusAlertResponse
  | idcode
  | samplePreload (load : Word)
  | extest
  | clamp
  | highz
  | dbg (dr : DWord)
  | bypass
  | guestRequest (g : Fin 3) (p : Pkt)
  | guestInboundRequest (g : Fin 3) (id : Nat)
  -- redundant pairs (chapter 23)
  | claim
  | release
  | resync
  | ownInRise
  | gatesOpen
  | switchOver
  | mirrorEpochClose
  | mirrorRecord (r : MirrorRec) (resync : Bool)
  | mirrorCommit (epoch : BitVec 23) (resync : Bool)
  | mirrorLinkTimeout
  | takeover (g : QuadId) (p : PortId) (half : Half) (f : FabId)
  | spasenPortUp (dn : Bool)
  | aliveToggle
  | vaonBrownout
  | billetControlFault (site : SiteId)
  | tapReset
  | l1PacketAcknowledgement (id : Nat)
  | periodicCalibration (l : OLane) (cal : Cal)
  deriving DecidableEq, Repr

end Sys2Proof
end

