-- ==== Sys2Proof/Decode.lean ====
section
/-! DEFINITION. The words of the opcode table: its rows give no bits, so no word spells a command. The bundle words of
the cores are decoded in Machine/SlotDecode.lean. -/

namespace Sys2Proof

/-- The command a word of the opcode table spells: none, since the table gives its rows no bits. (DESIGN CHOICE, log 49) -/
def decodeTableWord (_nbits _w : Nat) : Option Instr := none

end Sys2Proof
end

