-- ==== Sys2Proof/Machine/Keccak.lean ====
section
/-! DEFINITION. SHAKE256, which R419, R421 and R422 name: the sponge of FIPS 202 over Keccak-f[1600] with a rate of 136
bytes. The manual names the published function and does not write it out. (PRESUMED, log 39) -/

namespace Sys2Proof.Machine

/-- Round constants of Keccak-f[1600]. -/
def keccakRounds : List (BitVec 64) :=
  [0x0000000000000001, 0x0000000000008082, 0x800000000000808A, 0x8000000080008000, 0x000000000000808B, 0x0000000080000001,
   0x8000000080008081, 0x8000000000008009, 0x000000000000008A, 0x0000000000000088, 0x0000000080008009, 0x000000008000000A] ++
  [0x000000008000808B, 0x800000000000008B, 0x8000000000008089, 0x8000000000008003, 0x8000000000008002, 0x8000000000000080,
   0x000000000000800A, 0x800000008000000A, 0x8000000080008081, 0x8000000000008080, 0x0000000080000001, 0x8000000080008008]
/-- Rotations of the lanes x + 5·y. -/
def keccakRot : List Nat := [0, 1, 62, 28, 27, 36, 44, 6, 55, 20, 3, 10, 43, 25, 39, 41, 45, 15, 21, 8, 18, 2, 61, 56, 14]

/-- One round: θ, ρ and π, χ, ι. -/
def keccakRound (a : List (BitVec 64)) (rc : BitVec 64) : List (BitVec 64) :=
  let lane (l : List (BitVec 64)) (i : Nat) : BitVec 64 := l.getD i 0
  let c := (List.range 5).map (fun x => (List.range 5).foldl (fun v y => v ^^^ lane a (x + 5 * y)) 0)
  let d := (List.range 5).map (fun x => lane c ((x + 4) % 5) ^^^ (lane c ((x + 1) % 5)).rotateLeft 1)
  let t := (List.range 25).map (fun i => (lane a i ^^^ lane d (i % 5)).rotateLeft (keccakRot.getD i 0))
  -- lane (X, Y) comes from x = X + 3·Y, y = X
  let b := (List.range 25).map (fun i => lane t ((i % 5 + 3 * (i / 5)) % 5 + 5 * (i % 5)))
  (List.range 25).map (fun i =>
    let row := 5 * (i / 5)
    lane b i ^^^ (~~~lane b (row + (i + 1) % 5) &&& lane b (row + (i + 2) % 5)) ^^^ (if i = 0 then rc else 0))
def keccakF (a : List (BitVec 64)) : List (BitVec 64) := keccakRounds.foldl keccakRound a

/-- A lane of a block, least significant byte first. -/
def laneOfBytes (l : List Byte) : BitVec 64 := BitVec.ofNat 64 (l.foldr (fun b n => b.toNat + 256 * n) 0)
/-- Absorb a padded message of `n` blocks. -/
def absorb : Nat → List Byte → List (BitVec 64) → List (BitVec 64)
  | 0, _, a => a
  | n + 1, m, a =>
    absorb n (m.drop 136) (keccakF ((List.range 25).map (fun i =>
      a.getD i 0 ^^^ (if i < 17 then laneOfBytes ((m.drop (8 * i)).take 8) else 0))))
/-- A message padded for SHAKE: 1111, then 10…01, to whole blocks. -/
def shakePad (m : List Byte) : List Byte :=
  let k := 135 - m.length % 136
  if k = 0 then m ++ [0x9F#8] else m ++ [0x1F#8] ++ List.replicate (k - 1) 0#8 ++ [0x80#8]
/-- The first block SHAKE256 gives, 1,088 bits, least significant byte first. -/
def shakeBlock (m : List Byte) : BitVec 1088 :=
  let a := absorb (m.length / 136 + 1) (shakePad m) (List.replicate 25 0)
  BitVec.ofNat 1088 ((a.take 17).foldr (fun v n => v.toNat + 2 ^ 64 * n) 0)
def shake512 (m : List Byte) : BitVec 512 := (shakeBlock m).setWidth 512
def shake256 (m : List Byte) : BitVec 256 := (shakeBlock m).setWidth 256

end Sys2Proof.Machine
end

