-- ==== Sys2Proof/Config.lean ====
section
/-! DEFINITION. What one chip fixes and what the manual leaves open: constants without a body, so that no proof can
see a value of them, and a claim about them holds for every value. -/

namespace Sys2Proof.Config

/-- ID_PART.Rev, "fixed" (R415). -/
opaque rev : BitVec 8
/-- ID_PART.Build, "fixed" (R415). -/
opaque build : BitVec 8
/-- The manufacturer identity of IDCODE, given only in the part's BSDL file (R413). -/
opaque jtagManufacturer : BitVec 11
/-- The approximation of EXP2 (0), LOG2 (1), RCP (2) and RSQ (3) in FP32: fixed for one silicon revision and not
published (R144). -/
opaque xcnApprox : BitVec 2 → BitVec 32 → BitVec 32
/-- IDCODE's revision field (R413). -/
opaque jtagRevision : BitVec 4
/-- The level an output takes from the boundary-scan cells under EXTEST and CLAMP: ALIVE 0, FAULT_N 1, QUENCH_N 2,
THERM_TRIP_N 3, OWN_OUT 4, SMB_ALERT_N 5 (R413: the cell order is in the BSDL file). -/
opaque scanDrive : Word → Nat → Bool
/-- The order and width of the boundary-scan cells are in the BSDL file, not in the manual (R413): the word a
SAMPLE/PRELOAD reads from the pin levels given. -/
opaque boundarySample : Nat → BitVec 32
/-- A fresh value for each reading of a quantity the manual leaves open, by the state's free counter. -/
opaque freeWord : Nat → BitVec 32
/-- The bytes MEAS_0 and MEAS_5 are extended with, by register and the facts measured: how the boot ROM writes fuses and
debug state out is not given (R421). -/
opaque measured : Nat → List Word → List (BitVec 8)
/-- The SLH-DSA public key generated from 96 bytes of seed, and the signature with its private key over the first 768 bytes
of the report, as 32-bit words by index: the manual names the published scheme and does not write it out (R422). -/
opaque identityKey : BitVec 768 → BitVec 512
opaque reportSignature : BitVec 768 → List (BitVec 32) → Nat → BitVec 32
/-- The CRC-32 of the calibration image (R337); its polynomial is not given. -/
opaque crc32 : List (BitVec 32) → BitVec 32
/-- The detail word a block gives an event about one of its parts: "defined by the raising block" (R380). -/
opaque eventDetail : BitVec 16 → BitVec 32 → BitVec 32
/-- The figures calibration gives a lane, by run, lane and field: measurements the manual does not fix (R334). -/
opaque calibrated : Nat → Nat → Nat → BitVec 16
/-- The values fused at assembly for a lane, by lane and field (R336). -/
opaque factoryCal : Nat → Nat → BitVec 16
/-- A word of the calibration image read before a snapshot was taken, by index (R337). -/
opaque imageWord : Nat → BitVec 32
/-- Whether a billet estimate that falls between two units of THERM_EST is rounded up: R374 states no rounding. -/
opaque estimateUp : Nat → Bool

end Sys2Proof.Config
end

