-- ==== Sys2Proof/Machine/Float.lean ====
section
/-! DEFINITION. Number formats, rounding and the arithmetic of single elements (chapter 06, R128–R146). Every
operation is exact on dyadic numbers with a quarter exponent (LQ4 magnitudes are powers of √2 with offsets of 2^(1/4))
and rounds once. -/

namespace Sys2Proof.Machine

/-- A number before rounding: NaN, an infinity, or (−1)^neg · m · 2^(e + q/4). -/
inductive FVal where
  | nan
  | inf (neg : Bool)
  | fin (neg : Bool) (m : Nat) (e : Int) (q : Nat)
  deriving DecidableEq, Repr

/-- How a format codes infinities and NaN (R129): as IEEE 754, as OFP8 E4M3 (one NaN, no infinity), or neither. -/
inductive Special where
  | ieee | ofp8 | none
  deriving DecidableEq, Repr

/-- A floating-point element format of R129. -/
structure Fmt where
  exp     : Nat
  man     : Nat
  bias    : Nat
  special : Special
  /-- Subnormals are flushed on reading and after rounding (R132). -/
  flush   : Bool
  /-- The canonical quiet NaN of R133. -/
  qnan    : Nat
  deriving DecidableEq, Repr

/-- FP32 (R129). -/
def fmtFP32 : Fmt := ⟨8, 23, 127, .ieee, false, 0x7FC00000⟩
/-- FP16 (R129). -/
def fmtFP16 : Fmt := ⟨5, 10, 15, .ieee, false, 0x7E00⟩
/-- BF16, whose subnormals are flushed in the vector unit (R129, R132). -/
def fmtBF16 : Fmt := ⟨8, 7, 127, .ieee, true, 0x7FC0⟩
/-- OFP8 E4M3 (R129); `flush` is set for code 0 and clear for MXFP8 (R132). -/
def fmtE4M3 (flush : Bool) : Fmt := ⟨4, 3, 7, .ofp8, flush, 0x7F⟩
/-- OFP8 E5M2 (R129). -/
def fmtE5M2 (flush : Bool) : Fmt := ⟨5, 2, 15, .ieee, flush, 0x7E⟩
/-- MXFP6 E2M3 (R129). -/
def fmtE2M3 : Fmt := ⟨2, 3, 1, .none, false, 0⟩
/-- MXFP6 E3M2 (R129). -/
def fmtE3M2 : Fmt := ⟨3, 2, 3, .none, false, 0⟩
/-- MXFP4 E2M1 (R129). -/
def fmtE2M1 : Fmt := ⟨2, 1, 1, .none, false, 0⟩

/-- Exponent of the smallest normal number (R129). -/
def Fmt.emin (f : Fmt) : Int := 1 - (f.bias : Int)
/-- Total width in bits. -/
def Fmt.bits (f : Fmt) : Nat := 1 + f.exp + f.man
/-- Bit pattern of the largest finite magnitude (R129). -/
def Fmt.maxFin (f : Fmt) : Nat :=
  match f.special with
  | .ieee => (2 ^ f.exp - 1) * 2 ^ f.man - 1
  | .ofp8 => 2 ^ (f.exp + f.man) - 2
  | .none => 2 ^ (f.exp + f.man) - 1
/-- Bit pattern of the infinity of an IEEE-coded format. -/
def Fmt.infBits (f : Fmt) : Nat := (2 ^ f.exp - 1) * 2 ^ f.man

/-- Put the sign over a magnitude pattern. -/
def Fmt.signed (f : Fmt) (neg : Bool) (mag : Nat) : Nat :=
  if neg then 2 ^ (f.exp + f.man) + mag else mag

/-- The value of a bit pattern (R129), with subnormals as they stand. -/
def Fmt.decodeExact (f : Fmt) (b : Nat) : FVal :=
  let neg := (b / 2 ^ (f.exp + f.man)) % 2 = 1
  let ex := (b / 2 ^ f.man) % 2 ^ f.exp
  let mn := b % 2 ^ f.man
  if f.special = .ieee ∧ ex = 2 ^ f.exp - 1 then (if mn = 0 then .inf neg else .nan)
  else if f.special = .ofp8 ∧ ex = 2 ^ f.exp - 1 ∧ mn = 2 ^ f.man - 1 then .nan
  else if ex = 0 then .fin neg mn (f.emin - f.man) 0
  else .fin neg (mn + 2 ^ f.man) ((ex : Int) - f.bias - f.man) 0

/-- The value of a bit pattern as a vector operand: a subnormal of a flushed format reads as zero of its sign (R132). -/
def Fmt.decode (f : Fmt) (b : Nat) : FVal :=
  if f.flush ∧ (b / 2 ^ f.man) % 2 ^ f.exp = 0 then
    .fin ((b / 2 ^ (f.exp + f.man)) % 2 = 1) 0 0 0
  else f.decodeExact b

/-! ### Exact scaling -/

/-- Integer square root by bits from the top: `go k n r` settles bits `k − 1 … 0` of the root. -/
def isqrtGo : Nat → Nat → Nat → Nat
  | 0, _, r => r
  | k + 1, n, r => isqrtGo k n (if (r + 2 ^ k) * (r + 2 ^ k) ≤ n then r + 2 ^ k else r)
/-- Floor of the square root. -/
def isqrt (n : Nat) : Nat := isqrtGo (Nat.log2 n / 2 + 1) n 0
/-- Floor of the fourth root. -/
def root4 (n : Nat) : Nat := isqrt (isqrt n)

/-- n · 2^k rounded down, for an integer k. -/
def shiftFloor (n : Nat) (k : Int) : Nat :=
  if 0 ≤ k then n * 2 ^ k.toNat else n / 2 ^ (-k).toNat

/-- Floor of m · 2^(e + q/4 − k), and whether it is exact. -/
def floorAt (m : Nat) (e : Int) (q : Nat) (k : Int) : Nat × Bool :=
  if q = 0 then
    (shiftFloor m (e - k), decide (0 ≤ e - k ∨ m % 2 ^ (k - e).toNat = 0))
  else (root4 (shiftFloor (m ^ 4 * 2 ^ q) (4 * (e - k))), decide (m = 0))

/-- Floor of log2 of a nonzero magnitude m · 2^(e + q/4). -/
def lgFloor (m : Nat) (e : Int) (q : Nat) : Int :=
  e + (Nat.log2 (if q = 0 then m else root4 (m ^ 4 * 2 ^ q)) : Int)

/-! ### Rounding (R134, R136) -/

/-- The rounding modes; a stochastic one carries u = draw[63:32] (R136). -/
inductive Rnd where
  | rne
  | rtz
  | sr (u : Nat)
  deriving DecidableEq, Repr

/-- Round the magnitude to a multiple of 2^k: the multiple. -/
def roundTo (r : Rnd) (m : Nat) (e : Int) (q : Nat) (k : Int) : Nat :=
  match r with
  | .rne =>
    let h := floorAt m e q (k - 1)
    let n := h.1 / 2
    if h.1 % 2 = 1 ∧ (¬ h.2 ∨ n % 2 = 1) then n + 1 else n
  | .rtz => (floorAt m e q k).1
  | .sr u =>
    let h := (floorAt m e q (k - 32)).1
    let n := h / 2 ^ 32
    if (floorAt m e q k).2 then n else if u < h % 2 ^ 32 then n + 1 else n

/-- The exponent of the last place a magnitude keeps in a format: its own binade, or the subnormal grid (R134). -/
def Fmt.ulpExp (f : Fmt) (m : Nat) (e : Int) (q : Nat) : Int :=
  max (lgFloor m e q - f.man) (f.emin - f.man)

/-- Whether a value rounds in this format: not representable before flush and overflow handling (R136). -/
def Fmt.inexact (f : Fmt) : FVal → Bool
  | .fin _ m e q => decide (m ≠ 0) && !(floorAt m e q (f.ulpExp m e q)).2
  | _ => false

/-- The magnitude pattern of n · 2^k for n ≤ 2^(man + 1), with the exponent unbounded above: patterns past
`maxFin` stand for overflow. -/
def Fmt.pack (f : Fmt) (n : Nat) (k : Int) : Nat :=
  if n < 2 ^ f.man then n
  else
    let n' := if n = 2 ^ (f.man + 1) then 2 ^ f.man else n
    let k' := if n = 2 ^ (f.man + 1) then k + 1 else k
    (k' + f.man + f.bias).toNat * 2 ^ f.man + (n' - 2 ^ f.man)

/-- How a destination treats results out of range and specials: the rows of the table of R134. -/
inductive Range where
  | ieee      -- FP32, BF16, FP16 and E5M2
  | e4m3      -- E4M3, code 0
  | mxfp8     -- MXFP8
  | mxSmall   -- MXFP6, MXFP4, LQ4
  deriving DecidableEq, Repr

/-- Write a value in a floating-point format (R132–R134). With `sat` the ACVT rule of R125 replaces the overflow
columns. -/
def Fmt.encode (f : Fmt) (rg : Range) (sat : Bool) (r : Rnd) (v : FVal) : Nat :=
  match v with
  | .nan => match rg with
    | .mxSmall => 0
    | _ => f.qnan
  | .inf neg =>
    if sat then f.signed neg f.maxFin
    else match rg with
      | .ieee => f.signed neg f.infBits
      | .e4m3 => f.qnan
      | .mxfp8 => f.qnan
      | .mxSmall => 0
  | .fin neg m e q =>
    if m = 0 then f.signed neg 0
    else
      let k := f.ulpExp m e q
      let mag := f.pack (roundTo r m e q k) k
      if f.maxFin < mag then
        if sat then f.signed neg f.maxFin
        else match rg, r with
          | .ieee, .rtz => f.signed neg f.maxFin
          | .ieee, _ => f.signed neg f.infBits
          | .e4m3, .rtz => f.signed neg f.maxFin
          | .e4m3, _ => f.qnan
          | _, _ => f.signed neg f.maxFin
      else if f.flush ∧ mag < 2 ^ f.man then f.signed neg 0
      else f.signed neg mag

/-- Nearest-even result of an arithmetic operation in an IEEE-coded type (R106, R133, R134). -/
def Fmt.rne (f : Fmt) (v : FVal) : Nat := f.encode .ieee false .rne v

/-! ### Exact arithmetic -/

/-- The sign of a value. -/
def FVal.neg : FVal → Bool
  | .nan => false
  | .inf n => n
  | .fin n _ _ _ => n
/-- The value with its sign changed. -/
def FVal.negate : FVal → FVal
  | .nan => .nan
  | .inf n => .inf (!n)
  | .fin n m e q => .fin (!n) m e q
/-- The absolute value. -/
def FVal.abs : FVal → FVal
  | .nan => .nan
  | .inf _ => .inf false
  | .fin _ m e q => .fin false m e q
/-- Whether a value is a zero of either sign. -/
def FVal.isZero : FVal → Bool
  | .fin _ m _ _ => decide (m = 0)
  | _ => false

/-- Multiply by 2^(d/4). -/
def FVal.scaleQ (v : FVal) (d : Int) : FVal :=
  match v with
  | .fin n m e q =>
    let t := 4 * e + q + d
    .fin n m (t / 4) (t % 4).toNat
  | v => v

/-- The exact product (R138: "each product of an MMA is exact"). -/
def FVal.mul (a b : FVal) : FVal :=
  match a, b with
  | .nan, _ => .nan
  | _, .nan => .nan
  | .inf s, .inf t => .inf (s ^^ t)
  | .inf s, .fin t m _ _ => if m = 0 then .nan else .inf (s ^^ t)
  | .fin s m _ _, .inf t => if m = 0 then .nan else .inf (s ^^ t)
  | .fin s m e q, .fin t n f r =>
    let w := q + r
    .fin (s ^^ t) (m * n) (e + f + (w / 4 : Nat)) (w % 4)

/-- A signed integer of a sign and a magnitude. -/
def sInt (neg : Bool) (n : Nat) : Int := if neg then -(n : Int) else (n : Int)

/-- The exact sum of two values with quarter exponent 0, under IEEE 754 for zeros, infinities and NaN. -/
def FVal.add (a b : FVal) : FVal :=
  match a, b with
  | .nan, _ => .nan
  | _, .nan => .nan
  | .inf s, .inf t => if s = t then .inf s else .nan
  | .inf s, _ => .inf s
  | _, .inf t => .inf t
  | .fin s m e _, .fin t n f _ =>
    let k := min e f
    let x := sInt s (m * 2 ^ (e - k).toNat) + sInt t (n * 2 ^ (f - k).toNat)
    if x = 0 then .fin (s && t && decide (m = 0) && decide (n = 0)) 0 0 0
    else .fin (decide (x < 0)) x.natAbs k 0

/-- `a < b` on numbers (false with a NaN); zeros of either sign are equal. -/
def FVal.lt (a b : FVal) : Bool :=
  match a, b with
  | .nan, _ => false
  | _, .nan => false
  | .inf s, .inf t => s && !t
  | .inf s, .fin _ _ _ _ => s
  | .fin _ _ _ _, .inf t => !t
  | .fin s m e _, .fin t n f _ =>
    let k := min e f
    decide (sInt s (m * 2 ^ (e - k).toNat) < sInt t (n * 2 ^ (f - k).toNat))
/-- Numeric equality (false with a NaN). -/
def FVal.eqv (a b : FVal) : Bool :=
  match a, b with
  | .nan, _ => false
  | _, .nan => false
  | a, b => !a.lt b && !b.lt a

/-- The total order of minimumNumber and maximumNumber on numbers: −0 orders below +0 (R133). -/
def FVal.ltZ (a b : FVal) : Bool :=
  a.lt b || (a.isZero && b.isZero && a.neg && !b.neg)
/-- minimumNumber of IEEE 754-2019 (R133). -/
def FVal.minNum (a b : FVal) : FVal :=
  match a, b with
  | .nan, b => b
  | a, .nan => a
  | a, b => if b.ltZ a then b else a
/-- maximumNumber of IEEE 754-2019 (R133). -/
def FVal.maxNum (a b : FVal) : FVal :=
  match a, b with
  | .nan, b => b
  | a, .nan => a
  | a, b => if a.ltZ b then b else a

/-! ### Two's-complement elements -/

/-- The signed value of a `w`-bit element. -/
def sElt (w b : Nat) : Int := if b % 2 ^ w < 2 ^ (w - 1) then (b % 2 ^ w : Nat) else (b % 2 ^ w : Nat) - (2 ^ w : Nat)
/-- The `w`-bit element of an integer, wrapping. -/
def eltOf (w : Nat) (x : Int) : Nat := (x % (2 ^ w : Nat)).toNat
/-- An integer saturated to `w` bits. -/
def satInt (w : Nat) (x : Int) : Int :=
  if x < -(2 ^ (w - 1) : Nat) then -(2 ^ (w - 1) : Nat) else if (2 ^ (w - 1) : Nat) - 1 < x then (2 ^ (w - 1) : Nat) - 1 else x
/-- An integer as a value. -/
def fOfInt (x : Int) : FVal := .fin (decide (x < 0)) x.natAbs 0 0

/-- Round a value to a multiple of 2^k and saturate the multiple to `w` bits (R134, integer rows). -/
def intEncode (w : Nat) (k : Int) (r : Rnd) (v : FVal) : Nat :=
  match v with
  | .nan => 0
  | .inf neg => eltOf w (if neg then -(2 ^ (w - 1) : Nat) else (2 ^ (w - 1) : Nat) - 1)
  | .fin neg m e q => eltOf w (satInt w (sInt neg (roundTo r m e q k)))
/-- Whether a value is not a multiple of 2^k. -/
def intInexact (k : Int) : FVal → Bool
  | .fin _ m e q => !(floorAt m e q k).2
  | _ => false

/-! ### LQ4 (R131) -/

/-- Working precision of the LQ4 comparisons: LQ4 magnitudes are irrational and a source has at most 24 significant
bits, so 2^−256 separates any source from any break point (DEDUCED, log 52). -/
def lqPrec : Int := -256
/-- The LQ4 magnitude of code k, in units of 2^−256. -/
def lqMag (k : Nat) : Nat := if k = 7 then 0 else (floorAt 1 (k / 2 : Nat) (2 * (k % 2)) lqPrec).1
/-- Code of the magnitude at place i of the ascending list 0, 1, √2, …, 8. -/
def lqCode (i : Nat) : Nat := if i = 0 then 7 else i - 1
/-- How many of the codes 0 … n − 1 have a magnitude at or below x. (DEDUCED, log 52) -/
def lqPlace : Nat → Nat → Nat
  | 0, _ => 0
  | n + 1, x => if lqMag n ≤ x then n + 1 else lqPlace n x
/-- Whether a source lies on no magnitude of the LQ4 grid continued without an upper end (R134, R136). (DEDUCED, log 52) -/
def lqInexact : FVal → Bool
  | .fin _ m e q =>
    -- a power of √2 of at least 1, or zero, is on the grid
    !(decide (m = 0) || (decide (m = 2 ^ Nat.log2 m) && decide (q % 2 = 0) && decide (0 ≤ 4 * (e + (Nat.log2 m : Int)) + q)))
  | _ => false
/-- The LQ4 element of a source already divided by its block's factor (R131). The zero of an infinite source (R134) keeps
its sign, as every zero result of R131 does; that of a NaN is +0. (DEDUCED, log 52) -/
def lqEncode (r : Rnd) (v : FVal) : Nat :=
  match v with
  | .nan => 7
  | .inf neg => (if neg then 8 else 0) + 7
  | .fin neg m e q =>
    let x := (floorAt m e q lqPrec).1
    let i := lqPlace 7 x
    let lo := lqMag (lqCode i)
    let hi := lqMag (lqCode (i + 1))
    let up : Bool :=
      if i = 7 then false
      else match r with
        | .rtz => false
        | .rne => decide (lo + hi < 2 * x)
        | .sr u => lqInexact v && decide (u < (x - lo) * 2 ^ 32 / (hi - lo))
    let c := lqCode (if up then i + 1 else i)
    (if neg then 8 else 0) + c

/-! ### Element types of R111 -/

/-- Width of an element in bits, by its code (R111). -/
def etBits (c : Nat) : Nat :=
  if c ≤ 7 then 8 else if c ≤ 10 then 4 else if c ≤ 12 then 16 else 32
/-- Whether the code is block-scaled (R111). -/
def etBlock (c : Nat) : Bool := decide (3 ≤ c ∧ c ≤ 8) || decide (c = 10)
/-- K of an MMA operand code; 0 for codes that are no operand (R111). -/
def etK (c : Nat) : Nat := if c ≤ 7 then 4 else if c ≤ 10 then 8 else if c ≤ 12 then 2 else 0

/-- A block's scale: E8M0 exponent and LQ4 half-step offset (R114, R130). -/
structure BScale where
  e : Nat
  h : Nat
  deriving DecidableEq, Repr

/-- The value of an element without its block scale; `exact` keeps subnormals as the matrix unit does (R132). -/
def etElem (c : Nat) (exact : Bool) (b : Nat) : FVal :=
  match c with
  | 0 => if exact then (fmtE4M3 false).decodeExact b else (fmtE4M3 true).decode b
  | 1 => if exact then (fmtE5M2 false).decodeExact b else (fmtE5M2 true).decode b
  | 2 => fOfInt (sElt 8 b)
  | 3 => (fmtE4M3 false).decode b
  | 4 => (fmtE5M2 false).decode b
  | 5 => (fOfInt (sElt 8 b)).scaleQ (-24)
  | 6 => fmtE2M3.decode (b % 64)
  | 7 => fmtE3M2.decode (b % 64)
  | 8 => fmtE2M1.decode (b % 16)
  | 9 => fOfInt (sElt 4 b)
  | 10 =>
    let k := b % 8
    if k = 7 then .fin (decide (8 ≤ b % 16)) 0 0 0 else (FVal.fin (decide (8 ≤ b % 16)) 1 0 0).scaleQ (2 * k)
  | 11 => if exact then fmtBF16.decodeExact b else fmtBF16.decode b
  | 12 => fmtFP16.decode b
  | 13 => fmtFP32.decode b
  | 14 => fOfInt (sElt 32 b)
  | _ => .nan

/-- Multiply by a block's scale, or divide by it (R114, R130): scale 0xFF reads as NaN in every element. -/
def applyScale (c : Nat) (divide : Bool) (s : BScale) (v : FVal) : FVal :=
  if s.e = 255 then .nan
  else
    let d : Int := 4 * ((s.e : Int) - 127) + (if c = 10 then s.h else 0)
    v.scaleQ (if divide then -d else d)

/-- Whether a value rounds on conversion to a type, before flush and overflow handling (R136). -/
def etInexact (c : Nat) (v : FVal) : Bool :=
  match c with
  | 0 => (fmtE4M3 true).inexact v
  | 1 => (fmtE5M2 true).inexact v
  | 2 => intInexact 0 v
  | 3 => (fmtE4M3 false).inexact v
  | 4 => (fmtE5M2 false).inexact v
  | 5 => intInexact (-6) v
  | 6 => fmtE2M3.inexact v
  | 7 => fmtE3M2.inexact v
  | 8 => fmtE2M1.inexact v
  | 9 => intInexact 0 v
  | 10 => lqInexact v
  | 11 => fmtBF16.inexact v
  | 12 => fmtFP16.inexact v
  | 13 => fmtFP32.inexact v
  | 14 => intInexact 0 v
  | _ => false

/-- Convert a value to an element of a type (R131, R134); `sat` is ACVT's Sat (R125). -/
def etEncode (c : Nat) (sat : Bool) (r : Rnd) (v : FVal) : Nat :=
  match c with
  | 0 => (fmtE4M3 true).encode .e4m3 sat r v
  | 1 => (fmtE5M2 true).encode .ieee sat r v
  | 2 => intEncode 8 0 r v
  | 3 => (fmtE4M3 false).encode .mxfp8 sat r v
  | 4 => (fmtE5M2 false).encode .mxfp8 sat r v
  | 5 => intEncode 8 (-6) r v
  | 6 => fmtE2M3.encode .mxSmall sat r v
  | 7 => fmtE3M2.encode .mxSmall sat r v
  | 8 => fmtE2M1.encode .mxSmall sat r v
  | 9 => intEncode 4 0 r v
  | 10 => lqEncode r v
  | 11 => fmtBF16.encode .ieee sat r v
  | 12 => fmtFP16.encode .ieee sat r v
  | 13 => fmtFP32.encode .ieee sat r v
  | 14 => intEncode 32 0 r v
  | _ => 0

/-! ### The stochastic-rounding generator (R136) -/

/-- One draw: the new state and the 64-bit result (R136). -/
def srDraw (state : DWord) : DWord × DWord :=
  let st := state + 0x9E3779B97F4A7C15#64
  let z1 := (st ^^^ (st >>> 30)) * 0xBF58476D1CE4E5B9#64
  let z2 := (z1 ^^^ (z1 >>> 27)) * 0x94D049BB133111EB#64
  (st, z2 ^^^ (z2 >>> 31))

/-! ### Group sums of the matrix unit (R138, R140) -/

/-- The largest product exponent of a group: floor(log2) of the largest magnitude, over nonzero products. -/
def groupExp : List FVal → Option Int
  | [] => none
  | .fin _ m e q :: t =>
    if m = 0 then groupExp t
    else match groupExp t with
      | none => some (lgFloor m e q)
      | some g => some (max g (lgFloor m e q))
  | _ :: t => groupExp t

/-- The sum of the products truncated to multiples of 2^k. -/
def truncSum (k : Int) : List FVal → Int
  | [] => 0
  | .fin n m e q :: t => sInt n (floorAt m e q k).1 + truncSum k t
  | _ :: t => truncSum k t

/-- The sum of a group under R138 and R140. (DEDUCED, log 11) -/
def groupSum (ps : List FVal) : FVal :=
  if ps.any (fun p => p = .nan) then .nan
  else if ps.any (fun p => p = .inf false) then
    (if ps.any (fun p => p = .inf true) then .nan else .inf false)
  else if ps.any (fun p => p = .inf true) then .inf true
  else match groupExp ps with
    | none => .fin (!ps.isEmpty && ps.all FVal.neg) 0 0 0
    | some g =>
      let k := g - 29
      let x := truncSum k ps
      if x = 0 then .fin false 0 0 0 else .fin (decide (x < 0)) x.natAbs k 0

/-! ### Transcendentals (R144, R145) -/

/-- A value compared with 1: −1, 0 or 1. -/
def cmpOne (v : FVal) : Int :=
  match v with
  | .fin true _ _ _ => -1
  | .fin false m e _ =>
    let l := if 0 ≤ e then m * 2 ^ e.toNat else m
    let r := if 0 ≤ e then 1 else 2 ^ (-e).toNat
    if l < r then -1 else if l = r then 0 else 1
  | _ => 1

/-- 1/x for a finite nonzero x = m · 2^e, cut off far below the last place of a format with `man` fraction bits and with a
sticky unit: it rounds and compares with representable numbers as 1/x does. -/
def recipNear (man : Nat) (neg : Bool) (m : Nat) (e : Int) : FVal :=
  let p := Nat.log2 m + 2 * man + 64
  .fin neg (2 * (2 ^ p / m) + (if 2 ^ p % m = 0 then 0 else 1)) (-e - p - 1) 0

/-- 1/x rounded to nearest-even in a format, for a finite nonzero x = m · 2^e. -/
def recipRne (f : Fmt) (neg : Bool) (m : Nat) (e : Int) : Nat := f.encode .ieee false .rne (recipNear f.man neg m e)

/-- 1/√x for a positive finite x = m · 2^e, cut off far below the last place of FP32 and with a sticky unit. -/
def rsqrtNear (m : Nat) (e : Int) : FVal :=
  let m' := if e % 2 = 0 then m else 2 * m
  let e' := if e % 2 = 0 then e else e - 1
  let p := Nat.log2 m' / 2 + 112
  let n := isqrt (2 ^ (2 * p) / m')
  .fin false (2 * n + (if n * n * m' = 2 ^ (2 * p) then 0 else 1)) (-(e' / 2) - p - 1) 0

/-- 1/√x rounded to nearest-even in FP32, for a positive finite x = m · 2^e. -/
def rsqrtRne (m : Nat) (e : Int) : Nat := fmtFP32.encode .ieee false .rne (rsqrtNear m e)

/-- The magnitude pattern with results that would be subnormal written as zero (R144). -/
def flushSub (f : Fmt) (b : Nat) : Nat :=
  if (b / 2 ^ f.man) % 2 ^ f.exp = 0 then f.signed (decide (2 ^ (f.exp + f.man) ≤ b)) 0 else b

/-- 2^f in units of 2^−64, for f given by its bits below the point, highest first: the product of 2^(2^−i) over the
bits set. `c` is 2^(2^−i) in the same units. Each step loses less than two units. -/
def exp2Bits : Nat → Nat → Nat → Nat → Nat
  | 0, _, _, p => p
  | n + 1, f, c, p =>
    let c := isqrt (c * 2 ^ 64)
    exp2Bits n f c (if f.testBit n then p * c / 2 ^ 64 else p)

/-- 2^x for x = ±m · 2^e, to within 2^−56 of itself. -/
def exp2Near (neg : Bool) (m : Nat) (e : Int) : FVal :=
  let t := (floorAt m e 0 (-64)).1
  let x : Int := sInt neg t
  .fin false (exp2Bits 64 (x % 2 ^ 64).toNat (2 ^ 65) (2 ^ 64)) (x / 2 ^ 64 - 64) 0

/-- The first `n` bits of log2 y below the point, for y in [1, 2) in units of 2^−160: squaring doubles the logarithm. -/
def log2Bits : Nat → Nat → Nat → Nat
  | 0, _, r => r
  | n + 1, y, r =>
    let z := y * y / 2 ^ 160
    if 2 ^ 161 ≤ z then log2Bits n (z / 2) (2 * r + 1) else log2Bits n z (2 * r)

/-- log2 x for x = m · 2^e, to within 2^−64. -/
def log2Near (m : Nat) (e : Int) : FVal :=
  let l := Nat.log2 m
  let v : Int := (e + l) * 2 ^ 64 + (log2Bits 64 (m * 2 ^ 160 / 2 ^ l) 0 : Nat)
  .fin (decide (v < 0)) v.natAbs (-64) 0

/-- Whether an FP32 pattern lies within `n` · 2^k of a value. -/
def within (a : Nat) (v : FVal) (n : Nat) (k : Int) : Bool :=
  !(FVal.fin false n k 0).lt ((fmtFP32.decode a).add v.negate).abs && decide (fmtFP32.decode a ≠ .nan)

/-- The last place of a value in FP32. -/
def fp32Ulp : FVal → Int
  | .fin _ m e q => fmtFP32.ulpExp m e q
  | _ => 0

/-- Whether an FP32 pattern is finite. -/
def finite (a : Nat) : Bool := decide (a % 2 ^ 31 < fmtFP32.infBits)
/-- The magnitude of an FP32 pattern moved by `d` units of 2^u. -/
def offBy (a : Nat) (u d : Int) : FVal := (fmtFP32.decode (a % 2 ^ 31)).add (.fin (decide (d < 0)) d.natAbs u 0)

/-- The FP32 result of a transcendental on a finite nonzero operand other than 1, from the unpublished approximation
within its bound (R144): an approximation outside it is taken as the rounded result. No result lies beyond its bound; of
EXP2 and LOG2 one that comes within 2^−30 of a last place of the bound counts as outside. (DESIGN CHOICE, log 47) -/
def xcnFp32 (fn : Nat) (neg : Bool) (m : Nat) (e : Int) (b : Nat) : Nat :=
  let a := (Config.xcnApprox (BitVec.ofNat 2 fn) (BitVec.ofNat 32 b)).toNat
  match fn with
  | 0 =>
    -- 2^x for x ≥ 128 rounds beyond the largest finite value; below −126 it would be subnormal (R144, R145)
    if !neg && decide (128 ≤ (floorAt m e 0 0).1) then fmtFP32.infBits
    else if neg && (FVal.fin false 126 0 0).lt (.fin false m e 0) then 0
    else
      let v := exp2Near neg m e
      -- for −2^−64 < x < 0 the result lies just below the 1 that stands for it, where a last place is half as large
      let u := if neg && decide ((floorAt m e 0 (-64)).1 = 0) then -24 else fp32Ulp v
      if within a v (2 ^ 31 - 1) (u - 30) then a else fmtFP32.rne v
  | 1 =>
    let v := log2Near m e
    let near := !(FVal.fin false m e 0).lt (.fin false 1 (-1) 0) && !(FVal.fin false 2 0 0).lt (.fin false m e 0)
    if (if near then within a v (2 ^ 31 - 1) (-52) else within a v (2 ^ 31 - 1) (fp32Ulp v - 30)) then a else fmtFP32.rne v
  | 2 =>
    let u := fp32Ulp (recipNear 23 neg m e)
    let x := FVal.fin false m e 0
    let ok := decide (a / 2 ^ 31 = if neg then 1 else 0) && finite a &&
      decide (cmpOne ((offBy a u (-1)).mul x) ≤ 0) && decide (0 ≤ cmpOne ((offBy a u 1).mul x))
    if ok then a else recipRne fmtFP32 neg m e
  | _ =>
    let u := fp32Ulp (rsqrtNear m e)
    let x := FVal.fin false m e 0
    let lo := offBy a u (-2)
    let hi := offBy a u 2
    let ok := decide (a < 2 ^ 31) && finite a && !lo.neg &&
      decide (cmpOne ((lo.mul lo).mul x) ≤ 0) && decide (0 ≤ cmpOne ((hi.mul hi).mul x))
    if ok then a else rsqrtRne m e

/-- EXP2 (0), LOG2 (1), RCP (2), RSQ (3) of one element (R115, R144, R145). -/
def xcnElem (f : Fmt) (fn b : Nat) : Nat :=
  let inf (n : Bool) := f.signed n f.infBits
  let one := f.bias * 2 ^ f.man
  match f.decode b with
  | .nan => f.qnan
  | .inf neg => match fn with
    | 0 => if neg then 0 else inf false
    | 1 => if neg then f.qnan else inf false
    | 2 => f.signed neg 0
    | _ => if neg then f.qnan else 0
  | .fin neg m e q =>
    if m = 0 then match fn with
      | 0 => one
      | 1 => inf true
      | 2 => inf neg
      | _ => inf neg
    else if neg && decide (fn = 1 ∨ fn = 3) then f.qnan
    else if !neg && decide (b % 2 ^ (f.exp + f.man) = one) then match fn with
      | 0 => one + 2 ^ f.man
      | 1 => 0
      | _ => one
    else if fn = 2 ∧ f.man ≠ 23 then flushSub f (recipRne f neg m e)
    else
      let r32 := flushSub fmtFP32 (xcnFp32 fn neg m e (fmtFP32.rne (.fin neg m e q)))
      if f.man = 23 then r32
      else flushSub f (f.rne (fmtFP32.decode r32))

end Sys2Proof.Machine
end

