-- ==== Sys2Proof/Machine/Operands.lean ====
section
/-! DEFINITION. Operand forms of the vector and matrix instructions: elements of a register (R103), predication
(R20, R105), and the value each operation group computes from its source registers (R106–R125). -/

namespace Sys2Proof.Machine

/-! ### Elements -/

/-- Element `i` of width `w` bits of a register (R103). -/
def velt (w : Nat) (x : VWord) (i : Nat) : Nat := x.toNat / 2 ^ (w * i) % 2 ^ w

/-- The number whose elements 0 … n − 1 of width `w` are `f 0` … `f (n − 1)`. -/
def vpack (w : Nat) : Nat → (Nat → Nat) → Nat
  | 0, _ => 0
  | n + 1, f => vpack w n f + (f n % 2 ^ w) * 2 ^ (w * n)

/-- The register whose elements of width `w` are given by `f`. -/
def vmake (w : Nat) (f : Nat → Nat) : VWord := BitVec.ofNat 1024 (vpack w (1024 / w) f)

/-- Whether the element `i` of width `w` bits is active under a predicate: the bit of its lowest byte lane (R20). -/
def vactive (p : PWord) (w i : Nat) : Bool := p.getLsbD (w / 8 * i)

/-- Active elements from `f`, inactive ones from the old destination (R20). -/
def vmerge (w : Nat) (p : PWord) (old : VWord) (f : Nat → Nat) : VWord :=
  vmake w (fun i => if vactive p w i then f i else velt w old i)

/-- The predicate whose lanes of each element of width `w` bits hold that element's test (R109). -/
def pmake (w : Nat) (p : PWord) (old : PWord) (f : Nat → Bool) : PWord :=
  BitVec.ofNat 128 (vpack (w / 8) (1024 / w) (fun i =>
    if vactive p w i then (if f i then 2 ^ (w / 8) - 1 else 0) else old.toNat / 2 ^ (w / 8 * i) % 2 ^ (w / 8)))

/-- Width in bits of a lane type code (R104); 0 for a reserved code. -/
def laneBits (t : Nat) : Nat :=
  match t with
  | 0 => 32
  | 1 => 16
  | 2 => 16
  | 3 => 8
  | 4 => 16
  | 5 => 32
  | _ => 0

/-- Format of a floating-point lane type (R104, R132). -/
def laneFmt (t : Nat) : Fmt := if t = 1 then fmtBF16 else if t = 2 then fmtFP16 else fmtFP32

/-! ### VFP (R106) -/

/-- Whether `fn` is a VFP operation on its lane type (R104, R106). -/
def vfpLegal (fn : BitVec 8) (vs2 : BitVec 5) : Bool :=
  decide (fn.toNat / 32 ≤ 2) && decide (fn.toNat % 32 ≤ 8) && (decide (fn.toNat % 32 < 7) || vs2 = 0#5)

/-- One element of a VFP operation; `d` is the old destination element (R106, R132, R133). -/
def vfpElt (f : Fmt) (op a b d : Nat) : Nat :=
  let x := f.decode a
  let y := f.decode b
  let z := f.decode d
  f.rne (match op with
    | 0 => x.add y
    | 1 => x.add y.negate
    | 2 => x.mul y
    | 3 => (x.mul y).add z
    | 4 => (x.mul y).negate.add z
    | 5 => x.minNum y
    | 6 => x.maxNum y
    | 7 => x.abs
    | _ => x.negate)

/-- VFP over a register. -/
def vfpVal (fn : BitVec 8) (p : PWord) (a b d : VWord) : VWord :=
  let t := fn.toNat / 32
  let w := laneBits t
  vmerge w p d (fun i => vfpElt (laneFmt t) (fn.toNat % 32) (velt w a i) (velt w b i) (velt w d i))

/-- Latency of a VFP operation (R102). -/
def vfpLat (fn : BitVec 8) : Nat := if fn.toNat % 32 < 5 then 4 else 2

/-! ### VINT (R107) -/

/-- Whether `fn` is a VINT operation (R104, R107). -/
def vintLegal (fn : BitVec 8) (vs2 : BitVec 5) : Bool :=
  decide (3 ≤ fn.toNat / 32) && decide (fn.toNat / 32 ≤ 5) && decide (fn.toNat % 32 ≤ 13) &&
    (decide (fn.toNat % 32 ≠ 13) || vs2 = 0#5)

/-- Base-2 logarithm of an element width: the bits of its shift count (R107). -/
def shiftBits (w : Nat) : Nat := if w = 8 then 3 else if w = 16 then 4 else 5

/-- One element of a VINT operation on `w`-bit elements; `d` is the old destination element (R107). -/
def vintElt (w op a b d : Nat) : Nat :=
  let x := sElt w a
  let y := sElt w b
  let n := b % 2 ^ shiftBits w
  match op with
  | 0 => eltOf w (x + y)
  | 1 => eltOf w (x - y)
  | 2 => eltOf w (x * y)
  | 3 => eltOf w (sElt w d + x * y)
  | 4 => eltOf w (min x y)
  | 5 => eltOf w (max x y)
  | 6 => min a b
  | 7 => max a b
  | 8 => (a * 2 ^ n) % 2 ^ w
  | 9 => a / 2 ^ n
  | 10 => eltOf w (x / (2 ^ n : Nat))
  | 11 => eltOf w (satInt w (x + y))
  | 12 => eltOf w (satInt w (x - y))
  | _ => eltOf w x.natAbs

/-- VINT over a register. -/
def vintVal (fn : BitVec 8) (p : PWord) (a b d : VWord) : VWord :=
  let w := laneBits (fn.toNat / 32)
  vmerge w p d (fun i => vintElt w (fn.toNat % 32) (velt w a i) (velt w b i) (velt w d i))

/-! ### VLOG (R108) -/

/-- Whether `fn` is a VLOG operation (R108). -/
def vlogLegal (fn : BitVec 8) (vs2 : BitVec 5) : Bool :=
  decide (fn.toNat ≤ 6) && ((decide (fn.toNat ≠ 4) && decide (fn.toNat ≠ 5)) || vs2 = 0#5)

/-- The mask with eight ones for each set bit of a predicate. -/
def laneMask (p : PWord) : VWord := vmake 8 (fun i => if p.getLsbD i then 255 else 0)

/-- VLOG over a register, byte lane by byte lane (R108). -/
def vlogVal (fn : BitVec 8) (p : PWord) (a b d : VWord) : VWord :=
  let m := laneMask p
  let r := match fn.toNat with
    | 0 => a &&& b
    | 1 => a ||| b
    | 2 => a ^^^ b
    | 3 => a &&& ~~~b
    | 4 => ~~~a
    | _ => a
  if fn.toNat = 6 then (a &&& m) ||| (b &&& ~~~m) else (r &&& m) ||| (d &&& ~~~m)

/-! ### VCMP and VPRED (R109, R110) -/

/-- Whether `fn` is a VCMP test on its lane type (R104, R109). -/
def vcmpLegal (fn : BitVec 8) (vd : BitVec 5) : Bool :=
  decide (fn.toNat / 32 ≤ 5) && decide (fn.toNat % 32 ≤ 8) && decide (vd.toNat < 8) &&
    (decide (fn.toNat % 32 < 6) || (if fn.toNat % 32 = 8 then decide (fn.toNat / 32 ≤ 2) else decide (3 ≤ fn.toNat / 32)))

/-- One floating-point test (R109): with a NaN every test but NE and UNORD is false. -/
def fcmp (op : Nat) (x y : FVal) : Bool :=
  let un : Bool := decide (x = .nan) || decide (y = .nan)
  match op with
  | 0 => x.eqv y
  | 1 => !x.eqv y
  | 2 => x.lt y
  | 3 => !un && !y.lt x
  | 4 => y.lt x
  | 5 => !un && !x.lt y
  | _ => un

/-- One integer test (R109). -/
def icmp (w op a b : Nat) : Bool :=
  let x := sElt w a
  let y := sElt w b
  match op with
  | 0 => decide (a = b)
  | 1 => decide (a ≠ b)
  | 2 => decide (x < y)
  | 3 => decide (x ≤ y)
  | 4 => decide (y < x)
  | 5 => decide (y ≤ x)
  | 6 => decide (a < b)
  | _ => decide (b ≤ a)

/-- VCMP: the predicate written (R109), under p[pm] (R105). -/
def vcmpVal (fn : BitVec 8) (p : PWord) (a b : VWord) (d : PWord) : PWord :=
  let t := fn.toNat / 32
  let w := laneBits t
  let op := fn.toNat % 32
  pmake w p d (fun i =>
    if t ≤ 2 then fcmp op ((laneFmt t).decode (velt w a i)) ((laneFmt t).decode (velt w b i))
    else icmp w op (velt w a i) (velt w b i))

/-- Whether the fields are a VPRED operation (R101, R105, R110). -/
def vpredLegal (fn : BitVec 8) (vd vs1 vs2 : BitVec 5) (pm : BitVec 3) : Bool :=
  decide (vd.toNat < 8) && decide (vs1.toNat < 8) && decide (vs2.toNat < 8) && decide (pm = 0#3) &&
    (if fn.toNat < 4 then true
     else if fn.toNat = 4 then decide (vs2 = 0#5)
     else decide (128 ≤ fn.toNat) && decide (vs1 = 0#5) && decide (vs2 = 0#5))

/-- VPRED: the predicate written (R110). -/
def vpredVal (fn : BitVec 8) (a b : PWord) : PWord :=
  match fn.toNat with
  | 0 => a &&& b
  | 1 => a ||| b
  | 2 => a ^^^ b
  | 3 => a &&& ~~~b
  | 4 => ~~~a
  | n => BitVec.ofNat 128 (2 ^ (n - 128) - 1)

/-! ### VXCN (R115) -/

/-- Whether `fn` is a VXCN function (R104, R115). -/
def vxcnLegal (fn : BitVec 8) (vs2 : BitVec 5) : Bool :=
  decide (fn.toNat / 32 ≤ 2) && decide (fn.toNat % 32 ≤ 3) && decide (vs2 = 0#5)

/-- VXCN over a register (R115, R144, R145). -/
def vxcnVal (fn : BitVec 8) (p : PWord) (a d : VWord) : VWord :=
  let t := fn.toNat / 32
  let w := laneBits t
  vmerge w p d (fun i => xcnElem (laneFmt t) (fn.toNat % 32) (velt w a i))

/-! ### VPERM (R116) -/

/-- Whether `fn` is a VPERM operation (R104, R116). -/
def vpermLegal (fn : BitVec 8) : Bool := decide (fn.toNat / 32 ≤ 5) && decide (fn.toNat % 32 ≤ 6)

/-- Element `i` of a VPERM result with `n` elements of width `w` (R116). -/
def vpermElt (w n op : Nat) (a b : VWord) (i : Nat) : Nat :=
  match op with
  | 0 => if velt w b i < n then velt w a (velt w b i) else 0
  | 1 => if i % 2 = 0 then velt w a (i / 2) else velt w b (i / 2)
  | 2 => if i % 2 = 0 then velt w a (n / 2 + i / 2) else velt w b (n / 2 + i / 2)
  | 3 => if i < n / 2 then velt w a (2 * i) else velt w b (2 * (i - n / 2))
  | 4 => if i < n / 2 then velt w a (2 * i + 1) else velt w b (2 * (i - n / 2) + 1)
  | 5 => velt w a ((i + velt w b 0) % n)
  | _ => velt w a (velt w b 0 % n)

/-- VPERM over a register. -/
def vpermVal (fn : BitVec 8) (p : PWord) (a b d : VWord) : VWord :=
  let w := laneBits (fn.toNat / 32)
  vmerge w p d (fun i => vpermElt w (1024 / w) (fn.toNat % 32) a b i)

/-! ### VRED (R117, R118) -/

/-- Whether the fields are a VRED operation (R104, R117): BSCALE takes floating-point sources and a block-scaled
target code in the vs2 field; no rule marks vs2 zero for the others, so it is ignored there (log 31). (DEDUCED, log 31) -/
def vredLegal (fn : BitVec 8) (vs2 : BitVec 5) : Bool :=
  decide (fn.toNat / 32 ≤ 5) &&
    (if fn.toNat % 32 < 5 then true
     else decide (fn.toNat % 32 = 5) && decide (fn.toNat / 32 ≤ 2) && etBlock vs2.toNat)

/-- FP32 sum of adjacent pairs, level by level (R117). -/
def pairSums : List Nat → List Nat
  | a :: b :: t => fmtFP32.rne ((fmtFP32.decode a).add (fmtFP32.decode b)) :: pairSums t
  | t => t

/-- The pairwise tree over 2^n elements. -/
def treeSum : Nat → List Nat → Nat
  | 0, l => l.headD 0
  | n + 1, l => treeSum n (pairSums l)

/-- The elements of a register as a list. -/
def velts (w : Nat) (x : VWord) : List Nat := (List.range (1024 / w)).map (velt w x)

/-- Fold the active elements: the best so far with its index, `better x y` saying x displaces y. -/
def bestElt {α : Type} (better : α → α → Bool) (act : Nat → Bool) : Nat → List α → Option (α × Nat) → Option (α × Nat)
  | _, [], r => r
  | i, x :: t, r =>
    bestElt better act (i + 1) t (if act i then
      (match r with
       | none => some (x, i)
       | some (y, _) => if better x y then some (x, i) else r)
      else r)

/-- x displaces y as a maximum (or minimum): a number displaces a NaN, and strictly larger (smaller) a number. -/
def fBetter (mx : Bool) (x y : FVal) : Bool :=
  match x, y with
  | .nan, _ => false
  | _, .nan => true
  | x, y => if mx then y.ltZ x else x.ltZ y

/-- RMAX, RMIN, RARGMAX and RARGMIN (R117, R133): the value in the source type, widened with `wide`, and the index. Where
every active element is a NaN the rules give no index: the model takes the lowest active one. (DESIGN CHOICE, log 31) -/
def vredBest (t : Nat) (mx wide : Bool) (p : PWord) (a : VWord) : Nat × Nat :=
  let w := laneBits t
  let act := vactive p w
  if t ≤ 2 then
    let f := laneFmt t
    let g := if wide then fmtFP32 else f
    match bestElt (fBetter mx) act 0 ((velts w a).map f.decode) none with
    | none => (g.rne (.inf mx), 2 ^ 32 - 1)
    | some (x, i) => (g.rne x, i)
  else
    let g := if wide then 32 else w
    match bestElt (fun x y : Int => if mx then decide (y < x) else decide (x < y)) act 0 ((velts w a).map (sElt w)) none with
    | none => (eltOf g (if mx then -(2 ^ (w - 1) : Nat) else (2 ^ (w - 1) : Nat) - 1), 2 ^ 32 - 1)
    | some (x, i) => (eltOf g x, i)

/-- Ceiling of log2 of a positive number. -/
def clog2 (n : Nat) : Nat := if n = 2 ^ Nat.log2 n then Nat.log2 n else Nat.log2 n + 1

/-- emax of a BSCALE target (R135). -/
def bsEmax (c : Nat) : Int :=
  match c with
  | 3 => 8
  | 4 => 15
  | 6 => 2
  | 7 => 4
  | 8 => 2
  | _ => 0

/-- The block scale of a list of active element values (R131, R135). -/
def blockScale (c : Nat) (vs : List FVal) : BScale :=
  if vs.any (fun v => match v with | .fin _ _ _ _ => false | _ => true) then ⟨255, 0⟩
  else
    match vs.foldl (fun m v => FVal.maxNum m v.abs) (FVal.fin false 0 0 0) with
    | .fin _ m e _ =>
      if m = 0 then ⟨0, 0⟩
      else if c = 10 then
        -- smallest q with amax ≤ 8 · 2^(q/4): the ceiling of log2 of (amax / 8)^4
        let q : Int := (clog2 (m ^ 4) : Int) + 4 * e - 12
        if q < -508 then ⟨0, 0⟩
        else if 508 < q then ⟨254, 3⟩
        else ⟨(127 + q / 4).toNat, (q % 4).toNat⟩
      else
        let x : Int := 127 + lgFloor m e 0 - bsEmax c
        ⟨if x < 0 then 0 else if 254 < x then 254 else x.toNat, 0⟩
    | _ => ⟨255, 0⟩

/-- A scale vector from the scales of the indices below `n` (R114): E8M0 bytes 0–63, offsets from byte 64. -/
def scaleVec (n : Nat) (f : Nat → BScale) : VWord :=
  BitVec.ofNat 1024 (vpack 8 64 (fun i => if i < n then (f i).e else 0) +
    vpack 2 64 (fun i => if i < n then (f i).h else 0) * 2 ^ 512)

/-- The scale of index `i` of a scale vector (R114). -/
def scaleAt (v : VWord) (i : Nat) : BScale := ⟨velt 8 v i, v.toNat / 2 ^ (512 + 2 * i) % 4⟩

/-- VRED (R117, R118). (DEDUCED, log 31) -/
def vredVal (fn : BitVec 8) (vs2 : BitVec 5) (p : PWord) (a : VWord) : VWord :=
  let t := fn.toNat / 32
  let w := laneBits t
  match fn.toNat % 32 with
  | 0 =>
    if t ≤ 2 then
      let l := (List.range (1024 / w)).map (fun i =>
        if vactive p w i then fmtFP32.rne ((laneFmt t).decode (velt w a i)) else 0)
      BitVec.ofNat 1024 (treeSum (if t = 0 then 5 else 6) l)
    else
      BitVec.ofNat 1024 (eltOf 32 ((List.range (1024 / w)).foldl (fun s i =>
        if vactive p w i then s + sElt w (velt w a i) else s) 0))
  | 1 => BitVec.ofNat 1024 (vredBest t true false p a).1
  | 2 => BitVec.ofNat 1024 (vredBest t false false p a).1
  | 3 => let r := vredBest t true true p a; BitVec.ofNat 1024 (r.1 + r.2 * 2 ^ 32)
  | 4 => let r := vredBest t false true p a; BitVec.ofNat 1024 (r.1 + r.2 * 2 ^ 32)
  | _ =>
    scaleVec (1024 / w / 32) (fun j =>
      blockScale vs2.toNat (((List.range 32).filter (fun k => vactive p w (32 * j + k))).map
        (fun k => (laneFmt t).decode (velt w a (32 * j + k)))))

/-! ### VCVT (R112–R114) -/

/-- Whether the fields are a conversion that R112 and R114 allow. -/
def vcvtLegal (fn : BitVec 8) (vs2 : BitVec 5) (pm : BitVec 3) : Bool :=
  let c := fn.toNat % 16
  let d := fn.toNat / 16
  decide (c ≠ 15) && decide (d ≠ 15) && decide (c ≠ d) && !(etBlock c && etBlock d) &&
    (if etBits d < etBits c then decide (pm.toNat < etBits c / etBits d)
     else if etBits c < etBits d then decide (pm.toNat < etBits d / etBits c)
     else decide (pm = 0#3)) &&
    (etBlock c || etBlock d || decide (vs2 = 0#5))

/-- The rounding mode with one draw if the element rounds, and the generator after it (R113, R136): a widening conversion too
where its result is inexact, as LQ4 and INT32 results are (R134). (DEDUCED, log 52) -/
def drawIf (sr : Bool) (mode : Rnd) (inexact : Bool) (g : DWord) : Rnd × DWord :=
  if sr && inexact then (.sr ((srDraw g).2.toNat / 2 ^ 32), (srDraw g).1) else (mode, g)

/-- Convert elements `i`, `i + 1`, …: the values written, in order, and the generator after them. -/
def cvtList (d : Nat) (sat : Bool) (mode : Rnd) (sr : Bool) : List FVal → DWord → List Nat × DWord
  | [], g => ([], g)
  | v :: t, g =>
    let r := drawIf sr mode (etInexact d v) g
    let u := cvtList d sat mode sr t r.2
    (etEncode d sat r.1 v :: u.1, u.2)

/-- VCVT: the destination register and the generator after it (R112–R114, R131, R134, R136). -/
def vcvtVal (mode : Rnd) (sr : Bool) (fn : BitVec 8) (pm : BitVec 3) (a sv d : VWord) (g : DWord) : VWord × DWord :=
  let c := fn.toNat % 16
  let k := fn.toNat / 16
  let ws := etBits c
  let wd := etBits k
  let n := 1024 / max ws wd
  let base := if ws < wd then pm.toNat * n else 0
  let src := (List.range n).map (fun i =>
    let v := etElem c false (velt ws a (base + i))
    if etBlock c then applyScale c false (scaleAt sv (i / 32)) v
    else if etBlock k then applyScale k true (scaleAt sv (i / 32)) v
    else v)
  let r := cvtList k false mode sr src g
  let out := if wd < ws then pm.toNat * n else 0
  (vmake wd (fun i => if out ≤ i ∧ i < out + n then r.1.getD (i - out) 0 else velt wd d i), r.2)

/-! ### MMA and the accumulators (R119–R126, R138–R140) -/

/-- Whether two operand codes pair (R120). -/
def mmaPair (a b : Nat) : Bool :=
  decide (etK a ≠ 0) && decide (etK a = etK b) &&
    (if a = 2 ∨ b = 2 then decide (a = b)
     else if a = 9 ∨ b = 9 then decide (a = b)
     else if a = 10 then decide (b = 10 ∨ b = 8)
     else if b = 10 then decide (a = 10 ∨ a = 8)
     else true)

/-- Whether the fields are a legal MMA (R120, R122). -/
def mmaLegal (fa fb : BitVec 4) (scale : BitVec 2) : Bool :=
  mmaPair fa.toNat fb.toNat && (etBlock fa.toNat || etBlock fb.toNat || decide (scale = 0#2))

/-- Active rows of an MMA's Rows subfield (R121). -/
def mmaRows (mode : BitVec 4) : Nat :=
  match mode.toNat / 4 with
  | 0 => 32
  | 1 => 16
  | 2 => 8
  | _ => 1

/-- One MMA's contribution to one accumulator row that is not yet added in: the row of A, B and the scales (R138). (DEDUCED, log 11) -/
structure MRec where
  fa  : BitVec 4
  fb  : BitVec 4
  neg : Bool
  row : BitVec 5
  a   : BitVec 32
  b   : VWord
  sv  : VWord
  deriving DecidableEq, Repr

/-- The exact product values that a record brings to column `c` (R119, R122, R138). -/
def mrecProducts (m : MRec) (c : Nat) : List FVal :=
  let fa := m.fa.toNat
  let fb := m.fb.toNat
  let k := etK fa
  let w := 32 / k
  (List.range k).map (fun i =>
    let x := etElem fa true (m.a.toNat / 2 ^ (w * i) % 2 ^ w)
    let y := etElem fb true (velt w m.b (k * c + i))
    let x' := if etBlock fa then applyScale fa false (scaleAt m.sv m.row.toNat) x else x
    let y' := if etBlock fb then applyScale fb false (scaleAt m.sv (32 + c)) y else y
    let z := x'.mul y'
    if m.neg then z.negate else z)

/-- How many products per element the open group of a row holds. -/
def groupCount (g : List MRec) : Nat := g.foldl (fun n m => n + etK m.fa.toNat) 0

/-- Close a row's open group: a ← RNE(a + S_g) in every column (R138, R140). Overflow is judged on the rounded sum alone: a
finite S_g beyond the FP32 range is no infinity before it meets the accumulator. (DEDUCED, log 11) -/
def closeRow (row : VWord) (g : List MRec) : VWord :=
  if g.isEmpty then row
  else vmake 32 (fun c =>
    fmtFP32.rne ((fmtFP32.decode (velt 32 row c)).add (groupSum (g.flatMap (fun m => mrecProducts m c)))))

/-- Add one MMA record to a row: (row, open group) after it (R121, R139). ZeroFirst drops the row and its group;
−0 in every element is the identity of the addition that closes the new group. (DEDUCED, log 11) -/
def mmaRow (zeroFirst : Bool) (m : MRec) (row : VWord) (g : List MRec) : VWord × List MRec :=
  let r0 : VWord × List MRec :=
    if zeroFirst then (vmake 32 (fun _ => 2 ^ 31), [])
    else if 32 < groupCount g + etK m.fa.toNat then (closeRow row g, [])
    else (row, g)
  let g1 := r0.2 ++ [m]
  if groupCount g1 = 32 then (closeRow r0.1 g1, []) else (r0.1, g1)

/-- Whether the fields are a legal ACVT (R111, R123, R125). -/
def acvtLegal (fmt : BitVec 4) (rnd : BitVec 2) (mul : Bool) (zero part scale : BitVec 2) : Bool :=
  decide (fmt.toNat ≤ 2 ∨ (11 ≤ fmt.toNat ∧ fmt.toNat ≤ 14)) && decide (rnd ≠ 3#2) && decide (zero = 0#2) &&
    (mul || decide (scale = 0#2)) && decide (part.toNat < 32 / etBits fmt.toNat)

/-- ACVT of one closed accumulator row (R125): the register and the generator after it. An exact product is rounded once,
to the destination. -/
def acvtVal (fmt : BitVec 4) (rnd : BitVec 2) (mul sat : Bool) (part : BitVec 2) (row mv d : VWord) (g : DWord) :
    VWord × DWord :=
  let src := (List.range 32).map (fun c =>
    let x := fmtFP32.decode (velt 32 row c)
    if mul then x.mul (fmtFP32.decode (velt 32 mv c)) else x)
  let r := cvtList fmt.toNat sat (if rnd = 1#2 then .rtz else .rne) (decide (rnd = 2#2)) src g
  let w := etBits fmt.toNat
  (vmake w (fun i => if 32 * part.toNat ≤ i ∧ i < 32 * part.toNat + 32 then r.1.getD (i - 32 * part.toNat) 0
    else velt w d i), r.2)

/-! ### Scalar operations (R76) -/

/-- The ALU functions of opcode 0x01; none for a reserved function (R76). -/
def aluVal (fn : BitVec 11) (a b : DWord) : Option DWord :=
  let n := b.toNat % 64
  match fn.toNat with
  | 0x00 => some (a + b)
  | 0x01 => some (a - b)
  | 0x02 => some (a &&& b)
  | 0x03 => some (a ||| b)
  | 0x04 => some (a ^^^ b)
  | 0x05 => some (a <<< n)
  | 0x06 => some (a >>> n)
  | 0x07 => some (a.sshiftRight n)
  | 0x08 => some (if a.slt b then 1 else 0)
  | 0x09 => some (if a.ult b then 1 else 0)
  | 0x0A => some (if b.slt a then b else a)
  | 0x0B => some (if a.slt b then b else a)
  | 0x0C => some (if b.ult a then b else a)
  | 0x0D => some (if a.ult b then b else a)
  | 0x10 => some (a * b)
  | _ => none

/-- A 16-bit immediate sign-extended (R74). -/
def sx16 (imm : BitVec 16) : DWord := imm.signExtend 64
/-- A 16-bit immediate zero-extended (R74). -/
def zx16 (imm : BitVec 16) : DWord := imm.zeroExtend 64

/-! ### Element arithmetic at a home (R92, R93, R143) -/

/-- One addition in FP32 (0), BF16 (1) or INT32 (2), rounded to nearest-even (R143). -/
def redAdd (t a b : Nat) : Nat :=
  if t = 2 then (a + b) % 2 ^ 32
  else let f := laneFmt t; f.rne ((f.decode a).add (f.decode b))

/-- One maximum or minimum in FP32, BF16 or INT32 (R93, R133). -/
def redBest (mx : Bool) (t a b : Nat) : Nat :=
  if t = 2 then eltOf 32 (if mx then max (sElt 32 a) (sElt 32 b) else min (sElt 32 a) (sElt 32 b))
  else
    let f := laneFmt t
    f.rne (if mx then (f.decode a).maxNum (f.decode b) else (f.decode a).minNum (f.decode b))

/-- Whether pair x (value, index) displaces pair y: a better value, or an equal value with a lower index (R93). -/
def pairBetter (mx : Bool) (x y : Nat × Nat) : Bool :=
  let u := fmtFP32.decode x.1
  let v := fmtFP32.decode y.1
  fBetter mx u v || (!fBetter mx v u && decide (sElt 32 x.2 < sElt 32 y.2))

/-- Insert a pair in a list in descending order of value (R93). -/
def pairInsert (x : Nat × Nat) : List (Nat × Nat) → List (Nat × Nat)
  | [] => [x]
  | y :: t => if pairBetter true x y then x :: y :: t else y :: pairInsert x t

/-- The pair at place `i` of a block: FP32 value in the even word, index in the odd word (R93). -/
def pairAt (x i : Nat) : Nat × Nat := (x / 2 ^ (64 * i) % 2 ^ 32, x / 2 ^ (64 * i + 32) % 2 ^ 32)
/-- A pair as 64 bits; a NaN value is written as the canonical NaN (R133). -/
def pairBits (p : Nat × Nat) : Nat := fmtFP32.rne (fmtFP32.decode p.1) + p.2 * 2 ^ 32

/-- Combine a contribution `b` with a stored block `a` under a FRED operation and element type (R93, R143): 1,024
bits, or 512 for the top-8 merge. -/
def fredVal (op size : Nat) (a b : Nat) : Nat :=
  let w := if size = 1 then 16 else 32
  match op with
  | 0 => vpack w (1024 / w) (fun i => redAdd size (a / 2 ^ (w * i) % 2 ^ w) (b / 2 ^ (w * i) % 2 ^ w))
  | 1 => vpack w (1024 / w) (fun i => redBest true size (a / 2 ^ (w * i) % 2 ^ w) (b / 2 ^ (w * i) % 2 ^ w))
  | 2 => vpack w (1024 / w) (fun i => redBest false size (a / 2 ^ (w * i) % 2 ^ w) (b / 2 ^ (w * i) % 2 ^ w))
  | 3 => vpack 64 16 (fun i => pairBits (if pairBetter true (pairAt b i) (pairAt a i) then pairAt b i else pairAt a i))
  | 4 => vpack 64 16 (fun i => pairBits (if pairBetter false (pairAt b i) (pairAt a i) then pairAt b i else pairAt a i))
  | _ =>
    let l := (List.range 8).foldl (fun l i => pairInsert (pairAt b i) l)
      ((List.range 8).foldl (fun l i => pairInsert (pairAt a i) l) [])
    vpack 64 8 (fun i => pairBits (l.getD i (0, 0)))

/-- Whether a FRED operation pairs with an element type (R93). -/
def fredLegal (op size : Nat) : Bool :=
  if op ≤ 2 then decide (size ≤ 2) else if op ≤ 5 then decide (size = 3) else false

/-- Whether a FAT code allows a width code (R92). -/
def fatLegal (op size : Nat) : Bool :=
  if op = 1 then decide (size = 2) else if op = 2 then decide (size = 1) else decide (op ≤ 12)

/-- The new item of an atomic on a `w`-bit item (R92): `old`, the operand, and CAS's compare value. -/
def fatVal (op w old x cmp : Nat) : Nat :=
  match op with
  | 0 => (old + x) % 2 ^ w
  | 1 => redAdd 0 old x
  | 2 => redAdd 1 old x
  | 3 => eltOf w (min (sElt w old) (sElt w x))
  | 4 => eltOf w (max (sElt w old) (sElt w x))
  | 5 => min old (x % 2 ^ w)
  | 6 => max old (x % 2 ^ w)
  | 7 => x % 2 ^ w
  | 8 => if old = cmp % 2 ^ w then x % 2 ^ w else old
  | 9 => old &&& (x % 2 ^ w)
  | 10 => old ||| (x % 2 ^ w)
  | 11 => old ^^^ (x % 2 ^ w)
  | _ => (old + 1) % 2 ^ w

end Sys2Proof.Machine
end

