-- ==== Sys2Proof/Machine/Tab.lean ====
section
/-! DEFINITION. Sparse tables in one canonical form: strictly rising keys and no entry that holds the value an
unlisted key reads as. Every indexed part of the state (registers, memories, queues by number) is such a table, so
equal contents are equal data. -/

namespace Sys2Proof.Machine

/-- A sparse table: (key, value) pairs with strictly rising keys, none of them the default value. -/
abbrev Tab (α : Type) := List (Nat × α)

/-- The value at key `k`; an unlisted key reads as `d`. -/
def Tab.get {α : Type} (d : α) : Tab α → Nat → α
  | [], _ => d
  | (i, v) :: t, k => if i = k then v else Tab.get d t k

/-- The table without key `k`. -/
def Tab.del {α : Type} : Tab α → Nat → Tab α
  | [], _ => []
  | (i, v) :: t, k => if i = k then Tab.del t k else (i, v) :: Tab.del t k

/-- Insert an entry at its place by key; the key is absent. -/
def Tab.ins {α : Type} : Tab α → Nat → α → Tab α
  | [], k, v => [(k, v)]
  | (i, w) :: t, k, v => if k < i then (k, v) :: (i, w) :: t else (i, w) :: Tab.ins t k v

/-- Write `v` at key `k`; writing the default removes the entry, so the form stays canonical. -/
def Tab.put {α : Type} [DecidableEq α] (d : α) (t : Tab α) (k : Nat) (v : α) : Tab α :=
  if v = d then Tab.del t k else Tab.ins (Tab.del t k) k v

/-- Every key of the table is above `lo` and the keys rise strictly from there. -/
def Tab.rising {α : Type} : Option Nat → Tab α → Bool
  | _, [] => true
  | none, (i, _) :: t => Tab.rising (some i) t
  | some lo, (i, _) :: t => decide (lo < i) && Tab.rising (some i) t

/-- The canonical form: keys rise strictly and no entry holds the default `d`. -/
def Tab.wf {α : Type} [DecidableEq α] (d : α) (t : Tab α) : Bool :=
  Tab.rising none t && t.all (fun e => decide (e.2 ≠ d))

/-- Drop every entry whose key fails `keep`. -/
def Tab.restrict {α : Type} (keep : Nat → Bool) (t : Tab α) : Tab α :=
  t.filter (fun e => keep e.1)

/-- Write `vs` at keys `k`, `k + 1`, … -/
def Tab.putAll {α : Type} [DecidableEq α] (d : α) (t : Tab α) (k : Nat) : List α → Tab α
  | [] => t
  | v :: vs => Tab.putAll d (Tab.put d t k v) (k + 1) vs

/-- The values at keys `k`, …, `k + n − 1`. -/
def Tab.getAll {α : Type} (d : α) (t : Tab α) (k : Nat) : Nat → List α
  | 0 => []
  | n + 1 => Tab.get d t k :: Tab.getAll d t (k + 1) n

/-! ### Memory: a table of bytes (R2: every multi-byte value is little-endian) -/

/-- A memory: (address, byte) pairs in canonical form; an unlisted byte reads as 0 (R416 step 10 zeroes every store). -/
abbrev Memory := Tab Byte

/-- The canonical form of a memory. -/
def Memory.wf (m : Memory) : Bool := Tab.wf (0 : Byte) m

/-- One byte of memory. -/
def Memory.byte (m : Memory) (a : Nat) : Byte := Tab.get 0 m a

/-- The little-endian number in the `n` bytes from `a` (R2). -/
def Memory.read (m : Memory) (a : Nat) : Nat → Nat
  | 0 => 0
  | n + 1 => (Memory.byte m a).toNat + 256 * Memory.read m (a + 1) n

/-- Store the low `n` bytes of `v` from address `a`, little-endian (R2). -/
def Memory.write (m : Memory) (a : Nat) : Nat → Nat → Memory
  | 0, _ => m
  | n + 1, v => Memory.write (Tab.put 0 m a (BitVec.ofNat 8 v)) (a + 1) n (v / 256)

/-- Store those of the low `n` bytes of `v` whose bit of `mask` is set (bit 0 for the byte at `a`). -/
def Memory.writeMask (m : Memory) (a : Nat) : Nat → Nat → Nat → Memory
  | 0, _, _ => m
  | n + 1, mask, v =>
    Memory.writeMask (if mask % 2 = 1 then Tab.put 0 m a (BitVec.ofNat 8 v) else m) (a + 1) n (mask / 2) (v / 256)

/-- Zero every byte from `lo` to `hi` − 1. -/
def Memory.clear (m : Memory) (lo hi : Nat) : Memory :=
  Tab.restrict (fun k => decide (k < lo ∨ hi ≤ k)) m

/-! ### Sets of numbers as strictly rising lists -/

/-- Add a number to a rising list. -/
def setAdd : List Nat → Nat → List Nat
  | [], k => [k]
  | i :: t, k => if k < i then k :: i :: t else if i = k then i :: t else i :: setAdd t k

/-- Remove a number. -/
def setDel (t : List Nat) (k : Nat) : List Nat := t.filter (fun i => decide (i ≠ k))

/-- Whether a number is in the set. -/
def setHas (t : List Nat) (k : Nat) : Bool := t.any (fun i => decide (i = k))

end Sys2Proof.Machine
end

