-- ==== Sys2Proof/Machine/State.lean ====
section
/-! DEFINITION. Everything the device holds, as plain data. Control-space registers stand in one sparse table `regs`
by byte address, whose unlisted entries read the reset value of R63–R449 (Machine/Regs.lean); what the registers do
not show stands in the fields beside it. -/

namespace Sys2Proof.Machine

/-! ### A core (R42) -/

/-- State field of SITE_CORE_STATE (R63), in its order of codes. -/
inductive CoreSt where
  | idle | running | halted | trapped | stopped | stopping | fenced
  deriving DecidableEq, Repr

/-- StopCause of SITE_CORE_STATE (R63), in its order of codes. -/
inductive StopCause where
  | host | step | break | kill
  deriving DecidableEq, Repr

/-- One level of the loop stack (R42, R50). (DEDUCED, log 9) -/
structure LoopLvl where
  remain : BitVec 32
  first  : BitVec 16
  last   : BitVec 16
  deriving DecidableEq, Repr

/-- A pause of issue in WAITT or FFENCE (R49, R98); `since` is the tick the FFENCE pause began or was resumed. -/
inductive Pause where
  | waitt (tc : BitVec 3) (v : Word)
  | ffence (mask : BitVec 9) (since : Nat)
  deriving DecidableEq, Repr

/-- Where the completion of a request writes its data (R30, R89). -/
inductive Dest where
  | none
  | x (r : BitVec 5)
  | v (r : BitVec 5) (bytes : Nat)
  | block (addr lines : Nat)
  deriving DecidableEq, Repr

/-- A fabric-engine entry in use (R29, R85). -/
structure Entry where
  tc   : BitVec 3
  dst  : Dest
  deriving DecidableEq, Repr

/-- One packet of a bulk descriptor: its line number, source and destination, and its progress (R219). -/
structure BulkPkt where
  line : Nat
  src  : DWord
  dst  : DWord
  n    : Nat
  /-- 0 not started, 1 RD outstanding, 2 WR outstanding, 3 finished -/
  st   : Nat
  tag  : BitVec 8
  status : Nat
  deriving DecidableEq, Repr

/-- A bulk descriptor in one of a core's 16 slots (R35, R217): `status` is set when R218 refuses it. -/
structure Desc where
  tc      : BitVec 3
  noComb  : Bool
  refused : Option Nat
  pkts    : List BulkPkt
  deriving DecidableEq, Repr

/-- State of an epoch at a home (R264), in the order of SPEC_STATE_k codes. -/
inductive EpochSt where
  | free | open | commit | discard
  deriving DecidableEq, Repr

/-- A billet access on its way to the core's own billet, in program order (R83, R84); `data` of a served load waits
for BILLET_LOAD_RETURN. -/
structure BilletOp where
  store : Bool
  dst   : Dest
  off   : Nat
  bytes : Nat
  data  : Nat
  served : Bool
  /-- lines its banks have served (R164) -/
  lines  : Nat
  /-- tick it was issued, or came to its slice; place in the order of issue -/
  at'   : Nat
  no    : Nat
  /-- it holds its slice's request credit, and waits there (R164) -/
  there : Bool
  /-- the epoch states it sees, where an ECOMMIT changed them while it was part served (R265) -/
  old   : Option (Tab EpochSt)
  deriving DecidableEq, Repr

/-- The state of one core (R38, R42) with its engine, its fetch buffers and its issue timing. -/
structure Core where
  st       : CoreSt
  cause    : StopCause
  refused  : Bool
  x        : Tab DWord
  v        : Tab VWord
  p        : Tab PWord
  /-- accumulator rows by 32·acc + row -/
  acc      : Tab VWord
  /-- open MMA groups by 32·acc + row (R138) -/
  grp      : Tab (List MRec)
  loops    : List LoopLvl
  next     : BitVec 16
  /-- the last bundle issued ended in sequence, so loops whose body ends there take their back edges -/
  edge     : Bool
  pause    : Option Pause
  /-- a completion trapped under ERR_TRAP while STOPPING: status and tally counter (R57) -/
  trapPend : Option (BitVec 4 × BitVec 3)
  /-- the first bundle after a Resume or Step does not break (R68) -/
  noBreak  : Bool
  /-- a Step runs the core until its one bundle has issued (R65) -/
  stepping : Bool
  seed     : DWord
  gen      : DWord
  epochTag : BitVec 6
  view     : BitVec 63
  hint     : BitVec 4
  fault    : DWord
  tc       : Tab DWord
  tcb      : Tab DWord
  jobTag   : BitVec 12
  /-- the first bundle since the Start has issued (R38) -/
  begun    : Bool
  /-- CORE_CYCLES: the core cycle in which the next bundle can issue -/
  cycles   : Nat
  stall    : DWord
  /-- cycles in which the pipeline stages moved: a stall freezes them, but not the wait for one of them (R19; DEDUCED,
  log 7) -/
  pipe     : Nat
  /-- pipeline cycle from which a register may be read or written: x r at r, v r at 32 + r, p r at 64 + r, accumulator a
  after an MMA at 72 + a and after an AWR at 76 + a (R18, R22, R124) -/
  ready    : Tab Nat
  /-- first pipeline cycle in which the array is free (R21) -/
  array    : Nat
  /-- fabric-engine entries in use by tag (R29) -/
  fe       : Tab (Option Entry)
  bulk     : List Desc
  billet   : List BilletOp
  /-- lines of the fetch buffer, at most two (R27), and bundles of the loop buffer (R28) -/
  fetch    : List (Nat × BitVec 512)
  loopBuf  : Tab (Option DWord)
  /-- by bank: cycles in a row in which the pipeline side has taken it (R25, R26) -/
  kept     : Tab Nat
  deriving DecidableEq, Repr

/-- A core after reset of its site (R63): IDLE, with nothing outstanding. (DESIGN CHOICE, log 6) -/
def Core.reset : Core :=
  { st := .idle, cause := .host, refused := false, x := [], v := [], p := [], acc := [], grp := [], loops := [],
    next := 0, edge := false, pause := none, trapPend := none, noBreak := false, stepping := false, seed := 0, gen := 0, epochTag := 0,
    view := 0, hint := 15, fault := 0, tc := [], tcb := [], jobTag := 0, begun := false, cycles := 0, stall := 0,
    pipe := 0, ready := [], array := 0, fe := [], bulk := [], billet := [], fetch := [], loopBuf := [], kept := [] }

/-! ### Packets in the device -/

/-- Where a packet is. Cores, endpoints and quadrants stand by number. (DESIGN CHOICE, log 13) -/
inductive Loc where
  /-- in its agent: the queue of a core's fabric engine, or of a block agent, at its port (R46, R188) -/
  | engine
  /-- in an input of a mesh router: north 0, south 1, east 2, west 3, local 4, down 5 (R147, R151) -/
  | mesh (c inp : Nat)
  /-- parked at an output of a router (R155) -/
  | parked (c : Nat)
  /-- in a cluster hub, on its way to the hearth (R160) -/
  | hub (site cluster : Nat)
  /-- parked in a cluster hub (R155, R160) -/
  | hubParked (site cluster : Nat)
  /-- on an electrical bundle, by its link's number: waiting, part sent, or in the receiver's buffer (R303–R308) -/
  | wire (k : Nat)
  /-- in the queue of a source hearth port (R206) -/
  | port (e : Nat)
  /-- in the L0 queue of an endpoint (R237) -/
  | l0 (e : Nat)
  /-- sent on transmit bundle `g` to endpoint `e`, awaiting the acknowledgement of R306; discarded there while held -/
  | flight (g e : Nat)
  /-- in an endpoint's input queue or combining table (R207, R208) -/
  | home (e : Nat)
  /-- in the queue of a pseudo-channel (R275) -/
  | pcq (k pc : Nat)
  /-- served by its bank; the home may apply it -/
  | ready (e : Nat)
  /-- at a core's store, through the local port of its router (R148) -/
  | store (c : Nat)
  /-- in a gateway, outbound for another device (R208, R252) -/
  | gwOut (g : Nat)
  /-- in a gateway, inbound from another device (R208, R254) -/
  | gwIn (g : Nat)
  /-- a response that has reached its requester's side (R181) -/
  | resp
  deriving DecidableEq, Repr

/-- A packet held in the device. (DESIGN CHOICE, log 50) -/
structure Item where
  id    : Nat
  /-- place of its request in its source's order of issue; the copies of a multicast share one -/
  no    : Nat
  loc   : Loc
  pkt   : Pkt
  /-- the request is a write in the sense of R184 -/
  wr    : Bool
  /-- tick at which it reached its place -/
  since : Nat
  /-- leading request it is merged into (R210) -/
  lead  : Option Nat
  /-- multicast it is a member or copy of (R215) -/
  ctx   : Option Nat
  /-- source endpoint and receive bundle whose credit it holds (R205) -/
  cred  : Option (Nat × Nat)
  /-- endpoint whose hearth or cluster port brought it to its home (R205, R207) -/
  via   : Nat
  /-- held: uninjected in its engine (R188), accepted at its home and waiting (R237, R365), or to be sent again (R306) -/
  held  : Bool
  /-- OWNX, OWNR or ECOMMIT, or the completion of one: Ownership class on an electrical bundle (R307) -/
  own   : Bool
  /-- it leads an entry of a combining table (R209) -/
  tab   : Bool
  /-- the block store's lines have still to be read: local address and lines (R89) -/
  blk   : Option (Nat × Nat)
  /-- failed sends in succession (R306) -/
  fails : Nat
  /-- its source has left service: its completion is discarded (R202) -/
  dead  : Bool
  /-- what the permission check at its home found: whether it failed (R191–R194) -/
  chk   : Option Bool
  /-- its place in the order in which its gateway released the requests of its device; 0 if none did (R210) -/
  rel   : Nat
  /-- lines its banks have served, or that it has moved into or out of a core store (R25, R164); on an electrical bundle,
  units it has sent (R304) -/
  lines : Nat
  /-- core cycle in which it came to a core store, or last moved a line there (R26) -/
  cyc   : Nat
  /-- the epoch states it sees, where an ECOMMIT changed them while it was in service (R265) -/
  old   : Option (Tab EpochSt)
  /-- the link frame it is, until its gateway has released or sent it (R253, R254) -/
  frame : Option Frame
  deriving DecidableEq, Repr

/-- A multicast whose members have still to answer (R154, R240). -/
structure Mcast where
  req      : Item
  waiting  : Nat
  count    : Nat
  fenced   : Bool
  statuses : List Nat
  deriving DecidableEq, Repr

/-- A grant of a receive bundle (R232). -/
structure Grant where
  g     : Nat
  sent  : Nat
  since : Nat
  resp  : Bool
  /-- packets it may carry, and whether they are the management requester's only (R234) -/
  limit : Nat
  mgmt  : Bool
  deriving DecidableEq, Repr

/-- A transmit bundle's request for its receive bundle at an endpoint: for a response or a request, since a tick
(R233). -/
structure GrantReq where
  g     : Nat
  dst   : Nat
  since : Nat
  resp  : Bool
  deriving DecidableEq, Repr

/-- A grant of a pseudo-channel's arbiter: the row, the accesses it has served, and the tick it opened (R276). -/
structure RowGrant where
  row    : Nat
  served : Nat
  since  : Nat
  deriving DecidableEq, Repr

/-- An ownership entry (R196): the region's number, the scope and the owner. -/
structure OwnEnt where
  region : Nat
  scope  : BitVec 2
  fab    : BitVec 6
  ep     : BitVec 5
  core   : BitVec 8
  job    : BitVec 12
  deriving DecidableEq, Repr

/-- A line of a speculation buffer (R262); `ord` is the number of the ECOMMIT that committed it. -/
structure SpecLine where
  ep    : EpId
  line  : Nat
  epoch : BitVec 6
  data  : BitVec 512
  mask  : BitVec 64
  poison : List Nat
  ord   : Nat
  deriving DecidableEq, Repr

/-! ### Ports, streams and links -/

/-- State of a port or half-port, in the order of GW_PORT_STATUS codes (R261). -/
inductive PortSt where
  | disabled | down | training | up | mismatch | failed
  deriving DecidableEq, Repr

/-- A frame kept for retransmission (R255): sequence, packet, and the tick it was sent. -/
structure Sent where
  seq : BitVec 24
  pkt : Pkt
  at' : Nat
  deriving DecidableEq, Repr

/-- One end-to-end stream with a peer device (R254–R257): `rx` is the next sequence to come, `rel` the next to be released;
whether an acknowledgement is owed, and whether the unacknowledged frames wait for a quiet gap to be sent again. -/
structure Stream where
  tx      : BitVec 24
  rx      : BitVec 24
  unacked : List Sent
  queue   : List Pkt
  retries : Nat
  onAlt   : Bool
  lostAt  : Nat
  sync    : Bool
  rel     : BitVec 24
  owe     : Bool
  again   : Bool
  deriving DecidableEq, Repr

/-- What a port sends beside idle codewords: a frame; the highest sequence released of a stream from a device, which
returns its credits too (R254, R255); its part of a SYNC with a device (R257); or the announcement that a slot moves to
slot 31, or that what slot 31 carries moves back, where it names 31 itself (R249, R328). -/
inductive PortMsg where
  | frame (f : Frame)
  | ack (dev : Nat) (ctrl : Bool) (seq : BitVec 24)
  | sync (dev : Nat)
  | swap (slot : Nat)
  deriving DecidableEq, Repr

/-- A message with the gateway, port and half it leaves by. -/
structure PortOut where
  gw   : Nat
  port : Nat
  half : Nat
  msg  : PortMsg
  deriving DecidableEq, Repr

/-- An idle stream. -/
def Stream.reset : Stream := ⟨0, 0, [], [], 0, false, 0, false, 0, false, false⟩

/-- A die link (R303, R318): width code of DL_LINK; lane maps fused and in use as (logical, physical) where they differ
from the identity; failed physical lanes; the logical lanes picked at degraded width; generation; windows replayed or
packets resent; CRC mismatches by lane and those of the current millisecond; margins and low probes by lane. (DESIGN
CHOICE, log 23) -/
structure Link where
  width  : Nat
  fused  : List (Nat × Nat)
  map    : List (Nat × Nat)
  failed : List Nat
  picked : List Nat
  gen    : BitVec 16
  replay : Nat
  crc    : Tab Nat
  crcMs  : Tab (Nat × Nat)
  margin : Tab Nat
  low    : Tab Nat
  /-- the physical lane whose swap is in progress, and those found failing that wait for it (R312, R313) -/
  swap    : Option Nat
  failing : List Nat
  /-- physical lanes out for a time, and the logical lane that holds the spare meanwhile, with the lane it left (R314) -/
  outs    : List Nat
  temp    : Option (Nat × Nat)
  /-- degraded only until a lane returns (R314, R329) -/
  short   : Bool
  deriving DecidableEq, Repr

/-- A link trained at full width with every lane good. Before the links are trained DL_LINK reads not trained. -/
def Link.reset : Link := ⟨0, [], [], [], [], 0, 0, [], [], [], [], none, [], [], none, false⟩

/-- A unit sent on an electrical bundle (R304): its unit slot, its channel, its item and its place in it. -/
structure WUnit where
  slot : Nat
  ch   : Nat
  id   : Nat
  n    : Nat
  deriving DecidableEq, Repr

/-- An electrical bundle in one direction (R304–R308). Channels are 0 Events, 1 Ownership, 2–4 Memory VC0–VC2, 5 Debug. -/
structure Wire where
  /-- unit slots so far: every 16th carries the link control unit -/
  slot   : Nat
  /-- credits in use by channel, and those the next control unit returns -/
  used   : Tab Nat
  owed   : Tab Nat
  /-- unit slots a channel has waited with a unit ready and a credit held -/
  waited : Tab Nat
  /-- last Memory data channel served, and the Memory packet that is part sent -/
  turn   : Nat
  busy   : Option Nat
  /-- units of the last 8 check windows, those to be sent again, and the slot below which every window has passed -/
  buf    : List WUnit
  resend : List WUnit
  passed : Nat
  /-- failures of one window in succession -/
  again  : Nat
  /-- Events and Debug units waiting -/
  extra  : Tab Nat
  deriving DecidableEq, Repr

/-- A bundle that has carried nothing. -/
def Wire.reset : Wire := ⟨0, [], [], [], 3, none, [], [], 0, 0, []⟩

/-- An optical lane (R340): the ring in use, whether the lane is out while it is recovered (R328), codes, eye and power. -/
structure OptLane where
  alt     : Bool
  out     : Bool
  relocks : Nat
  heater  : BitVec 12
  eyeW    : BitVec 10
  eyeH    : BitVec 10
  ber     : BitVec 5
  power   : BitVec 16
  margin  : BitVec 16
  bias    : BitVec 8
  depth   : BitVec 8
  thresh  : BitVec 8
  /-- of the DAC in use: spare segments used, whether the sub-DAC's duplicate is, and segments lost with no spare left
  (R324) -/
  segs    : Nat
  sub     : Bool
  dead    : Nat
  fails   : Nat
  lastRet : Option Nat
  /-- whether a loop's lane has failed, which has no bundle to record it (R329, R340); and when the last result was applied,
  with the CRC mismatches counted by then (R335) -/
  gone    : Bool
  calAt   : Nat
  calCrc  : Nat
  deriving DecidableEq, Repr

/-- A lane before calibration: every figure 0 (R340); after it an unlisted lane has the figures calibration gave it. -/
def OptLane.reset : OptLane :=
  { alt := false, out := false, relocks := 0, heater := 0, eyeW := 0, eyeH := 0, ber := 0, power := 0, margin := 0, bias := 0
    depth := 0, thresh := 0, segs := 0, sub := false, dead := 0, fails := 0, lastRet := none, gone := false, calAt := 0, calCrc := 0 }

/-- What calibration has left: whether it is done, the number of its runs, the image its last run started from, if it was a
fast one, and the lanes changed since (R334). -/
structure Optics where
  done     : Bool
  runs     : Nat
  restored : List Word
  lanes    : Tab (Option OptLane)
  deriving DecidableEq, Repr

/-- A snapshot of the calibration state: its generation, and the mean hearth temperature in 1/8 °C (R337). -/
structure Snapshot where
  gen  : Nat
  temp : BitVec 12
  opt  : Optics
  deriving DecidableEq, Repr

/-- A spare-comb swap of a tile (R332, R333): the role, the spare position that warms, whether the role's comb went dark,
and the gap's start tick once announced. -/
structure Swap where
  role : Nat
  pos  : Nat
  dark : Bool
  gap  : Option Nat
  deriving DecidableEq, Repr

/-- A pending step change (R345): the members' mask, the target, the tick's low bits, and whether it is for crucibles. -/
structure StepPend where
  crucible : Bool
  mask     : BitVec 32
  target   : BitVec 4
  n        : BitVec 24
  deriving DecidableEq, Repr

/-- What the damper keeps of a requester (R356, R357): the step last asked for, where it asked, the tick its burst ends,
the requesters that were waiting when it last expired, with the steps they asked for, and the step of a rise that was
abandoned. -/
structure Req where
  asked  : Option Nat
  endsAt : Option Nat
  behind : List (Nat × Nat)
  gaveUp : Option Nat
  deriving DecidableEq, Repr

/-- A requester that has asked for nothing. -/
def Req.reset : Req := ⟨none, none, [], none⟩

/-- A temperature sensor (R368–R371): its last reading, the number of its conversions, and its marks. -/
structure Sensor where
  temp  : BitVec 12
  conv  : Nat
  fail  : Bool
  uncal : Bool
  deriving DecidableEq, Repr

/-- A sensor that has not converted. -/
def Sensor.reset : Sensor := ⟨0, 0, false, false⟩

/-- A collector log entry (R380). -/
structure LogEnt where
  code    : BitVec 16
  seq     : Nat
  tick    : BitVec 48
  at'     : Nat
  detail  : Word
  count   : Nat
  cleared : Bool
  deriving DecidableEq, Repr

/-- A Spasen request received and not yet answered (R404): its fabric packets not yet issued, by number, those out as
(tag, number), the statuses that came back, and its words: the payload of a write, or what a read has brought. -/
structure SpsReq where
  hdr     : SpsHdr
  todo    : List Nat
  waiting : List (Nat × Nat)
  stats   : Tab Nat
  data    : Tab Word
  deriving DecidableEq, Repr

/-- An event waiting to be posted (R408). -/
structure Ev where
  kind   : BitVec 2
  func   : BitVec 4
  code   : BitVec 16
  seq    : BitVec 16
  detail : Word
  tick   : BitVec 48
  deriving DecidableEq, Repr

/-- A committed or uncommitted flash record (R423) in a slot (kind 1) or area. -/
structure FlashRec where
  kind : Nat
  slot : Nat
  seq  : Nat
  body : List Byte
  /-- the half of its area -/
  half : Nat
  /-- its commit word is written and matches -/
  done : Bool
  deriving DecidableEq, Repr

/-- The record open in the flash (R426). -/
structure FlashOpen where
  kind : Nat
  len  : Nat
  body : List Byte
  deriving DecidableEq, Repr

/-- The security fuses (R420): revoked key slots, SecVersion entries burnt, DebugPolicy, serial; and the lane
maps assembly fused. -/
structure Fuses where
  revoked : List Nat
  vers    : List (BitVec 16)
  spent   : Nat
  policy  : BitVec 2
  serial  : DWord
  /-- lane maps where they differ from the identity: link, logical and physical lane (R309) -/
  lanes   : List (LinkId × BitVec 9 × BitVec 9)
  /-- root hashes of key slots 0 and 1, and the identity seed -/
  rootA   : BitVec 256
  rootB   : BitVec 256
  seed    : BitVec 256
  deriving DecidableEq, Repr

/-- A fuse sequence under way (R376, R427). -/
structure FuseSeq where
  kind  : Nat
  value : Nat
  index : Nat
  deriving DecidableEq, Repr

/-- A message on the mirror link: a record, or a commit marker with its epoch's number and whether the epoch is a
resync (R440–R444). -/
inductive MirrorMsg where
  | record (r : MirrorRec)
  | marker (epoch : BitVec 23) (resync : Bool)
  deriving DecidableEq, Repr

/-- The device's pins (R298, R299): whether VIO18 is on, without which it drives and reads none; levels of the outputs it
drives and of the inputs it reads; straps as sampled. -/
structure Pins where
  vio : Bool
  alive : Bool
  aliveRun : Bool
  faultN : Bool
  quenchN : Bool
  tripN : Bool
  ocAlertN : Bool
  ownOut : Bool
  ownIn : Bool
  role : Bool
  pairEn : Bool
  smbAddr : BitVec 3
  smbAlertN : Bool
  coldRstN : Bool
  deriving DecidableEq, Repr

/-- The SMBus target (R412): its access pointer, and of the last transaction the data it returned, if any, and whether the
device acknowledged it. -/
structure Smb where
  ptr : Word
  out : Option Word
  ack : Bool
  deriving DecidableEq, Repr

/-- The whole device. (DESIGN CHOICE, log 1, log 50) -/
structure State where
  /-- commands waiting, first in, first out -/
  pending  : List Instr
  /-- control-space registers by byte address where they differ from reset -/
  regs     : Tab Word
  /-- read latch and write hold of each interface: address of the low word and its partner value (R6) -/
  latch    : Tab (Option (Nat × Word))
  hold     : Tab (Option (Nat × Word))
  /-- core stores, billets and HBM, by linear address -/
  mem      : Memory
  /-- poisoned words (billet) and bursts (HBM) by linear address (R166, R281) -/
  poison   : List Nat
  /-- reference ticks since power-up, and the tick count of R342 -/
  now      : Nat
  tick     : BitVec 48
  tickRuns : Bool
  /-- number of free values taken (the model's own) -/
  free     : Nat
  cores    : Tab Core
  /-- data of the latest control-space read through each interface (the model's own) -/
  reads    : Tab Word
  -- fabric
  pool     : List Item
  nextId   : Nat
  seqs     : Tab (BitVec 9)
  mcasts   : Tab (Option Mcast)
  /-- credits spent, and those the home owes back, by source endpoint, endpoint and receive bundle (R205, R235) -/
  credUsed : Tab Nat
  credOwed : Tab Nat
  /-- lines a write-class request was applied to in this tick (R204) -/
  wrLines  : List (Nat × Nat)
  /-- Seq of remote sources received at an endpoint: the next in order, then those ahead of it (R177, R237) -/
  got      : Tab (List Nat)
  grants   : Tab (Option Grant)
  changed  : Tab Nat
  /-- requests for grants, in the order they reached the arbiters -/
  greqs    : List GrantReq
  rr       : Tab Nat
  own      : Tab (List OwnEnt)
  epochs   : Tab EpochSt
  spec     : List SpecLine
  commits  : Nat
  -- gateways
  portT    : Tab Nat
  streams  : Tab Stream
  reported : List Nat
  /-- what the ports have sent -/
  sent     : List PortOut
  -- billets and crucibles
  scrubAt  : Tab Nat
  scrubT   : Tab Nat
  /-- grants in force, by bank of a pseudo-channel (R276) -/
  rows     : Tab (Option RowGrant)
  aged     : List Nat
  /-- by crucible, the tick after per-bank refresh began; 0 while its stacks are not initialised or in self-refresh
  (R273, R278) -/
  refFrom  : Tab Nat
  /-- by pseudo-channel, the refreshes it has had since then, and when the next falls due in eighths of a nanosecond -/
  refNext  : Tab (Option (Nat × Nat))
  lastTemp : Tab Nat
  hbmGood  : Tab Bool
  -- die links and optics
  /-- the links have been trained since the last cold reset or quench -/
  linksUp  : Bool
  links    : Tab Link
  wires    : Tab Wire
  /-- by endpoint, the tick after its links last carried a Memory or Ownership unit (R317) -/
  carried  : Tab Nat
  /-- by function: the tick its links' last test began (R317, R322) -/
  testFrom : Tab Nat
  /-- by bridge direction: logical lanes that have left their first waveguide, with the one each has now, if any; and failed
  waveguides (R315) -/
  guides   : Tab (List (Nat × Option Nat))
  guideBad : Tab (List Nat)
  optics   : Optics
  swaps    : Tab (Option Swap)
  /-- roles that wait for a spare: tile, role, and whether the role is dark (R331, R333) -/
  swapWait : List (Nat × Nat × Bool)
  /-- by position, 10·tile + p, the tick after its drive was last judged, and since when its least margin has been below
  SpareMargin (R330, R331) -/
  laserAt  : Tab Nat
  lowFrom  : Tab Nat
  /-- number of calibration snapshots taken, and the last one (R337) -/
  images   : Nat
  image    : Option Snapshot
  -- clocking, power, thermal
  steps    : List StepPend
  /-- by region, the target, plus one, of a change that its PLL missed (R346) -/
  missed   : Tab Nat
  /-- a region's stretched cycles within the last millisecond, each with its tick and the time it took beyond one period, in
  2^−16 cycles; whether they were too many; and how much of that time its cores have not yet lost (R347) -/
  stretch  : Tab (List (Nat × Nat))
  droopy   : List Nat
  lag      : Tab Nat
  /-- pulses of every 20 a region passes while it swallows; 0 where it passes all (R358) -/
  swallow  : Tab Nat
  /-- tick OC_ALERT_N last fell, while OcActive (R358) -/
  ocSince  : Option Nat
  holdover : Option Nat
  reqs     : Tab Req
  /-- rises that wait for their anvil's regulator: region, tick and step; and the VCORE set points in mV (R357) -/
  avs      : List (Nat × Nat × Nat)
  vcore    : Tab Nat
  /-- entries under way: 1 NAP, 2 STANDBY, 100 + 4·r + target for a region; the DELAY answers each met; and the source block
  of the last, which alone has not accepted (R362) -/
  entries  : List (Nat × Nat × Nat)
  /-- tick a region last had a core RUNNING, or last came ON (R361) -/
  idleAt   : Tab Nat
  /-- regions being woken: the tick after the wake began (R66, R361) -/
  waking   : Tab Nat
  saveRegs : List (Nat × Word)
  sensors  : Tab Sensor
  /-- tick after the billet estimate rose 8 °C above its readings, by stack (R374) -/
  estHigh  : Tab Nat
  /-- by unit, or 36 + i for tongs sensor i: the range its temperature is in and the tick it came into it or its cap last
  moved (R371) -/
  capAt    : Tab (Nat × Nat)
  /-- by the same numbers, the last conversion that read 125 °C or above (R371) -/
  hotAt    : Tab Nat
  -- faults, resets, boot
  log      : Tab (Option LogEnt)
  logSeq   : Nat
  lostRun  : Nat
  quench   : Bool
  frozen   : Bool
  /-- when the quench began (R389) -/
  quenchAt : Nat
  /-- tick COLD_RST_N last rose, the last heartbeat came and ALIVE last toggled (R388, R418) -/
  startAt  : Nat
  beatAt   : Nat
  aliveAt  : Nat
  /-- ticks of heartbeats missed within the last second -/
  misses   : List Nat
  /-- the function whose reset the host has begun, and whether of its billet only (R384, R387) -/
  rstFor   : Option (Nat × Bool)
  /-- an F0 restart: the tick it began, and whether its firmware is not running yet (R385, R388) -/
  f0Down   : Option (Nat × Bool)
  locked   : Bool
  slotBoot : Nat
  recovery : Bool
  -- host link and management
  spsReqs  : List SpsReq
  /-- by port (UP 0, DN 1): failures in a row of the group that failed last (R396) -/
  spsFails : Tab Nat
  spsDown  : List (SpsHdr × List Word)
  /-- packets sent towards the host, and those waiting while UP is DOWN; true marks the device's own (R397, R399) -/
  hostTx   : List SpsUp
  hostWait : List (Bool × SpsUp)
  events   : List Ev
  evSeq    : BitVec 16
  evLost   : Bool
  smb      : Smb
  tapIr    : BitVec 8
  tapDr    : DWord
  tapCells : Word
  flash    : List FlashRec
  flashSeq : Nat
  fOpen    : Option FlashOpen
  fuses    : Fuses
  fuseSeq  : Option FuseSeq
  env      : Option StartEnv
  /-- the body of the attestation report, 192 words once one is made (R422) -/
  report   : List Word
  guestOut : List (Fin 3 × Pkt)
  guestReq : List (Nat × Fin 3 × Pkt)
  viol     : Tab (List Nat)
  violT    : Tab Nat
  -- redundant pair
  /-- tick OWN_IN last fell (R436) -/
  ownLow   : Nat
  /-- the own claim waits for its gates and is a switch-over (R437, R445) -/
  claimed  : Bool
  /-- records the homes have still to send, and what gateway 3 has sent on the mirror link -/
  mirrorTx : List MirrorRec
  mirrorOut : List MirrorMsg
  /-- of each epoch that waits to be closed, how many of the unsent records it still holds; and whether what is sent is a
  resync epoch (R441, R444) -/
  closing  : List Nat
  resync   : Bool
  /-- the standby's mirror buffer, its bytes, and whether the open epoch is being discarded (R443) -/
  mirrorRx : List MirrorRec
  rxBytes  : Nat
  rxSkip   : Bool
  /-- TAKEOVERs sent: gateway, local port and the number taken over (R445) -/
  takeover : List (Nat × Nat × Nat)
  /-- TAKEOVERs that wait for the end of their ports' quiet gap (R332) -/
  takeWait : List (Nat × Nat × Nat)
  /-- tick the mirror link went DOWN (R439) -/
  mirDown  : Option Nat
  pins     : Pins
  deriving DecidableEq, Repr

/-- The reasons a step can fault: the manual gives every case an effect, so there is none. -/
inductive Fault where
  deriving DecidableEq, Repr

/-- The reasons a command is refused. -/
inductive Refusal where
  /-- Raised by `exec` for a command that has no meaning yet. Safe: the machine stops and nothing is claimed. -/
  | notModelled (mnemonic : String)
  /-- Raised by a meaning whose operand names no part of the device (a link, lane or list that does not exist): there
  is no such event. Safe: the machine stops and nothing is claimed. -/
  | noSuchPart
  deriving DecidableEq, Repr

/-- The pins before a start: rails on, outputs released, inputs low but the alerts (R299). (DESIGN CHOICE, log 6) -/
def Pins.reset : Pins :=
  ⟨true, false, false, true, true, true, true, false, false, false, false, 0, true, true⟩

/-- The device right after a cold reset, before its start sequence (R391): every register at its reset value, no
memory written, every core IDLE, and nothing waiting. (DESIGN CHOICE, log 1, log 6) -/
def State.reset : State :=
  { pending := [], regs := [], latch := [], hold := [], mem := [], poison := [], now := 0, tick := 0,
    tickRuns := false, free := 0, cores := [], reads := [], pool := [], nextId := 0, seqs := [], mcasts := [], credUsed := [], credOwed := [], wrLines := [], got := [],
    grants := [], changed := [], greqs := [], rr := [], own := [], epochs := [], spec := [], commits := 0,
    portT := [], streams := [], reported := [], sent := [], scrubAt := [], scrubT := [], rows := [],
    aged := [], refFrom := [], refNext := [], lastTemp := [], hbmGood := [], linksUp := false, links := [], wires := [], carried := [], testFrom := [], guides := [], guideBad := [], optics := ⟨false, 0, [], []⟩, swaps := [],
    swapWait := [], laserAt := [], lowFrom := [], images := 0, image := none, steps := [], missed := [], stretch := [], droopy := [], lag := [], swallow := [], ocSince := none, holdover := none,
    reqs := [], avs := [], vcore := [], entries := [], idleAt := [], waking := [], saveRegs := [], sensors := [], estHigh := [], capAt := [], hotAt := [],
    log := [], logSeq := 0, lostRun := 0, quench := false, frozen := false, quenchAt := 0,
    startAt := 0, beatAt := 0, aliveAt := 0, misses := [], rstFor := none, f0Down := none, locked := false, slotBoot := 0, recovery := false, spsReqs := [],
    spsFails := [], spsDown := [], hostTx := [], hostWait := [], events := [], evSeq := 0, evLost := false, smb := ⟨0, none, false⟩, tapIr := 1,
    tapDr := 0, tapCells := 0, flash := [], flashSeq := 0, fOpen := none,
    fuses := ⟨[], [], 0, 0, 0, [], 0, 0, 0⟩, fuseSeq := none, env := none, report := [], guestOut := [], guestReq := [],
    viol := [], violT := [], ownLow := 0, claimed := false, mirrorTx := [], mirrorOut := [],
    closing := [], resync := false, mirrorRx := [], rxBytes := 0, rxSkip := false, takeover := [], takeWait := [], mirDown := none,
    pins := Pins.reset }

end Sys2Proof.Machine
end

