-- ==== Sys2Proof/Machine/Regs.lean ====
section
/-! DEFINITION. The control space (R5–R8, R410): where each register lies, which bits are written how, what it holds
after reset, and the plain reads and writes of register fields. -/

namespace Sys2Proof.Machine

/-- Access masks and reset value of a register: bits that are RW, W1C and RWL (R7). Every other bit is RO or WO. -/
structure RegInfo where
  rw    : Nat
  w1c   : Nat
  rwl   : Nat
  reset : Nat
  deriving DecidableEq, Repr

/-- A register no write changes directly. -/
def regRO (r : Nat) : RegInfo := ⟨0, 0, 0, r⟩
/-- A plain RW register. -/
def regRW (m r : Nat) : RegInfo := ⟨m, 0, 0, r⟩

/-! ### Addresses -/

/-- Base of a site's registers (R63). -/
def siteBase (site : Nat) : Nat := 0x100000 + site * 0x10000
/-- Base of a crucible's registers (R287). -/
def crucBase (k : Nat) : Nat := 0xC0000 + k * 0x4000
/-- Base of a gateway's registers (R261). -/
def gwBase (g : Nat) : Nat := 0x90000 + g * 0x1000
/-- Base of a core's registers (R63); `c` is the device-wide core index. -/
def coreBase (c : Nat) : Nat := siteBase (c / 256) + 0x4000 + c % 256 * 0x40
/-- Registers of local port `p` of gateway `g` (R261). -/
def portBase (g p : Nat) : Nat := gwBase g + 0x100 + 0x40 * p

/-- Whether an address lies in a block of the control-space map (R410). -/
def inBlock (a : Nat) : Bool :=
  let h := a / 0x10000
  decide (h ≤ 6 ∨ (8 ≤ h ∧ h ≤ 10) ∨ h = 12 ∨ (0x10 ≤ h ∧ h ≤ 0x17) ∨ (0x20 ≤ h ∧ h ≤ 0x5F))
/-- Number of the block an address lies in: blocks of more than 64 KiB count once (R402, R410). -/
def blockOf (a : Nat) : Nat :=
  let h := a / 0x10000
  if 0x10 ≤ h ∧ h ≤ 0x17 then 0x10 else if 0x20 ≤ h then h / 0x10 * 0x10 else h

/-- Registers common to a stack or crucible endpoint, by offset from its block, with the places of the window,
ownership, combining and speculation registers (R195, R201, R225, R272). -/
def epRegInfo (win own comb spec o : Nat) : Option RegInfo :=
  if win ≤ o ∧ o < win + 0x400 then
    match (o - win) % 16 with
    | 0 => some (regRW 0xFFFF0000 0)
    | 4 => some (regRW 0x001FFFFF 0)
    | 8 => some (regRW 0x9FFC0FFF 0)
    | _ => none
  else if own ≤ o ∧ o < own + 0x98 then
    match o - own with
    | 0 => some (regRW 0x1F 21)
    | 4 => some ⟨0, 0x80000000, 0, 0⟩
    | _ => some (regRO 0)
  else if comb ≤ o ∧ o < comb + 0x14 then
    (if o = comb then some (regRW 7 7) else some (regRO 0))
  else if spec ≤ o ∧ o < spec + 0x200 then
    (if o = spec then some (regRW 0x7FFFF 0) else some (regRO 0))
  else none

/-- A register of a site, by offset (R63, R170, R221). -/
def siteRegInfo (o : Nat) : Option RegInfo :=
  if o = 0 then some ⟨0, 1, 0, 0⟩
  else if 0x100 ≤ o ∧ o < 0x140 then some (regRW (if o % 8 = 0 then 0xFFC00FFF else 1) 0)
  else if 0x200 ≤ o ∧ o < 0x220 then some (regRW 0xFFFFFFFF 0)
  else if 0x300 ≤ o ∧ o < 0x320 then some ⟨0, 0xFFFFFFFF, 0, 0⟩
  else if 0x4000 ≤ o ∧ o < 0x8000 then
    match o % 0x40 with
    | 0x08 => some (regRW 0x7FFF 0)
    | 0x0C => some (regRW 7 0)
    | 0x10 => some (regRW 0xFFFFFFFF 0)
    | 0x14 => some (regRW 0xFFFFFFFF 0)
    | 0x18 => some (regRW 0xFFFFFFFF 0)
    | 0x1C => some (regRW 0xFFFFFFFF 0)
    | 0x20 => some (regRW 0x80007FFF 0)
    | 0x24 => some (regRW 0xF01F01FF 0)
    | _ => none
  else if o = 0x8000 then some (regRW 0x803F 0x8008)
  else if o = 0x8030 then some (regRO 0xF)
  else if o = 0x9000 then some (regRW 0x100FF 32)
  else if o = 0x9004 then some ⟨0, 1, 0, 0⟩
  else if 0xB000 ≤ o ∧ o < 0xB100 then
    match o % 16 with
    | 0 => some (regRW 0xFFFF0000 0)
    | 4 => some (regRW 0xFFFFFFFF 0)
    | 8 => some (regRW 0x83FC0FFF 0)
    | _ => none
  else epRegInfo 0xA000 0xA400 0xA800 0xC000 o

/-- A register of a gateway, by offset from its block (R225, R261). -/
def gwRegInfo (o : Nat) : Option RegInfo :=
  if o = 0 then some ⟨0, 0x80000000, 0, 0⟩
  else if 0x100 ≤ o ∧ o < 0x400 then (if o % 0x40 = 0 then some (regRW 0xFFFF0000 0) else some (regRO 0))
  else if o = 0xC00 then some (regRW 0xFF07 0x2007)
  else none

/-- Access and reset of the register at a control address; none where no register holds a value of its own. (DEDUCED, log 25) -/
def regInfo (a : Nat) : Option RegInfo :=
  match a / 0x10000 with
  | 0x0 => if a = 0x10 then some (regRO 0x7F) else if a = 0x14 then some (regRO 0) else none
  | 0x1 =>
    match a with
    | 0x10000 => some (regRO 0x40000000)
    | 0x10004 => some (regRW 1 0)
    | 0x10010 => some (regRW 0x1FF 0)
    | 0x10800 => some (regRW 0xF 0)
    | 0x10804 => some ⟨0, 0x60000000, 0, 0⟩
    | 0x10808 => some (regRO 0xC0000000)
    | _ => none
  | 0x2 =>
    if a = 0x20000 then some ⟨0, 0, 3, 0⟩
    else if 0x20100 ≤ a ∧ a < 0x20140 then some ⟨0, 0, 0xFFF, 48 + 13 * ((a - 0x20100) / 4)⟩
    else if 0x20200 ≤ a ∧ a < 0x202A8 then
      let q := (a - 0x20200) / 4
      some ⟨0, 0, 0xFF7FFF, 10 * 0x10000 +
        (if q < 32 then 100 else if q < 36 then 400 else if q = 36 then 3584 else if q = 37 then 1152
         else if q = 38 then 160 else 0)⟩
    else if 0x20300 ≤ a ∧ a < 0x203A8 then
      let q := (a - 0x20300) / 4
      some (regRO (if q < 32 then 0x40000 else if q < 36 then 0x10000 else 0))
    else none
  | 0x3 =>
    if a = 0x30000 then some ⟨0, 0x60000000, 0, 0⟩
    else if a = 0x30004 then some ⟨0, 0, 0xFFFFFF, 41 * 0x10000 + 200⟩
    else if a = 0x30008 then some (regRW 0x1FF 0)
    else if 0x30100 ≤ a ∧ a < 0x30190 then some (regRO 0xF000)
    else none
  | 0x4 =>
    if a = 0x40004 then some (regRW 1 1)
    else if a = 0x40010 then some (regRO 0x55)
    else if 0x40100 ≤ a ∧ a < 0x40140 then
      let n := (a - 0x40100) / 4
      some ⟨0, 0, if n = 15 then 0 else 0x03FF001F, (550 + 23 * n) * 0x10000 + 5 + n⟩
    else if 0x40200 ≤ a ∧ a < 0x40280 then some ⟨0, 0x80000000, 0, 4⟩
    else none
  | 0x5 =>
    if a = 0x50000 then some (regRW 3 0)
    else if a = 0x50008 then some ⟨0, 1, 0, 0⟩
    else if 0x50100 ≤ a ∧ a < 0x50180 then some (regRW 0x0FFF0030 0x040A0000)
    else none
  | 0x6 =>
    if a = 0x60000 then some ⟨0, 0x80000000, 0, 0⟩
    else if a = 0x60004 then some (regRW 1 0)
    else if a = 0x60024 then some (regRW 0x3F 0)
    else if 0x61000 ≤ a ∧ a < 0x61800 then some (regRW 0xFFFFFFFF 0)
    else none
  | 0x8 =>
    if a = 0x80000 then some (regRO 3)
    else if 0x80020 ≤ a ∧ a < 0x80040 then
      let k := (a - 0x80020) / 4
      some (regRO (256 * 0x10000 + if k = 0 ∨ k = 5 then 240 else 224))
    else if 0x81000 ≤ a ∧ a < 0x81500 then
      (if a % 0x40 = 0 then some ⟨0, 0, 0x3F, 15⟩ else some (regRO 0))
    else if a = 0x88000 then some (regRW 0xFFFFF0FF (60 * 0x1000000 + 200 * 0x1000 + 16))
    else if a = 0x88004 then some (regRW 0x3FF 250)
    else if a = 0x88008 then some (regRW 0x7FFFF1FF 0)
    else if a = 0x8F000 then some (regRW 0xFFF 0)
    else if a = 0x8F004 then some ⟨0, 0x40000000, 0, 0⟩
    else none
  | 0x9 =>
    if a < 0x94000 then gwRegInfo (a % 0x1000)
    else if a < 0x94100 then some (regRW 0xFFFF0000 0)
    else if a = 0x94200 then some (regRW 0xFFFF0FFF (500 * 0x10000 + 8 * 0x100 + 4))
    else none
  | 0xA =>
    if a = 0xA0004 then some (regRW 0xFFFF (15 * 0x100 + 10))
    else if a = 0xA0008 then some (regRW 0xFFFF001F 0)
    else if a = 0xA0020 then some (regRW 0xFFFF 0)
    else if 0xA1000 ≤ a ∧ a < 0xA1400 then
      let o := a % 0x100
      if o = 0 then some (regRW 0xE 0)
      else if o = 4 then some (regRO 0x2000)
      else if 0x10 ≤ o ∧ o < 0x38 then
        let p := (o - 0x10) / 4
        some (regRO (if p ≤ 7 then p * 0x4000000 else 0x20000000))
      else none
    else none
  | 0xC =>
    let o := a % 0x4000
    if o = 0 then some ⟨0xFF00, 0, 0x3F, 0x010F⟩
    else if 0x2000 ≤ o then epRegInfo 0x2000 0x2400 0x2800 0x3000 o
    else none
  | 0x20 =>
    if a < 0x200400 then
      match a % 16 with
      | 0 => some (regRW 0xFFFF0000 0)
      | 4 => some (regRW 0xFFFFFFFF 0)
      | 8 => some (regRW 0xF7FC0FFF 0)
      | _ => none
    else if a = 0x201000 then some (regRW 0xFFFF 64)
    else if 0x202000 ≤ a ∧ a < 0x202180 ∧ a % 0x80 < 0x50 then some (regRW 7 0)
    else none
  | 0x30 => if a = 0x300440 then some (regRW 1 0) else none
  | 0x48 => some (regRW 0xFFFFFFFF 0)
  | 0x49 => some (regRW 0xFFFFFFFF 0)
  | 0x4A => some (regRW 0xFFFFFFFF 0)
  | 0x4B => some (regRW 0xFFFFFFFF 0)
  | 0x4C => some (regRW 0xFFFFFFFF 0)
  | 0x4D => some (regRW 0xFFFFFFFF 0)
  | 0x4E => some (regRW 0xFFFFFFFF 0)
  | 0x4F => some (regRW 0xFFFFFFFF 0)
  | 0x50 =>
    if a = 0x500000 then some (regRW 1 0)
    else if a = 0x500008 then some (regRW 0x7F 0)
    else if a = 0x500010 then some (regRW 0xFFFFFFC0 0)
    else if a = 0x500014 then some (regRW 0x03FFFFFF 0)
    else if 0x500100 ≤ a ∧ a < 0x500200 then
      match a % 16 with
      | 0 => some (regRW 0xFFFF0000 0)
      | 4 => some (regRW 0x03FFFFFF 0)
      | 8 => some (regRW 0x80FC0000 0)
      | _ => none
    else none
  | h => if 0x10 ≤ h ∧ h ≤ 0x17 then siteRegInfo (a % 0x10000) else none

/-- Reset value of the register at an address. (DESIGN CHOICE, log 6) -/
def regReset (a : Nat) : Word :=
  match regInfo a with
  | some i => BitVec.ofNat 32 i.reset
  | none => 0

/-! ### Registers of the state -/

/-- The stored value of a register. -/
def State.reg (s : State) (a : Nat) : Word := Tab.get (regReset a) s.regs a
/-- Store a register. -/
def State.setReg (s : State) (a : Nat) (v : Word) : State := { s with regs := Tab.put (regReset a) s.regs a v }

/-- Bits `lo` up for `n` bits of a word. -/
def fld (w : Word) (lo n : Nat) : Nat := w.toNat / 2 ^ lo % 2 ^ n
/-- The word with those bits replaced. -/
def withFld (w : Word) (lo n v : Nat) : Word :=
  BitVec.ofNat 32 (w.toNat - fld w lo n * 2 ^ lo + v % 2 ^ n * 2 ^ lo)

/-- A field of a stored register. -/
def State.rf (s : State) (a lo n : Nat) : Nat := fld (s.reg a) lo n
/-- Set a field of a stored register. -/
def State.setRf (s : State) (a lo n v : Nat) : State := s.setReg a (withFld (s.reg a) lo n v)
/-- Add to a saturating field (counters "stop at all ones"). -/
def State.incRf (s : State) (a lo n k : Nat) : State := s.setRf a lo n (min (s.rf a lo n + k) (2 ^ n - 1))
/-- A 64-bit register (R6). -/
def State.reg64 (s : State) (a : Nat) : DWord := s.reg (a + 4) ++ s.reg a
/-- Store a 64-bit register. -/
def State.setReg64 (s : State) (a : Nat) (v : DWord) : State :=
  (s.setReg a (v.extractLsb' 0 32)).setReg (a + 4) (v.extractLsb' 32 32)

/-- Return to reset every register of an address range but those `keep` names. -/
def State.resetRegs (s : State) (lo hi : Nat) (keep : Nat → Bool) : State :=
  { s with regs := Tab.restrict (fun a => decide (a < lo ∨ hi ≤ a) || keep a) s.regs }

/-- A write under the access types of R7 and R8: reserved and read-only bits are ignored, RWL bits after the lock. -/
def State.plainWrite (s : State) (a : Nat) (v : Word) : State :=
  match regInfo a with
  | none => s
  | some i =>
    let w := BitVec.ofNat 32 (i.rw + if s.locked then 0 else i.rwl)
    let c := BitVec.ofNat 32 i.w1c
    let old := s.reg a
    s.setReg a ((old &&& ~~~w &&& ~~~(c &&& v)) ||| (v &&& w))

/-- Whether `a` is the low word of a 64-bit register (R6). -/
def isLow64 (a : Nat) : Bool :=
  match a / 0x10000 with
  | 0x0 => decide (a = 0x8)
  | 0x4 => decide (a = 0x40008)
  | 0xC =>
    let o := a % 0x4000
    decide (o = 0x20) || (decide (0x2000 ≤ o ∧ o < 0x2400) && decide (o % 16 = 0)) ||
      (decide (0x2410 ≤ o ∧ o < 0x2498) && decide (o % 8 = 0))
  | 0x20 => decide (a < 0x200400) && decide (a % 16 = 0)
  | 0x50 => decide (a = 0x500010) || (decide (0x500100 ≤ a ∧ a < 0x500200) && decide (a % 16 = 0))
  | h =>
    if 0x10 ≤ h ∧ h ≤ 0x17 then
      let o := a % 0x10000
      (decide (0x4000 ≤ o ∧ o < 0x8000) && decide (o % 0x40 = 0x10 ∨ o % 0x40 = 0x18 ∨ o % 0x40 = 0x28)) ||
        (decide (0xA000 ≤ o ∧ o < 0xA400) && decide (o % 16 = 0)) ||
        (decide (0xA410 ≤ o ∧ o < 0xA498) && decide (o % 8 = 0)) ||
        (decide (0xB000 ≤ o ∧ o < 0xB100) && decide (o % 16 = 0))
    else false

end Sys2Proof.Machine
end

