-- ==== Sys2Proof/Machine/Flash.lean ====
section
/-! DEFINITION. The configuration flash: its areas and halves, records and their commit words, and what an image needs
to verify (R419, R423, R426). -/

namespace Sys2Proof.Machine

/-- Little-endian words of a byte string, the last padded with zero bytes (R2, R423). -/
def byteWords : List Byte → List Word
  | a :: b :: c :: d :: t => (d ++ c ++ b ++ a) :: byteWords t
  | [a, b, c] => [0#8 ++ c ++ b ++ a]
  | [a, b] => [0#16 ++ b ++ a]
  | [a] => [0#24 ++ a]
  | [] => []

/-- And the bytes of words. -/
def wordBytes (l : List Word) : List (BitVec 8) := l.flatMap (fun w => (List.range 4).map (fun k => w.extractLsb' (8 * k) 8))

/-! ### Records (R423) -/

/-- Bytes a record of `n` body bytes takes: padded, with its commit word. (DEDUCED, log 44) -/
def recordBytes (n : Nat) : Nat := (16 + n + 255) / 256 * 256 + 16
/-- A record's header and body, padded. -/
def recordText (r : FlashRec) : List Byte :=
  wordBytes [BitVec.ofNat 32 r.kind, BitVec.ofNat 32 r.body.length, BitVec.ofNat 32 r.seq, BitVec.ofNat 32 (r.seq / 2 ^ 32)] ++
    r.body ++ List.replicate ((16 + r.body.length + 255) / 256 * 256 - (16 + r.body.length)) 0
/-- The commit word that counts it. -/
def commitWord (r : FlashRec) : List Word :=
  [BitVec.ofNat 32 r.seq, BitVec.ofNat 32 (r.seq / 2 ^ 32), Config.crc32 (byteWords ((recordText r).take (16 + r.body.length))), 0x5A5AA5A5#32]
/-- What the flash holds of a record: an uncommitted one has no commit word. -/
def recordImage (r : FlashRec) : List Byte := recordText r ++ if r.done then wordBytes (commitWord r) else []

/-- The current record of a kind: of the committed ones, that of the highest Seq. -/
def newestRec (s : State) (kind : Nat) : Option FlashRec :=
  s.flash.foldl (fun b r =>
    if r.kind = kind ∧ r.done then (match b with | some x => if x.seq < r.seq then some r else b | none => some r) else b) none
/-- The image record of a slot. -/
def slotRec (s : State) (slot : Nat) : Option FlashRec := s.flash.find? (fun r => decide (r.kind = 1 ∧ r.slot = slot) && r.done)
/-- The slot the newest slot-select record names: A without one (R419, R425). -/
def selectedSlot (s : State) : Nat := match newestRec s 2 with | some r => (r.body.headD 0).toNat % 2 | none => 0

/-! ### Areas (R423) -/

/-- Kinds of the records that share an area with a kind. -/
def areaKinds (kind : Nat) : List Nat := if kind = 3 ∨ kind = 5 then [3, 5] else [kind]
/-- Bytes an area holds for one record: an image slot, or half of an area. -/
def areaBytes (kind : Nat) : Nat := if kind = 1 then 16777216 else if kind = 2 then 524288 else 2097152
def inArea (kind : Nat) (r : FlashRec) : Bool := (areaKinds kind).contains r.kind
/-- The half in use: that of the record written last. -/
def halfInUse (s : State) (kind : Nat) : Nat := s.flash.foldl (fun h r => if inArea kind r then r.half else h) 0
def recsBytes (l : List FlashRec) : Nat := l.foldl (fun n r => n + recordBytes r.body.length) 0
/-- Room for a record in its area's half in use: where it fills, the other half is erased, and takes the current records. One of
the new record's own kind that leaves it no room stays where it is. (DESIGN CHOICE, log 44) -/
def makeRoom (kind len : Nat) (s : State) : State :=
  let h := halfInUse s kind
  if kind = 1 ∨ recsBytes (s.flash.filter (fun r => inArea kind r && decide (r.half = h))) + recordBytes len ≤ areaBytes kind then s
  else
    let cur := (areaKinds kind).filterMap (newestRec s)
    let cur := if recsBytes cur + recordBytes len ≤ areaBytes kind then cur else cur.filter (fun r => decide (r.kind ≠ kind))
    { s with flash := s.flash.filter (fun r => !(inArea kind r && decide (r.half = 1 - h))) ++ cur.map (fun r => { r with half := 1 - h }) }
/-- Whether a record fits its area at all, beside the other current ones. (DESIGN CHOICE, log 44) -/
def recFits (kind len : Nat) (s : State) : Bool :=
  decide (recsBytes (((areaKinds kind).filterMap (newestRec s)).filter (fun r => decide (r.kind ≠ kind))) + recordBytes len ≤ areaBytes kind)

/-- Seq of the next record: past every one that was written. (DEDUCED, log 44) -/
def nextSeq (s : State) : Nat := s.flash.foldl (fun n r => max n r.seq) s.flashSeq + 1
/-- A record is written, with its commit word or without. -/
def putRec (done : Bool) (kind : Nat) (body : List Byte) (s : State) : State :=
  { s with
    flash := s.flash ++ [⟨kind, if kind = 1 then 1 - s.slotBoot else 0, nextSeq s, body, halfInUse s kind, done⟩]
    flashSeq := nextSeq s }
/-- The open record is abandoned: it stays in the flash without a commit word (R426). -/
def abandonRec (s : State) : State :=
  match s.fOpen with
  | some r => putRec false r.kind r.body { s with fOpen := none }
  | none => s
/-- Records without a commit word among those read. -/
def badRecords (s : State) (reads : FlashRec → Bool) : Nat := (s.flash.filter (fun r => !r.done && reads r)).length

/-! ### Images (R419) -/

/-- The fused SecVersion: the largest valid entry (R420). -/
def fusedVersion (s : State) : Nat := s.fuses.vers.foldl (fun n v => max n v.toNat) 0

/-- KeySlot, SecVersion and BodyLen of an image, where its record is laid out as one. -/
def imageHead (body : List Byte) : Option (Nat × Nat × Nat) :=
  let w := byteWords (body.take 16)
  let n := (w.getD 1 0).toNat
  if w.getD 0 0 = 1#32 ∧ n % 64 = 0 ∧ n ≤ 16747008 ∧ (w.getD 2 0).toNat < 2 ^ 16 ∧ (w.getD 3 0).toNat ≤ 1 ∧ body.length = 128 + n + 29792
  then some ((w.getD 3 0).toNat, (w.getD 2 0).toNat, n) else none
def imageIn (s : State) (slot : Nat) : Option (Nat × Nat × Nat) := (slotRec s slot).bind (fun r => imageHead r.body)
/-- The first two checks of R419: a key slot that is not revoked, and a public key of the root hash fused for it. -/
def keyOk (s : State) (k : Nat) (pk : List Byte) : Bool :=
  decide (k ≤ 1) && !s.fuses.revoked.contains k && decide (shake256 pk = if k = 0 then s.fuses.rootA else s.fuses.rootB)
/-- Whether the image of a slot passes R419 but for its signature, which the row brings. -/
def headerOk (s : State) (slot : Nat) : Bool :=
  match imageIn s slot with
  | some (k, v, _) => decide (fusedVersion s ≤ v) && keyOk s k ((((slotRec s slot).map FlashRec.body).getD []).drop 16 |>.take 64)
  | none => false
/-- The image that runs. -/
def runningImage (s : State) : Option (Nat × Nat × Nat) := imageIn s s.slotBoot

end Sys2Proof.Machine
end

