-- ==== Sys2Proof/Machine/Flags.lean ====
section
/-! DEFINITION. Status and flag words: the tally counters (R31–R34), SITE_CORE_STATE (R63), FAULT_INFO (R55) and the
special registers a core reads (R38). -/

namespace Sys2Proof.Machine

/-- Code of a core state in SITE_CORE_STATE.State (R63). -/
def CoreSt.code : CoreSt → Nat
  | .idle => 0
  | .running => 1
  | .halted => 2
  | .trapped => 3
  | .stopped => 4
  | .stopping => 5
  | .fenced => 6

/-- Code of SITE_CORE_STATE.StopCause (R63). -/
def StopCause.code : StopCause → Nat
  | .host => 0
  | .step => 1
  | .break => 2
  | .kill => 3

/-- SITE_CORE_STATE of a core (R63). -/
def coreStateWord (k : Core) : Word :=
  BitVec.ofNat 32 ((if k.refused then 2 ^ 31 else 0) + k.bulk.length * 2 ^ 24 + k.fe.length * 2 ^ 8 +
    k.cause.code * 64 + (if k.pause.isSome then 32 else 0) + k.st.code)

/-- FAULT_INFO after a trap (R38, R55). (DEDUCED, log 8) -/
def faultWord (cause slot idx addr status tally : Nat) : DWord :=
  BitVec.ofNat 64 (addr % 2 ^ 18 * 2 ^ 32 + idx % 2 ^ 15 * 2 ^ 17 + slot * 2 ^ 16 + status * 2 ^ 12 + tally * 2 ^ 9 +
    2 ^ 8 + cause)

/-- A tally counter after `n` completions or arrivals (R31). -/
def tcAdd (w : DWord) (n : Nat) : DWord :=
  BitVec.ofNat 64 (w.toNat / 2 ^ 32 * 2 ^ 32 + (w.toNat % 2 ^ 32 + n) % 2 ^ 32)

/-- A tally counter after a completion with `n` acknowledgements and a status (R32). -/
def tcComplete (w : DWord) (n status : Nat) : DWord :=
  let u := tcAdd w n
  if status = 0 then u
  else
    let err := u.toNat / 2 ^ 40 % 256
    let sticky := u.toNat / 2 ^ 36 % 2
    let first := u.toNat / 2 ^ 32 % 16
    BitVec.ofNat 64 (min (err + 1) 255 * 2 ^ 40 + 2 ^ 36 + (if sticky = 0 then status else first) * 2 ^ 32 +
      u.toNat % 2 ^ 32)

/-- Whether WAITT's condition holds: Count − v is zero or positive as a signed 32-bit number (R31). -/
def waittMet (w : DWord) (v : Word) : Bool := decide ((w.extractLsb' 0 32 - v).toNat < 2 ^ 31)

/-- Whether a line of a core store lies in the window of a binding (R33, R41). -/
def bindsLine (b : DWord) (line : Nat) : Bool :=
  let base := b.toNat % 4096
  let m1 := b.toNat / 2 ^ 16 % 4096
  b.getLsbD 32 && decide (base ≤ line ∧ line ≤ base + m1)

/-- CORE_STALL after a stall cycle of a cause: 0 Fetch, 1 Scoreboard, 2 EngineFull, 3 BankYield (R38). -/
def stallAdd (w : DWord) (cause n : Nat) : DWord :=
  let f := w.toNat / 2 ^ (16 * cause) % 2 ^ 16
  BitVec.ofNat 64 (w.toNat - f * 2 ^ (16 * cause) + min (f + n) 65535 * 2 ^ (16 * cause))

/-- Region r = 4·anvil + q of a core (R9, R352). -/
def regionOf (c : Nat) : Nat := 4 * (c / 256) + 2 * (c % 256 / 16 / 8) + c % 16 / 8
/-- Cluster of a core within its anvil (R9). -/
def clusterOf (c : Nat) : Nat := 4 * (c % 256 / 16 / 4) + c % 16 / 4

/-- STEP_CTRL of a core: its hint over its region's step and pending change (R38, R352). -/
def stepCtrl (s : State) (c : Nat) (k : Core) : DWord :=
  let w := s.reg (0x40200 + 4 * regionOf c)
  BitVec.ofNat 64 (k.hint.toNat * 2 ^ 16 + fld w 12 1 * 2 ^ 8 + fld w 8 4 * 16 + fld w 0 4)

/-- A special register as a core reads it; none for a number not in the table (R38). -/
def srRead (s : State) (c : Nat) (k : Core) (n : Nat) : Option DWord :=
  match n with
  | 0x00 => some (BitVec.ofNat 64 c)
  | 0x01 => some (BitVec.ofNat 64 (s.reg 0x14).toNat)
  | 0x02 => some (k.jobTag.zeroExtend 64)
  | 0x03 => some (stepCtrl s c k)
  | 0x04 => some (BitVec.ofNat 64 k.cycles)
  | 0x05 => some k.stall
  | 0x06 => some k.seed
  | 0x07 => some (k.epochTag.zeroExtend 64)
  | 0x08 => some (k.view ++ 1#1)
  | 0x09 => some k.fault
  | n => if 0x10 ≤ n ∧ n < 0x18 then some (Tab.get 0 k.tc (n - 0x10))
         else if 0x18 ≤ n ∧ n < 0x20 then some (Tab.get 0 k.tcb (n - 0x18)) else none

/-- A special register written by SWR (R34, R38, R136, R137): read-only registers and fields keep
their values. -/
def srWrite (n : Nat) (v : DWord) (k : Core) : Core :=
  match n with
  | 0x03 => { k with hint := v.extractLsb' 16 4 }
  | 0x06 => { k with seed := v, gen := v }
  | 0x07 => { k with epochTag := v.extractLsb' 0 6 }
  | 0x08 => { k with view := v.extractLsb' 1 63 }
  | n =>
    if 0x10 ≤ n ∧ n < 0x18 then { k with tc := Tab.put 0 k.tc (n - 0x10) (v &&& 0xFFFFFFFF#64) }
    else if 0x18 ≤ n ∧ n < 0x20 then { k with tcb := Tab.put 0 k.tcb (n - 0x18) (v &&& 0x10FFF0FFF#64) }
    else k

end Sys2Proof.Machine
end

