-- ==== Sys2Proof/Machine/Parts.lean ====
section
/-! DEFINITION. The device's parts: a core and its registers, and the numbers of endpoints, sites and functions
(R9, R11), and of bundles (R227, R303). -/

namespace Sys2Proof.Machine

/-! ### Cores -/

/-- A core by its index. -/
def State.core (s : State) (c : Nat) : Core := Tab.get Core.reset s.cores c
/-- Replace a core. -/
def State.setCore (s : State) (c : Nat) (k : Core) : State := { s with cores := Tab.put Core.reset s.cores c k }
/-- Change a core. -/
def State.modCore (s : State) (c : Nat) (f : Core → Core) : State := s.setCore c (f (s.core c))

/-- x register; x0 reads as zero (R42). -/
def Core.getX (k : Core) (r : BitVec 5) : DWord := if r = 0#5 then 0 else Tab.get 0 k.x r.toNat
/-- Write an x register; a write to x0 is discarded. -/
def Core.setX (k : Core) (r : BitVec 5) (v : DWord) : Core :=
  if r = 0#5 then k else { k with x := Tab.put 0 k.x r.toNat v }
/-- v register. -/
def Core.getV (k : Core) (r : BitVec 5) : VWord := Tab.get 0 k.v r.toNat
/-- Write a v register. -/
def Core.setV (k : Core) (r : BitVec 5) (v : VWord) : Core := { k with v := Tab.put 0 k.v r.toNat v }
/-- Predicate register; p0 reads as all ones (R20). -/
def Core.getP (k : Core) (r : BitVec 3) : PWord := if r = 0#3 then BitVec.allOnes 128 else Tab.get 0 k.p r.toNat
/-- Write a predicate register; a write to p0 is discarded (R20). -/
def Core.setP (k : Core) (r : BitVec 3) (v : PWord) : Core :=
  if r = 0#3 then k else { k with p := Tab.put 0 k.p r.toNat v }
/-- Accumulator row. -/
def Core.getAcc (k : Core) (a : BitVec 2) (row : Nat) : VWord := Tab.get 0 k.acc (32 * a.toNat + row)
/-- Write an accumulator row. -/
def Core.setAcc (k : Core) (a : BitVec 2) (row : Nat) (v : VWord) : Core :=
  { k with acc := Tab.put 0 k.acc (32 * a.toNat + row) v }

/-- Close the open groups whose keys satisfy `p` (R139). -/
def closeWhere (p : Nat → Bool) (k : Core) : Core :=
  { k with
    acc := k.grp.foldl (fun t e => if p e.1 then Tab.put 0 t e.1 (closeRow (Tab.get 0 t e.1) e.2) else t) k.acc
    grp := Tab.restrict (fun i => !p i) k.grp }
/-- Close every open group: the core leaves RUNNING (R139). -/
def Core.closeAll (k : Core) : Core := closeWhere (fun _ => true) k
/-- Close the groups of one accumulator (R139). -/
def Core.closeAcc (k : Core) (a : BitVec 2) : Core := closeWhere (fun i => decide (i / 32 = a.toNat)) k

/-! ### Numbers of parts (R9, R11) -/

/-- Endpoint of a site. -/
def siteEp (site : Nat) : Nat := 5 * (site / 2) + site % 2
/-- Function of an endpoint (R11). -/
def funcOfEp (e : Nat) : Nat :=
  if e = 4 then 0
  else match e % 5 with
    | 2 => 9 + e / 5
    | 3 => 13
    | 4 => 14
    | m => 1 + 2 * (e / 5) + m
/-- Endpoints of a function; F0's E4 is never fenced (R382). -/
def epsOfFunc (f : Nat) : List Nat :=
  if 1 ≤ f ∧ f ≤ 8 then [siteEp (f - 1)]
  else if 9 ≤ f ∧ f ≤ 12 then [5 * (f - 9) + 2]
  else if f = 13 then [3, 8, 13, 18]
  else if f = 14 then [9, 14, 19]
  else []
/-- Whether an endpoint is a compute stack. -/
def isStack (e : Nat) : Bool := decide (e % 5 ≤ 1)
/-- Whether an endpoint is a crucible. -/
def isCruc (e : Nat) : Bool := decide (e % 5 = 2)
/-- Site of a stack endpoint. -/
def siteOfEp (e : Nat) : Nat := 2 * (e / 5) + e % 5
/-- Base of the window, ownership, combining and speculation registers of a stack or crucible endpoint, with the
offsets of the window, ownership, combining and speculation blocks (R195, R201, R225, R272). -/
def epRegBase (e : Nat) : Nat := if isCruc e then crucBase (e / 5) else siteBase (siteOfEp e)
def epWin (e : Nat) : Nat := epRegBase e + (if isCruc e then 0x2000 else 0xA000)
def epOwn (e : Nat) : Nat := epRegBase e + (if isCruc e then 0x2400 else 0xA400)
def epComb (e : Nat) : Nat := epRegBase e + (if isCruc e then 0x2800 else 0xA800)
def epSpec (e : Nat) : Nat := epRegBase e + (if isCruc e then 0x3000 else 0xC000)
/-- Source block code of a stack or crucible endpoint (R169, R286). -/
def epBlock (e : Nat) : Nat := if isCruc e then 16 + e / 5 else 8 + siteOfEp e

/-! ### Bundles (R227) -/

/-- Bundles of an endpoint. -/
def bundlesOf (e : Nat) : Nat :=
  match e % 5 with
  | 2 => 64
  | 3 => 80
  | 4 => if e = 4 then 32 else 16
  | _ => 32
/-- First index of a tile's bundles, and of a slot's within its tile. -/
def firstOf (t : Nat) : Nat := match t with | 0 => 0 | 1 => 240 | 2 => 464 | _ => 688
def slotOffset (k : Nat) : Nat := match k with | 0 => 0 | 1 => 32 | 2 => 64 | 3 => 128 | _ => 208
/-- Endpoint that owns transmit bundle `g`. -/
def ownerOf (g : Nat) : Nat :=
  let t := if g < 240 then 0 else if g < 464 then 1 else if g < 688 then 2 else 3
  let o := g - firstOf t
  5 * t + (if o < 32 then 0 else if o < 64 then 1 else if o < 128 then 2 else if o < 208 then 3 else 4)
def firstBundle (e : Nat) : Nat := firstOf (e / 5) + slotOffset (e % 5)
/-- Receive bundle of `dst` that `g` reaches. -/
def rxOf (g dst : Nat) : Nat := g % bundlesOf dst

/-! ### Electrical bundles (R303, R322) -/

/-- Number of a link by the kind and index that DL_SEL names it by. -/
def linkKey (kind index : Nat) : Nat := kind * 4096 + index
def keyKind (k : Nat) : Nat := k / 4096
def keyIndex (k : Nat) : Nat := k % 4096
/-- The inductive bundles of a cluster port, anvil to billet and billet to anvil. -/
def upWire (site cl : Nat) : Nat := linkKey 1 (32 * site + 16 + cl)
def downWire (site cl : Nat) : Nat := linkKey 1 (32 * site + cl)
/-- Whether an endpoint is a die that hybrid-bond bundles join to the hearth: a stack, a crucible or the tongs. -/
def onDie (e : Nat) : Bool := isStack e || isCruc e || decide (e = 4)
/-- The hybrid-bond bundles, hearth to die and die to hearth, of the `n`-th packet: R303 does not say which of a die's
bundles a packet takes. (DESIGN CHOICE, log 23) -/
def dieBundles (e : Nat) : Nat := if isCruc e then 32 else 16
def dieIn (e n : Nat) : Nat := linkKey 0 (64 * e + n % dieBundles e)
def dieOut (e n : Nat) : Nat := linkKey 0 (64 * e + 32 + n % dieBundles e)

def State.wire (s : State) (k : Nat) : Wire := Tab.get Wire.reset s.wires k
def State.setWire (s : State) (k : Nat) (w : Wire) : State := { s with wires := Tab.put Wire.reset s.wires k w }
/-- A unit of the Events (0) or Debug (5) class waits at a bundle of a trained link (R307). -/
def addUnit (k ch : Nat) (s : State) : State :=
  if s.linksUp then
    s.setWire k { s.wire k with extra := Tab.put 0 (s.wire k).extra ch (Tab.get 0 (s.wire k).extra ch + 1) }
  else s
/-- A broadcast of the tongs on L1 leaves by their bundle and is delivered to every die, an anvil's through its billet
(R307). -/
def toDies (s : State) : State :=
  let s := addUnit (dieOut 4 0) 0 s
  let s := ((List.range 20).filter (fun e => isStack e || isCruc e)).foldl (fun t e => addUnit (dieIn e 0) 0 t) s
  (List.range 8).foldl (fun t site => addUnit (downWire site 0) 0 t) s

/-- FUNC_STATE of a function: 0 Online, 1 Resetting, 2 Offline, 3 absent (R394). -/
def State.funcState (s : State) (f : Nat) : Nat := s.rf 0x10808 (2 * f) 2
/-- Whether an endpoint stands in HEARTH_FENCE_MASK (R241). -/
def State.epFenced (s : State) (e : Nat) : Bool := decide (s.rf 0x80004 e 1 = 1)
/-- Device power state: 0 RUN, 1 NAP, 2 STANDBY (R359). -/
def State.devState (s : State) : Nat := s.rf 0x50004 0 2
/-- The device state a site's or a crucible's block answers by: a lower one from the moment it has accepted its entry, while
another block still delays it (R362). -/
def State.blockState (s : State) (b : Nat) : Nat :=
  if s.devState ≠ 0 then s.devState
  else
    match s.entries.find? (fun e => decide (e.1 ≤ 2 ∧ 0 < e.2.1)) with
    | some e => if e.2.2 = b then 0 else e.1
    | none => 0
/-- The device's own fabric number, and whether it is valid (R406). (DEDUCED, log 25) -/
def State.fabValid (s : State) : Bool := decide (s.rf 0x14 8 1 = 1)
def State.fabNum (s : State) : Nat := s.rf 0x14 0 6

end Sys2Proof.Machine
end

