-- ==== Sys2Proof/Machine/Packets.lean ====
section
/-! DEFINITION. Packets in the device: addresses and maps (R171–R175), headers (R176–R181), the order of statuses
(R183), ordering of a source's requests (R184–R188), responses, credits (R205), multicasts (R214, R215) and combining
tables (R208–R212). -/

namespace Sys2Proof.Machine

/-! ### Global fabric addresses (R171–R175) -/

def dFab (a : DWord) : Nat := a.toNat / 2 ^ 58
def dEp (a : DWord) : Nat := a.toNat / 2 ^ 53 % 32
def dOff (a : DWord) : Nat := a.toNat % 2 ^ 53
def gfa (fab ep off : Nat) : DWord := BitVec.ofNat 64 (fab * 2 ^ 58 + ep % 32 * 2 ^ 53 + off % 2 ^ 53)

/-- The address after translation of the striped view (R174). (DEDUCED, log 24) -/
def effAddr (a : DWord) : DWord :=
  let o := dOff a
  if dEp a < 20 ∧ isCruc (dEp a) = true ∧ 2 ^ 40 ≤ o ∧ o < 2 ^ 40 + 576 * 2 ^ 30 then
    let x := o - 2 ^ 40
    gfa (dFab a) (5 * (x / 4096 % 4) + 2) (x / 4096 / 4 * 4096 + x % 4096)
  else a

/-- What an endpoint holds at an offset (R173–R175). -/
inductive Tgt where
  | billet (site off : Nat)
  | store (c off : Nat)
  | ctrl (a : Nat)
  | cruc (k off : Nat)
  | mirror (a : Nat)
  | guest (g : Nat)
  | none
  deriving DecidableEq, Repr

def tgtOf (e o : Nat) : Tgt :=
  if 20 ≤ e then .none
  else if isStack e then
    if o < 2 ^ 28 then .billet (siteOfEp e) o
    else if 2 ^ 32 ≤ o ∧ o < 2 ^ 32 + 2 ^ 26 then
      .store (256 * siteOfEp e + (o - 2 ^ 32) / 2 ^ 18) ((o - 2 ^ 32) % 2 ^ 18)
    else if 2 ^ 33 ≤ o ∧ o < 2 ^ 33 + 2 ^ 16 then .ctrl (siteBase (siteOfEp e) + (o - 2 ^ 33))
    else .none
  else if isCruc e then (if o < 144 * 2 ^ 30 then .cruc (e / 5) o else .none)
  else if e = 4 then (if 2 ^ 33 ≤ o ∧ o < 2 ^ 33 + 2 ^ 32 then .mirror (o - 2 ^ 33) else .none)
  else if e % 5 = 4 then .guest (e / 5 - 1)
  else .none

/-- Whether `n` bytes from the target lie in its row; a core-store request lies in one core's store. -/
def Tgt.room (n : Nat) : Tgt → Bool
  | .billet _ o => decide (o + n ≤ 2 ^ 28)
  | .store _ o => decide (o + n ≤ 2 ^ 18)
  | .ctrl a => decide (a % 2 ^ 16 + n ≤ 2 ^ 16)
  | .cruc _ o => decide (o + n ≤ 144 * 2 ^ 30)
  | .mirror a => decide (a + n ≤ 2 ^ 32)
  | .guest _ => true
  | .none => false

/-- Linear address of a memory target. (DESIGN CHOICE, log 5) -/
def billetAddr (site off : Nat) : Nat := 2 ^ 30 + site * 2 ^ 28 + off
def hbmAddr (k off : Nat) : Nat := 2 ^ 40 + k * 2 ^ 38 + off

/-- Whether a target is billet or crucible memory. -/
def Tgt.isMem : Tgt → Bool
  | .billet _ _ => true
  | .cruc _ _ => true
  | _ => false

/-! ### Headers (R176–R181) -/

/-- A response opcode. -/
def isResp (p : Pkt) : Bool := decide (0x20 ≤ p.op.toNat ∧ p.op.toNat ≤ 0x22)
/-- A write in the sense of R184. -/
def isWriteOp (o : Nat) : Bool :=
  decide ((2 ≤ o ∧ o ≤ 5) ∨ (8 ≤ o ∧ o ≤ 11) ∨ (0x10 ≤ o ∧ o ≤ 0x13) ∨ (0x18 ≤ o ∧ o ≤ 0x1A))
def isFat (p : Pkt) : Bool := decide (8 ≤ p.op.toNat ∧ p.op.toNat ≤ 11)
def isFred (p : Pkt) : Bool := decide (0x10 ≤ p.op.toNat ∧ p.op.toNat ≤ 0x13)
def isMcs (p : Pkt) : Bool := decide (p.op.toNat = 4 ∨ p.op.toNat = 5)
def isTop8 (p : Pkt) : Bool := decide (p.op.toNat = 0x13 ∧ p.var.toNat = 5)
/-- A flagged 8 B write, which travels on L0 and the control stream (R236, R254). -/
def onLoop (p : Pkt) : Bool := p.flag && decide (p.op.toNat = 2 ∨ p.op.toNat = 4)

/-- Bytes a request touches (R179). -/
def reqBytes (p : Pkt) : Nat :=
  match p.op.toNat with
  | 1 => if p.var.toNat = 0 then 8 else 64 * p.var.toNat
  | 2 => 8
  | 3 => 64 * p.len.toNat
  | 4 => 8
  | 5 => 64 * p.len.toNat
  | 8 => 1
  | 9 => 2
  | 10 => 4
  | 11 => 8
  | o => if 0x10 ≤ o ∧ o ≤ 0x13 then (if isTop8 p then 64 else 128) else 1

/-- Alignment below which address bits are ignored (R88, R93). -/
def reqAlign (p : Pkt) : Nat :=
  match p.op.toNat with
  | 1 => if p.var.toNat = 0 then 8 else 64
  | 2 => 8
  | 4 => 8
  | 3 => 64
  | 5 => 64
  | 0x18 => 1
  | 0x19 => 1
  | 0x1A => 1
  | _ => reqBytes p

/-- Endpoint and offset a request acts on. -/
def reqEp (p : Pkt) : Nat := dEp (effAddr p.dst)
/-- An ECOMMIT acts on its endpoint, whatever its offset (R91, R95). -/
def reqOff (p : Pkt) : Nat := if p.op.toNat = 0x1A then 0 else dOff (effAddr p.dst) / reqAlign p * reqAlign p
def reqTgt (p : Pkt) : Tgt := tgtOf (reqEp p) (reqOff p)

/-- EXTENT at the home: an address outside the endpoint's map (R95, R173–R175). (DEDUCED, log 24) -/
def extentBad (p : Pkt) : Bool :=
  if p.op.toNat = 0x1A then
    !(decide (reqEp p < 20) && (isStack (reqEp p) || isCruc (reqEp p) || decide (reqEp p % 5 = 4 ∧ reqEp p ≠ 4)))
  else !(reqTgt p).room (reqBytes p)

/-- Virtual channel (R150) and flits (R149) of a packet. -/
def pktVc (p : Pkt) : Nat := if p.cls then (if isResp p then 2 else 1) else 0
def pktFlits (p : Pkt) : Nat := if p.cls then p.len.toNat + 1 else 1

/-- The same source (R184). -/
def sameSrc (a b : Pkt) : Bool :=
  decide (a.srcFab = b.srcFab) && decide (a.srcEp = b.srcEp) && decide (a.srcCore = b.srcCore) && decide (a.eng = b.eng)

/-- Device-wide index of a local core a packet comes from. -/
def srcCoreIdx (p : Pkt) : Nat := 256 * siteOfEp p.srcEp.toNat + p.srcCore.toNat

/-- Whether the requester is on this device. -/
def State.ownSrc (s : State) (p : Pkt) : Bool := decide (p.srcFab.toNat = s.fabNum)
/-- Whether the target is on this device. -/
def State.ownDst (s : State) (p : Pkt) : Bool := decide (dFab p.dst = s.fabNum)

/-! ### Members of a multicast (R94, R154, R240) -/

/-- A hearth multicast, and its members. -/
def isHearthMc (p : Pkt) : Bool := isMcs p && decide (2 ≤ p.mcKind.toNat)
def hearthMembers (p : Pkt) : List Nat :=
  if p.mcKind.toNat = 2 then ((List.range 5).filter (fun k => p.members.getLsbD k)).map (fun k => dEp p.dst / 5 * 5 + k)
  else ((List.range 4).filter (fun t => p.members.getLsbD t)).map (fun t => 5 * t + dEp p.dst % 5)
/-- Member bit of endpoint `d`. -/
def hearthBit (p : Pkt) (d : Nat) : Nat := if p.mcKind.toNat = 2 then d % 5 else d / 5

/-- A mesh multicast along a row or column that still names members; the copy a member takes names none. -/
def isMeshMc (p : Pkt) : Bool := isMcs p && decide (p.mcKind.toNat ≤ 1 ∧ p.members ≠ 0#18)
/-- Position of a core along a multicast's line, the core at a position of it, and the positions named. -/
def mcPos (p : Pkt) (c : Nat) : Nat := if p.mcKind.toNat = 0 then c % 16 else c % 256 / 16
def mcCore (p : Pkt) (i : Nat) : Nat :=
  if p.mcKind.toNat = 0 then srcCoreIdx p / 16 * 16 + i else srcCoreIdx p / 256 * 256 + 16 * i + srcCoreIdx p % 16
def meshMembers (p : Pkt) : List Nat := (List.range 16).filter (fun i => p.members.getLsbD i)

/-- The packet one member takes, at its own address: that core's store, or that endpoint. -/
def memberPkt (p : Pkt) (dst : DWord) : Pkt := { p with dst := dst, mcKind := 0, members := 0 }
def meshPkt (p : Pkt) (c : Nat) : Pkt :=
  memberPkt p (gfa (dFab p.dst) (dEp p.dst) (2 ^ 32 + c % 256 * 2 ^ 18 + dOff p.dst % 2 ^ 18))
def hearthPkt (p : Pkt) (e : Nat) : Pkt := memberPkt p (gfa (dFab p.dst) e (dOff p.dst))
/-- The requests a packet stands for: itself, or one for each member a multicast still names. -/
def memberPkts (p : Pkt) : List Pkt :=
  if isMeshMc p then (meshMembers p).map (fun i => meshPkt p (mcCore p i))
  else if isHearthMc p then (hearthMembers p).map (hearthPkt p) else [p]

/-! ### Statuses (R182, R183) -/

/-- The order of R183. -/
def statusOrder : List Nat := [4, 5, 9, 2, 3, 6, 1, 7, 8]
/-- The status of a set of findings: the first of R183 among them, else OK. -/
def firstStatus (l : List Nat) : Nat := (statusOrder.find? (fun x => l.contains x)).getD 0
/-- The completion word (R180). -/
def compWord (status count : Nat) (fenced : Bool) : BitVec 23 :=
  BitVec.ofNat 23 (status + (if fenced then 16 else 0) + count % 2 ^ 18 * 32)
def compStatus (p : Pkt) : Nat := p.comp.toNat % 16
def compCount (p : Pkt) : Nat := p.comp.toNat / 32

/-- Whether a tag is armed for JOB_KILL (R223). -/
def State.armed (s : State) (tag : Nat) : Bool :=
  (List.range 8).any (fun k => decide (s.reg (0x8F010 + 4 * k) = BitVec.ofNat 32 (2 ^ 31 + tag)))

/-! ### The pool -/

def State.item (s : State) (id : Nat) : Option Item := s.pool.find? (fun i => decide (i.id = id))
def State.dropItem (s : State) (id : Nat) : State := { s with pool := s.pool.filter (fun i => decide (i.id ≠ id)) }
/-- Change an item in its place in the order of arrival. -/
def State.modItem (s : State) (id : Nat) (f : Item → Item) : State :=
  { s with pool := s.pool.map (fun i => if i.id = id then f i else i) }
/-- Core whose store the engine side moves an item's lines into or out of (R25). -/
def storeCore (it : Item) : Option Nat :=
  match it.loc with
  | .store c => if isResp it.pkt then none else some c
  | .resp => if it.pkt.eng = 0#2 then some (srcCoreIdx it.pkt) else none
  | _ => none
/-- An item as it arrives now. -/
def State.arriving (s : State) (it : Item) : Item :=
  { it with since := s.now, cyc := match storeCore it with | some c => (s.core c).cycles | none => it.cyc }
/-- Put an item last, arriving now. -/
def State.addItem (s : State) (it : Item) : State := { s with pool := s.pool ++ [s.arriving it] }
/-- Move an item to a place, last in the order of arrival there. -/
def State.moveItem (s : State) (it : Item) (l : Loc) : State := (s.dropItem it.id).addItem { it with loc := l }

/-- Count a request of a source to an endpoint (R177: Seq): the one it is for after the translation of R174, so that one
count orders what names it by either view. (DEDUCED, log 24) -/
def seqKey (p : Pkt) : Nat :=
  ((p.srcEp.toNat * 256 + p.srcCore.toNat) * 4 + p.eng.toNat) * 2 ^ 11 + dFab p.dst * 32 + reqEp p

/-- A new request at its source, with its source's next Seq to that endpoint. -/
def newReq (p : Pkt) (l : Loc) (via : Nat) (blk : Option (Nat × Nat)) (s : State) : Item :=
  { id := s.nextId, no := s.nextId, loc := l, pkt := { p with seq := Tab.get 0 s.seqs (seqKey p) }
    wr := isWriteOp p.op.toNat, since := s.now, lead := none, ctx := none, cred := none, via := via, held := false
    own := decide (0x18 ≤ p.op.toNat ∧ p.op.toNat ≤ 0x1A), tab := false, blk := blk, fails := 0, dead := false, chk := none, rel := 0, lines := 0
    cyc := if blk.isSome then (s.core (srcCoreIdx p)).cycles else 0, old := none, frame := none }
/-- Count a new request: its number is taken and its source's Seq advances. -/
def countReq (p : Pkt) (s : State) : State :=
  { s with seqs := Tab.put 0 s.seqs (seqKey p) (Tab.get 0 s.seqs (seqKey p) + 1), nextId := s.nextId + 1 }
/-- A new request joins the pool. -/
def pushReq (p : Pkt) (l : Loc) (via : Nat) (blk : Option (Nat × Nat)) (s : State) : State :=
  { countReq p s with pool := s.pool ++ [newReq p l via blk s] }

/-- Route entry of a device (R252): whether it is valid, and its gateway. -/
def routeValid (s : State) (f : Nat) : Bool := decide (s.rf (0x94000 + 4 * f) 31 1 = 1)
def routeGw (s : State) (f : Nat) : Nat := s.rf (0x94000 + 4 * f) 28 2
def gwEp (g : Nat) : Nat := 5 * g + 3

/-! ### Ordering (R185–R188) -/

/-- Whether the source's job is under FLAG_AFTER (R60), and whether DEST_ORDER binds it. R61 does not say which slot
governs requests issued before SITE_CORE_JOBSEL was rewritten: the slot in force when the question arises does. A block
agent of this device counts as DEST_ORDER. A home cannot see the mode of another device's source, so it keeps to both.
(DESIGN CHOICE, log 10, log 24) -/
def flagAfter (s : State) (p : Pkt) : Bool :=
  if s.ownSrc p then
    decide (p.eng.toNat ≤ 1) &&
      (let c := srcCoreIdx p
       decide (s.rf (siteBase (c / 256) + 0x104 + 8 * s.rf (coreBase c + 0x0C) 0 3) 0 1 = 1))
  else true
def destOrder (s : State) (p : Pkt) : Bool := !s.ownSrc p || !flagAfter s p

/-- First and last line a request touches. -/
def firstLine (p : Pkt) : Nat := reqOff p / 64
def lastLine (p : Pkt) : Nat := (reqOff p + reqBytes p - 1) / 64
/-- Whether two requests name a common endpoint, and a common line of it: of a multicast, any member's. -/
def pairHome (a b : Pkt) : Bool := decide (dFab a.dst = dFab b.dst) && decide (reqEp a = reqEp b)
def pairLine (a b : Pkt) : Bool :=
  pairHome a b && decide (firstLine a ≤ lastLine b ∧ firstLine b ≤ lastLine a)
def sameHome (a b : Pkt) : Bool := (memberPkts a).any (fun x => (memberPkts b).any (pairHome x))
def shareLine (a b : Pkt) : Bool := (memberPkts a).any (fun x => (memberPkts b).any (pairLine x))

/-- Ord Job, which ord Free means on a flagged request (R86). -/
def ordJob (p : Pkt) : Bool := decide (p.ord.toNat = 0) || (p.flag && decide (p.ord.toNat = 1))

/-- Whether `it` is applied only after the earlier request `q` of its source, both at one home (R185–R188). -/
def waitsAtHome (s : State) (it q : Item) : Bool :=
  shareLine it.pkt q.pkt ||
    (sameHome it.pkt q.pkt &&
      (decide (it.pkt.ord.toNat = 2) ||
        (it.pkt.flag && q.wr && (flagAfter s it.pkt || decide (q.pkt.ord.toNat ≠ 2))) ||
        (destOrder s it.pkt && it.wr && q.wr && ordJob it.pkt && ordJob q.pkt)))

/-- Whether `q` is an earlier request of the same source: by its place in the source's order here, and of another
device by its Seq at the endpoint both are for (R174, R177, R188, R210). -/
def earlier (s : State) (it q : Item) : Bool :=
  sameSrc it.pkt q.pkt &&
    (if !s.ownSrc it.pkt && decide (reqEp it.pkt = reqEp q.pkt) then
      (let d := (it.pkt.seq.toNat + 512 - q.pkt.seq.toNat) % 512
       decide (1 ≤ d ∧ d < 256))
     else decide (q.no < it.no))

/-- Key of what has come of a remote source at an endpoint. -/
def gotKey (p : Pkt) : Nat :=
  (((p.srcFab.toNat * 32 + p.srcEp.toNat) * 256 + p.srcCore.toNat) * 4 + p.eng.toNat) * 32 + reqEp p
/-- What has come of a source: the next Seq in order, from 0 at first, and those ahead of it. After a SYNC with its
device, which may have lost requests, the first Seq to come counts as the next. (DESIGN CHOICE, log 24) -/
def syncedKey (f : Nat) : Nat := 2 ^ 40 + f
def gotList (s : State) (p : Pkt) : List Nat :=
  match Tab.get [] s.got (gotKey p) with
  | [] => if Tab.get [] s.got (syncedKey p.srcFab.toNat) = [] then [0] else []
  | l => l
/-- Whether a request of another device waits for an earlier Seq to its endpoint that has not come yet (R177, R188, R254).
The spec does not say how a home passes a Seq that never comes, of a FRED absorbed or a write finished near its source:
the model waits for it as long as R256 lets a stream wait, or until a SYNC. (DESIGN CHOICE, log 24) -/
def seqMissing (s : State) (p : Pkt) : Bool :=
  !s.ownSrc p &&
    (match gotList s p with
     | n :: _ => decide ((n + 512 - p.seq.toNat) % 512 ≥ 256)
     | [] => false)

/-- Record a received Seq: the next in order moves past every Seq that has come (R177). -/
def seqFill : Nat → Nat → List Nat → List Nat
  | 0, n, l => n :: l
  | f + 1, n, l => if l.contains n then seqFill f ((n + 1) % 512) (l.filter (fun x => decide (x ≠ n))) else n :: l
def noteSeq (p : Pkt) (s : State) : State :=
  let r := p.seq.toNat
  let g := match gotList s p with
    | n :: l => seqFill 512 n (l ++ [r])
    | [] => [(r + 1) % 512]
  { s with got := Tab.put [] s.got (gotKey p) g }
/-- A Seq that has not come counts as finished: the one given is the next in order (R184). (DESIGN CHOICE, log 24) -/
def passGap (p : Pkt) (s : State) : State :=
  let r := p.seq.toNat
  let ahead (x : Nat) : Bool := decide ((x + 512 - r) % 512 < 256)
  { s with got := Tab.put [] s.got (gotKey p) (seqFill 512 r ((gotList s p).drop 1 |>.filter ahead)) }
/-- Forget what has come from a device: its streams begin afresh (R257). -/
def forgetSeqs (f : Nat) (s : State) : State :=
  { s with got := Tab.put [] (s.got.filter (fun e => decide (e.1 / 2 ^ 20 ≠ f))) (syncedKey f) [1] }

/-- Whether a home has still to apply a request that its gateway released before this one (R210). -/
def releasedBefore (s : State) (it q : Item) : Bool :=
  decide (q.rel ≠ 0 ∧ q.rel < it.rel ∧ routeGw s q.pkt.srcFab.toNat = routeGw s it.pkt.srcFab.toNat) && sameHome it.pkt q.pkt

/-- Whether R185–R188 and R210 keep a home from applying a request now. -/
def mustWait (s : State) (it : Item) : Bool :=
  seqMissing s it.pkt ||
    s.pool.any (fun q => !isResp q.pkt && q.frame.isNone && ((earlier s it q && waitsAtHome s it q) || releasedBefore s it q))

/-- Whether the engine holds a request uninjected (R188): it follows requests to other endpoints that have not
completed. -/
def mustHold (s : State) (it : Item) : Bool :=
  let fa := flagAfter s it.pkt
  let after (q : Item) : Bool :=
    earlier s it q && (isMcs it.pkt || isMcs q.pkt || !sameHome it.pkt q.pkt) &&
      (decide (it.pkt.ord.toNat = 2) || (it.pkt.flag && fa && q.wr))
  s.pool.any after || s.mcasts.any (fun m => match m.2 with | some x => !x.req.dead && after x.req | none => false)

/-! ### Credits (R205, R235) -/

def credKey (src dst rb : Nat) : Nat := (src * 32 + dst) * 128 + rb

/-- The home has taken a request into service, or a table has absorbed it: its credit is owed back. -/
def oweCredit (id : Nat) (s : State) : State :=
  match s.item id with
  | none => s
  | some it =>
    match it.cred with
    | none => s
    | some (src, rb) =>
      let k := credKey src it.via rb
      { s with credOwed := Tab.put 0 s.credOwed k (Tab.get 0 s.credOwed k + 1) }.modItem id
        (fun i => { i with cred := none })

/-! ### Responses -/

/-- Where a response of endpoint `e` goes: to its requester's side, across the hearth, or out of a gateway; none when
it is discarded (R181, R241). -/
def backLoc (s : State) (e : Nat) (p : Pkt) : Option Loc :=
  if s.ownSrc p then
    if p.srcEp.toNat = e then some .resp
    else if s.epFenced p.srcEp.toNat then none else some (.port e)
  else
    let f := p.srcFab.toNat
    if !routeValid s f then none
    else if e = gwEp (routeGw s f) then some (.gwOut (routeGw s f))
    else if s.epFenced (gwEp (routeGw s f)) then none else some (.port e)

/-- The response to a request (R179): `val` is the 8 B of a DATA8, `data` the units of a DATA; one without data is a
control packet (R149). A fetching FAT is marked by `len`, since the header gives it no bit. -/
def respPkt (p : Pkt) (status count : Nat) (fenced : Bool) (val : DWord) (data : List (BitVec 512)) : Pkt :=
  let op : BitVec 6 :=
    if p.op.toNat = 1 then (if p.var.toNat = 0 then 0x21#6 else 0x22#6)
    else if isFat p && decide (p.len.toNat ≠ 0) then 0x21#6 else 0x20#6
  { p with
    op := op, var := 0, cls := !data.isEmpty, flag := false, comp := compWord status count fenced, p0 := if op = 0x21#6 then val else 0, p1 := 0
    data := data, len := BitVec.ofNat 4 data.length }

/-- Whether a packet is on the hearth: at a source port, on its way across, or off a die's bundle to it. -/
def atHearth : Loc → Bool
  | .port _ => true
  | .l0 _ => true
  | .flight _ _ => true
  | .wire k => decide (keyKind k = 0)
  | _ => false
/-- Where the answer of an item goes on its requester's own endpoint: to a core's engine at once where the engine gives it,
to its down port from its hub, else by the bundles of its stack (R160, R303); to an agent of the tongs by theirs. (DESIGN
CHOICE, log 13) -/
def ownLoc (it : Item) : Loc :=
  let e := it.pkt.srcEp.toNat
  let core := decide (it.pkt.eng.toNat ≤ 1) && isStack e
  match it.loc with
  | .engine => .resp
  | .hub site cl => if it.pkt.eng = 0#2 then .hub site cl else .resp
  | .hubParked site cl => if it.pkt.eng = 0#2 then .hub site cl else .resp
  | l =>
    if atHearth l then (if core || decide (e = 4) then .wire (dieIn e it.no) else .resp)
    else if core then .wire (downWire (siteOfEp e) (clusterOf it.pkt.srcCore.toNat)) else .resp

/-- `n` members of a multicast have answered, `count` of them having applied it (R154, R215). -/
def addAnswers (ctx n count : Nat) (fenced : Bool) (status : Nat) (s : State) : State :=
  match Tab.get none s.mcasts ctx with
  | none => s
  | some m =>
    { s with mcasts := Tab.put none s.mcasts ctx (some
        { m with waiting := m.waiting - n, count := m.count + count, fenced := m.fenced || fenced
                 statuses := if status = 0 then m.statuses else m.statuses ++ [status] }) }
/-- Members have answered with one status. (DESIGN CHOICE, log 13) -/
def memberAnswer (ctx n status : Nat) (s : State) : State :=
  addAnswers ctx n (if status = 0 then n else 0) (decide (status = 2)) status s

/-- The router of a core at whose store or output an item is: its answer enters there by the local port (R148). -/
def routerOf : Loc → Option Nat
  | .mesh c _ => some c
  | .parked c => some c
  | .store c => some c
  | _ => none
/-- Put the response to an item on its way from endpoint `e`: from a core's store or router by that router, and from a die
across to the hearth (R148, R303). (DESIGN CHOICE, log 13) -/
def sendBack (e : Nat) (it : Item) (q : Pkt) (s : State) : State :=
  let from' (l : Loc) : Loc :=
    match routerOf it.loc, l with
    | some c, _ => .store c
    | none, .resp => ownLoc it
    | none, .port x => if onDie x && !atHearth it.loc then .wire (dieOut x it.no) else .port x
    | none, l => l
  match backLoc s e it.pkt with
  | none => s
  | some l =>
    s.addItem { it with loc := from' l, pkt := q, held := false, tab := false, lead := none, cred := none, fails := 0, lines := 0 }

/-- Answer a request at endpoint `e`: the item leaves and its response is sent. A member of a multicast answers on the
mesh and at its source's own endpoint at once, elsewhere by a response across the hearth (R154, R240). -/
def respondWith (e : Nat) (it : Item) (status count : Nat) (fenced : Bool) (val : DWord) (data : List (BitVec 512))
    (s : State) : State :=
  let s := (oweCredit it.id s).dropItem it.id
  match it.ctx with
  | some x =>
    if s.ownSrc it.pkt && decide (it.pkt.srcEp.toNat ≠ e) && decide (it.pkt.members = 0#18) then
      sendBack e it (respPkt it.pkt status 1 (decide (status = 2)) 0 []) s
    else memberAnswer x (memberPkts it.pkt).length status s
  | none => sendBack e it (respPkt it.pkt status count fenced val data) s

/-- Number of acknowledgements of a request that is not served: 1, the contribution count of an FRED (R180), or none of
a multicast (R215). (DEDUCED, log 15) -/
def ackCount (p : Pkt) : Nat := if isFred p then p.members.toNat else if isMcs p then 0 else 1

/-- The status a request completes with where one finding ends it before its home has judged it: that, unless another that
applies to it comes first in R183. -/
def rankStatus (s : State) (p : Pkt) (st : Nat) : Nat :=
  firstStatus ([st] ++ (if !s.ownDst p && !routeValid s (dFab p.dst) then [4] else []) ++
    (if decide (20 ≤ dEp p.dst) || extentBad p then [5] else []) ++ (if s.armed p.job.toNat then [9] else []))

/-- Answer a request with a status and no data. -/
def respond (e : Nat) (it : Item) (status : Nat) (s : State) : State :=
  respondWith e it status (ackCount it.pkt) (isMcs it.pkt && decide (status = 2)) 0 [] s

/-- Requests merged into an entry, in the order they reached the table (R211); one may bring the requests merged into
it at its gateway. -/
def State.merged (s : State) (id : Nat) : List Item :=
  (s.pool.filter (fun i => decide (i.lead = some id))).flatMap (fun m =>
    m :: s.pool.filter (fun i => decide (i.lead = some m.id)))

/-- Answer a request and every request merged into it with a failing status (R211). -/
def respondAll (e : Nat) (it : Item) (status : Nat) (s : State) : State :=
  (s.merged it.id).foldl (fun t m => respondWith e m status 1 false 0 [] t) (respond e it status s)

/-! ### The source port (R172, R240, R241) -/

/-- Endpoint a packet crosses the hearth to. -/
def portDest (s : State) (p : Pkt) : Nat :=
  if isResp p then (if s.ownSrc p then p.srcEp.toNat else gwEp (routeGw s p.srcFab.toNat))
  else if s.ownDst p then reqEp p else gwEp (routeGw s (dFab p.dst))

/-- Endpoint an item crosses the hearth to: a link frame goes to the gateway its device's route names (R253, R254). -/
def itemDest (s : State) (i : Item) : Nat :=
  match i.frame with
  | some f => gwEp (routeGw s (if f.dst.toNat = s.fabNum then f.src.toNat else f.dst.toNat))
  | none => portDest s i.pkt

/-- Packets of a source port waiting for a destination (R206), and those a bundle holds that the endpoint has discarded and
that are to be sent again (R306). -/
def portQueue (s : State) (e dst : Nat) : List Item :=
  s.pool.filter (fun i => decide (i.loc = .port e) && decide (itemDest s i = dst))
def lostBy (s : State) (g dst : Nat) (resp : Bool) : List Item :=
  s.pool.filter (fun i => i.held && decide (i.loc = .flight g dst ∧ isResp i.pkt = resp))
/-- Bundles withdraw the requests for grants that no packet is left for, the last ones first (R231). (DESIGN CHOICE, log 18) -/
def withdraw (s : State) : State :=
  let alike (q r : GrantReq) : Bool := decide (ownerOf r.g = ownerOf q.g ∧ r.dst = q.dst ∧ r.resp = q.resp)
  let waits (q : GrantReq) : Nat := ((portQueue s (ownerOf q.g) q.dst).filter (fun i => decide (isResp i.pkt = q.resp))).length
  { s with greqs := s.greqs.foldl (fun l q =>
      if !(lostBy s q.g q.dst q.resp).isEmpty || decide ((l.filter (alike q)).length < waits q) then l ++ [q] else l) [] }

/-- A source port answers a request to a fenced endpoint, and HEARTH_FENCED counts the unicast ones (R241, R245). -/
def fencedAtPort (e : Nat) (it : Item) (s : State) : State :=
  let st := rankStatus s it.pkt 2
  respondAll e it st (if it.ctx.isSome || decide (st ≠ 2) then s else s.incRf (0x81010 + 0x40 * e) 0 32 1)

/-- A multicast on L0 loses a member, which is answered FENCED (R215). -/
def loseMember (it : Item) (d : Nat) (s : State) : State :=
  let rest := it.pkt.members &&& ~~~(1#18 <<< hearthBit it.pkt d)
  let s := memberAnswer (it.ctx.getD it.id) 1 (rankStatus s (hearthPkt it.pkt d) 2) s
  if rest = 0#18 then s.dropItem it.id else s.modItem it.id (fun i => { i with pkt := { i.pkt with members := rest } })

/-- Every source port applies a new bit of HEARTH_FENCE_MASK to what it has queued for the endpoint or holds for resend:
requests are answered, responses discarded, grant requests withdrawn (R202, R215, R241, R306). -/
def fencePorts (d : Nat) (s : State) : State :=
  s.pool.foldl (fun t i =>
    match i.loc with
    | .port e =>
      if itemDest s i ≠ d then t else if isResp i.pkt || i.frame.isSome then t.dropItem i.id else fencedAtPort e i t
    | .l0 e =>
      if i.frame.isSome then (if itemDest s i = d then t.dropItem i.id else t)
      else if isHearthMc i.pkt then (if (hearthMembers i.pkt).contains d then loseMember i d t else t)
      else if itemDest s i = d then fencedAtPort e i t else t
    | .flight g e =>
      if e ≠ d ∨ i.held = false then t
      else if isResp i.pkt || i.frame.isSome then t.dropItem i.id else fencedAtPort (ownerOf g) i t
    | _ => t) { s with greqs := s.greqs.filter (fun q => decide (q.dst ≠ d)) }
/-- What comes to a source port for an endpoint fenced already meets its mask too. -/
def refence (d : Nat) (s : State) : State := if s.epFenced d then fencePorts d s else s

/-! ### Combining tables (R208–R212) -/

/-- Registers of the combining table of an endpoint, or of a gateway. -/
def combBase (e : Nat) : Nat := if e % 5 = 3 then gwBase (e / 5) + 0xC00 else epComb e

/-- Whether a request is for a guest die, which its port judges (R175, R431). -/
def toGuest (p : Pkt) : Bool := match reqTgt p with | .guest _ => true | _ => false
/-- The key of a merge candidate (R209); none for a request that never merges. NoCombine is marked by `len`. -/
def combKey (p : Pkt) : Option (List Nat) :=
  if p.flag || decide (p.ord.toNat = 2) then none
  else if p.op.toNat = 1 then
    if p.var.toNat ≤ 1 ∧ p.len.toNat = 0 then
      some [0, (effAddr p.dst).toNat / 64, p.p0.toNat, p.job.toNat] else none
  else if isFat p then
    let op := if p.var.toNat = 12 then 0 else p.var.toNat
    if [0, 3, 4, 5, 6, 9, 10, 11].contains op then
      some [1, (gfa (dFab p.dst) (reqEp p) (reqOff p)).toNat, p.op.toNat, op, p.job.toNat] else none
  else if isFred p && decide (p.redId.toNat ≠ 0 ∧ p.ord.toNat = 1) then
    some [2, p.redId.toNat, p.dst.toNat, p.op.toNat, p.var.toNat, p.job.toNat]
  else none

/-- The enable bit of COMB_CFG that a kind of candidate needs (R225). -/
def combEnabled (s : State) (e : Nat) (p : Pkt) : Bool :=
  decide (s.rf (combBase e) (if p.op.toNat = 1 then 0 else if isFat p then 1 else 2) 1 = 1)

/-- Whether an item leads an entry of a table: `out` picks a gateway's outbound stream. -/
def atTable (e : Nat) (i : Item) : Bool :=
  i.tab && (match i.loc with
    | .home x => decide (x = e)
    | .pcq k _ => decide (5 * k + 2 = e)
    | .ready x => decide (x = e)
    | .gwIn g => decide (gwEp g = e)
    | .gwOut g => decide (gwEp g = e)
    | _ => false)
def combUsed (s : State) (e : Nat) : Nat := (s.pool.filter (atTable e)).length
/-- Whether an entry is still open: its leading request has not been taken into service. (DEDUCED, log 15) -/
def entryOpen (i : Item) : Bool :=
  i.tab && decide (i.lines = 0) && (match i.loc with | .ready _ => false | .pcq _ _ => false | _ => true)
def combSize (e : Nat) : Nat := if e % 5 = 3 then 256 else 64

/-- Open an entry for an item, noting the high-water mark (R225). (DEDUCED, log 15) -/
def openEntry (e id : Nat) (s : State) : State :=
  let s := s.modItem id (fun i => { i with tab := true, held := false })
  s.setRf (combBase e + 0x10) 16 9 (max (s.rf (combBase e + 0x10) 16 9) (combUsed s e))

/-- Merge the data of a contribution into the packet that stays (R156, R213). -/
def packNat (l : List (BitVec 512)) : Nat := l.foldr (fun u n => u.toNat + 2 ^ 512 * n) 0
def unpackNat (n : Nat) : Nat → List (BitVec 512)
  | 0 => []
  | k + 1 => BitVec.ofNat 512 n :: unpackNat (n / 2 ^ 512) k
def mergeData (a b : Pkt) : List (BitVec 512) :=
  unpackNat (fredVal a.var.toNat (a.op.toNat - 0x10) (packNat a.data) (packNat b.data)) (if isTop8 a then 1 else 2)

/-- The open entry at a table that a candidate merges into. -/
def openMatch (s : State) (e : Nat) (it : Item) : Option Item :=
  match combKey it.pkt with
  | none => none
  | some k => s.pool.find? (fun i => decide (i.id ≠ it.id) && atTable e i && entryOpen i && decide (combKey i.pkt = some k))

/-- A candidate enters the table of an endpoint, or the inbound stream of a gateway, merges, or passes uncombined
(R210–R212). A merged FRED's contribution is combined at once. -/
def enterTable (e id : Nat) (s : State) : State :=
  match s.item id with
  | none => s
  | some it =>
    if (combKey it.pkt).isNone || !combEnabled s e it.pkt then s.modItem id (fun i => { i with held := false })
    else
      match openMatch s e it with
      | some l =>
        let s := (oweCredit id s).incRf (combBase e + 4) 0 32 1
        let s := match s.item id with
          | some i => s.moveItem { i with lead := some l.id, held := false } i.loc
          | none => s
        if isFred it.pkt then s.modItem l.id (fun i => { i with pkt := { i.pkt with data := mergeData i.pkt it.pkt } }) else s
      | none =>
        if combUsed s e < combSize e then openEntry e id s
        else (s.modItem id (fun i => { i with held := false })).incRf (combBase e + 8) 0 32 1

end Sys2Proof.Machine
end

