-- ==== Sys2Proof/Machine/Damper.lean ====
section
/-! DEFINITION. The damper's books and step changes (R345, R353–R357): floors, charges, the boost pool, grants, and the
STEP broadcasts and voltage requests a change of grant or cap brings. -/

namespace Sys2Proof.Machine

/-- State of a region: 0 ON, 1 GATED-CLOCK, 2 RETAIN, 3 OFF (R361). -/
def State.regionState (s : State) (r : Nat) : Nat := s.rf (0x50100 + 4 * r) 0 2

/-! ### Floors, charges and the pool (R353–R355) -/

/-- Floor of a requester, and its floor step: the highest whose charge fits within the floor (R353, R354). -/
def State.floorOf (s : State) (q : Nat) : Nat := s.rf (0x20200 + 4 * q) 0 15
def State.stepCharge (s : State) (q n : Nat) : Nat :=
  if q < 32 then s.rf (0x20100 + 4 * n) 0 12 else 260 + 116 * n
def floorStepGo (s : State) (q : Nat) : Nat → Nat
  | 0 => 0
  | n + 1 => if s.stepCharge q (n + 1) ≤ s.floorOf q then n + 1 else floorStepGo s q n
def State.floorStep (s : State) (q : Nat) : Nat :=
  if q < 32 then floorStepGo s q 15 else if q < 36 then floorStepGo s q 3 else 0

/-- Whether a guest site has a die, as the last start found (R429). -/
def State.guestFitted (s : State) (g : Nat) : Bool :=
  match s.env with | some x => x.guests.any (fun e => decide (e.1.val = g)) | none => false
/-- The boost pool: the budget minus all floors and any withheld guest reservation (R353, R355). -/
def State.pool0 (s : State) : Nat :=
  let budget := if s.rf 0x20000 0 1 = 1 then 17600 else 16000
  let empty := ((List.range 3).filter (fun g => !s.guestFitted g)).length
  budget - (List.range 42).foldl (fun n q => n + s.floorOf q) 0 - (if s.rf 0x20000 1 1 = 1 then 0 else 240 * empty)
/-- Boost quanta not granted. -/
def State.poolFree (s : State) : Nat :=
  s.pool0 - (List.range 36).foldl (fun n q => n + s.rf (0x20300 + 4 * q) 0 15) 0
/-- Record PoolFree in DAMPER_STATUS. -/
def showPool (s : State) : State := s.setRf 0x20004 0 15 s.poolFree


/-! ### Steps in force, pending and granted (R345, R352) -/

/-- Granted step of a requester (R367). -/
def State.granted (s : State) (q : Nat) : Nat := s.rf (0x20300 + 4 * q) 16 4
/-- Highest step a throttle unit allows: 15 without a cap (R378). -/
def State.capOf (s : State) (u : Nat) : Nat := s.rf (0x30100 + 4 * u) 12 4
/-- The pending change of a region or crucible. -/
def State.pendOf (s : State) (cruc : Bool) (i : Nat) : Option StepPend :=
  s.steps.find? (fun e => decide (e.crucible = cruc) && e.mask.getLsbD i)
/-- The step in force: of region `q`, or of crucible `q - 32`. -/
def State.inForce (s : State) (q : Nat) : Nat :=
  if q < 32 then s.rf (0x40200 + 4 * q) 0 4 else s.rf 0x40010 (2 * (q - 32)) 2
/-- The step a requester is at once its pending change is in force. -/
def State.coming (s : State) (q : Nat) : Nat :=
  match s.pendOf (decide (32 ≤ q)) (if q < 32 then q else q - 32) with
  | some e => e.target.toNat
  | none => s.inForce q
/-- The step a requester is to run at: the lower of its granted step and its thermal cap (R371). -/
def State.aim (s : State) (q : Nat) : Nat := min (s.granted q) (s.capOf q)

/-- Quanta a step takes above the floor. -/
def State.needOf (s : State) (q n : Nat) : Nat := s.stepCharge q n - s.floorOf q
/-- Boost quanta a requester is charged: while its state changes, the higher of the old and the new; after a change that its
PLL missed, of the step it kept and the step it missed; none where its region is neither ON nor being woken, or once an
over-current has revoked every boost (R354, R346, R358, R361, R372). -/
def State.stepBoost (s : State) (q : Nat) : Nat :=
  let n := Tab.get 0 s.missed q
  max (max (s.needOf q (s.aim q)) (if n = 0 then 0 else s.needOf q (n - 1))) (max (s.needOf q (s.inForce q)) (s.needOf q (s.coming q)))
def State.boostOf (s : State) (q : Nat) : Nat :=
  if (q < 32 ∧ s.regionState q ≠ 0 ∧ Tab.get 0 s.waking q = 0) ∨ s.rf 0x20004 31 1 = 1 then 0 else s.stepBoost q
/-- A requester's charge (R354). -/
def State.chargeOf (s : State) (q : Nat) : Nat := s.floorOf q + (if q < 36 then s.boostOf q else 0)
/-- Boost quanta held for a requester: those of its steps, which a gated region may wake to before a fall is in force, or
those of its granted step where a thermal cap keeps it below (R353, R356, R371). -/
def State.heldBoost (s : State) (q : Nat) : Nat := max (s.stepBoost q) (s.needOf q (s.granted q))
/-- Quanta free for new boosts. -/
def State.freeBoost (s : State) : Nat := s.pool0 - (List.range 36).foldl (fun n q => n + s.heldBoost q) 0

/-! ### STEP broadcasts (R345, R346, R357) -/

/-- A STEP broadcast for one region or crucible, `N` 2,500 ticks ahead: it replaces the member's pending change, and is
relayed to the dies (R307). Changes of one tick to one step are one broadcast. (DESIGN CHOICE, log 27) -/
def stepBroadcast (cruc : Bool) (i target : Nat) (s : State) : State :=
  let n : BitVec 24 := BitVec.ofNat 24 (s.tick.toNat + 2500)
  let bit := BitVec.ofNat 32 (2 ^ i)
  let old := (s.steps.map (fun e => if e.crucible = cruc then { e with mask := e.mask &&& ~~~bit } else e)).filter
    (fun e => decide (e.mask ≠ 0#32))
  let same (e : StepPend) : Bool := decide (e.crucible = cruc ∧ e.target.toNat = target ∧ e.n = n)
  let new := match old.findIdx? same with
    | some j => old.modify j (fun e => { e with mask := e.mask ||| bit })
    | none => old ++ [⟨cruc, bit, BitVec.ofNat 4 target, n⟩]
  let s := { (if (old.findIdx? same).isSome then s else toDies s) with steps := new }
  if cruc then s else (s.setRf (0x40200 + 4 * i) 12 1 1).setRf (0x40200 + 4 * i) 8 4 target

/-- Whether a region's rise to the step it is to run at has been abandoned (R357). -/
def State.abandoned (s : State) (r : Nat) : Bool := decide ((Tab.get Req.reset s.reqs r).gaveUp = some (s.aim r))
/-- Lowest VCORE of a step in mV (R344). -/
def State.vmin (s : State) (n : Nat) : Nat := s.rf (0x40100 + 4 * n) 16 10
/-- The highest VminMv among an anvil's current and pending steps, with the steps its regions aim at where `rise`. -/
def State.vNeed (s : State) (a : Nat) (rise : Bool) : Nat :=
  (List.range 4).foldl (fun v q =>
    let r := 4 * a + q
    max v (max (max (s.vmin (s.inForce r)) (s.vmin (s.coming r))) (if rise && !s.abandoned r then s.vmin (s.aim r) else 0))) 0
/-- Set an anvil's VCORE; after reset it is that of the floor step (R357). (DEDUCED, log 30) -/
def setVcore (a v : Nat) (s : State) : State := { s with vcore := Tab.put 642 s.vcore a v }

/-- Every requester is brought to the step it is to run at: a fall is broadcast at once, a crucible's change too, and a
rise first asks the anvil's regulator for its voltage; one abandoned is not asked for again (R357). (DESIGN CHOICE, log 28) -/
def syncStep (s : State) (q : Nat) : State :=
  let t := s.aim q
  let c := s.coming q
  let rest := s.avs.filter (fun e => decide (e.1 ≠ q))
  if c < t ∧ q < 32 then
    if s.abandoned q then s
    else
      let s := setVcore (q / 4) (s.vNeed (q / 4) true) s
      if s.avs.any (fun e => decide (e.1 = q ∧ e.2.2 = t)) then s else { s with avs := rest ++ [(q, s.now, t)] }
  else
    let s := { s with avs := rest, reqs := Tab.put Req.reset s.reqs q { Tab.get Req.reset s.reqs q with gaveUp := none } }
    if t = c then s else if 32 ≤ q then stepBroadcast true (q - 32) t s else stepBroadcast false q t s
def syncSteps (s : State) : State := (List.range 36).foldl syncStep s

/-- Grant a step: its boost and, where it starts a burst, the burst's end (R356). -/
def setGrant (q n : Nat) (s : State) : State :=
  let b := s.needOf q n
  let r := Tab.get Req.reset s.reqs q
  let limit := max 1 (s.rf (0x20200 + 4 * q) 16 8)
  let e := if b = 0 then none else some (r.endsAt.getD (s.now + 2500 * limit))
  { (s.setRf (0x20300 + 4 * q) 16 4 n).setRf (0x20300 + 4 * q) 0 15 b with
    reqs := Tab.put Req.reset s.reqs q { r with endsAt := e } }
/-- Show in DAMPER_GRANT whether a requester waits: its asked step is above its granted step (R356). -/
def showWaiting (s : State) (q : Nat) : State :=
  let w := match (Tab.get Req.reset s.reqs q).asked with
    | some a => decide (s.granted q < a)
    | none => false
  s.setRf (0x20300 + 4 * q) 31 1 (if w then 1 else 0)

/-- Cut a requester's grant to its floor step (R356, R383). -/
def cutGrant (q : Nat) (s : State) : State :=
  showPool (showWaiting { setGrant q (s.floorStep q) s with reqs := Tab.put Req.reset s.reqs q Req.reset } q)

end Sys2Proof.Machine
end

