-- ==== Sys2Proof/Machine/Ops.lean ====
section
/-! DEFINITION. The named operations on the state that many commands share: the collector and its class actions
(R379–R383, R389), a source or a function leaving service (R202, R241), and traps (R54–R58). -/

namespace Sys2Proof.Machine

/-! ### Events (R379–R383, R407, R408) -/

/-- A fault code (R379). -/
def evCode (cls blk ev : Nat) : BitVec 16 := BitVec.ofNat 16 (cls * 2 ^ 14 + blk * 2 ^ 9 + ev)

/-- Function a fault's source block belongs to, for the EVENT header (R408). -/
def blockFunc (blk detail : Nat) (cls : Nat) : Nat :=
  if cls = 1 then detail % 16
  else if 8 ≤ blk ∧ blk ≤ 15 then blk - 7
  else if 16 ≤ blk ∧ blk ≤ 19 then blk - 7
  else if 20 ≤ blk ∧ blk ≤ 23 then 13
  else if blk = 27 then 14 else 0

/-- Index of the newest log entry. (DEDUCED, log 26) -/
def State.newest (s : State) : Nat := s.rf 0x10000 0 9

/-- The place a new log entry takes: a free one, else the oldest C0 entry, else the oldest cleared C1 or C2 entry; the
entry of sequence 0 is never overwritten (R380). -/
def logSlot (s : State) : Option Nat :=
  if s.log.length < 512 then some s.log.length
  else
    let pick (p : LogEnt → Bool) : Option (Nat × Nat) :=
      s.log.foldl (fun b e => match e.2 with
        | some x =>
          if p x && decide (x.seq ≠ 0) then
            (match b with
             | none => some (e.1, x.seq)
             | some (_, q) => if x.seq < q then some (e.1, x.seq) else b)
          else b
        | none => b) none
    match pick (fun x => decide (x.code.toNat < 2 ^ 14)) with
    | some (i, _) => some i
    | none =>
      match pick (fun x => decide (2 ^ 14 ≤ x.code.toNat ∧ x.code.toNat < 3 * 2 ^ 14) && x.cleared) with
      | some (i, _) => some i
      | none => none

/-- Write a log entry at its place. (DEDUCED, log 26) -/
def logAt (i : Nat) (code : BitVec 16) (detail : Word) (s : State) : State :=
  { s.setRf 0x10000 0 9 i with
    log := Tab.put none s.log i (some ⟨code, s.logSeq, s.tick, s.now, detail, 0, false⟩)
    logSeq := s.logSeq + 1 }

/-- Entries of one cycle stand in ascending order of block: the entry of place `i`, just logged, moves down past those of
the same cycle and a higher block (R380); event 0x011 stays before the event it announces. -/
def sortCycle : Nat → Nat → State → State
  | 0, _, s => s
  | n + 1, i, s =>
    match Tab.get none s.log i with
    | none => s
    | some x =>
      match s.log.findSome? (fun e => e.2.bind (fun y => if y.seq + 1 = x.seq ∧ y.at' = x.at' then some (e.1, y) else none)) with
      | none => s
      | some (j, y) =>
        if y.code.toNat / 2 ^ 9 % 32 ≤ x.code.toNat / 2 ^ 9 % 32 ∨ y.code = evCode 0 4 0x011 then s
        else sortCycle n j { s with log := Tab.put none (Tab.put none s.log i (some { y with seq := x.seq })) j (some { x with seq := y.seq }) }

/-- The collector's log (R380). (DEDUCED, log 26) -/
def logEvent (code : BitVec 16) (detail : Word) (s : State) : State :=
  match Tab.get none s.log s.newest with
  | some e =>
    if decide (e.code = code) && decide (e.detail = detail) && decide (s.now ≤ e.at' + 250000) && !e.cleared then
      { s with log := Tab.put none s.log s.newest (some { e with count := min (e.count + 1) 65535 }) }
    else
      match logSlot s with
      | none => { s.incRf 0x10000 9 7 1 with lostRun := s.lostRun + 1 }
      | some i =>
        if s.lostRun = 0 then sortCycle 32 i (logAt i code detail s)
        else
          let s := { logAt i (evCode 0 4 0x011) (BitVec.ofNat 32 s.lostRun) s with lostRun := 0 }
          match logSlot s with
          | none => { s.incRf 0x10000 9 7 1 with lostRun := 1 }
          | some j => logAt j code detail s
  | none => logAt 0 code detail s

/-- An event crosses to the collector in the tongs as a unit of the Events class (R307): from an anvil, whose routers raise
0x022 and 0x023, from a billet or a crucible, and from the hearth. -/
def eventUnit (blk ev : Nat) (s : State) : State :=
  let s := if 8 ≤ blk ∧ blk ≤ 15 ∧ (ev = 0x022 ∨ ev = 0x023) then addUnit (upWire (blk - 8) 0) 0 s else s
  let s :=
    if 8 ≤ blk ∧ blk ≤ 15 then addUnit (dieOut (siteEp (blk - 8)) 0) 0 s
    else if 16 ≤ blk ∧ blk ≤ 19 then addUnit (dieOut (5 * (blk - 16) + 2) 0) 0 s else s
  if 8 ≤ blk ∧ blk ≤ 27 then addUnit (dieIn 4 0) 0 s else s

/-- Queue an event for the host (R408): at most 256; a full queue loses its oldest C0 fault, or the new event,
which the log records as event 0x163 (R414); where C0 faults are posted, that one finds no room either and is counted, and
raises no more (R407). (DEDUCED, log 40) -/
def queueEvent (e : Ev) (s : State) : State :=
  let s := { s with evSeq := s.evSeq + 1 }
  if s.events.length < 256 then { s with events := s.events ++ [e] }
  else
    match s.events.findIdx? (fun x => decide (x.kind = 0#2) && decide (x.code.toNat < 2 ^ 14)) with
    | some i => { s with events := s.events.eraseIdx i ++ [e] }
    | none =>
      let t := logEvent (evCode 0 5 0x163) (Config.eventDetail (evCode 0 5 0x163) 0) (s.incRf 0x60008 0 8 1)
      if s.rf 0x10004 0 1 = 1 then { t.incRf 0x60008 0 8 1 with evLost := true, evSeq := t.evSeq + 1 } else { t with evLost := true }

/-- Post a fault to the host (R407). -/
def postFault (code : BitVec 16) (detail : Word) (s : State) : State :=
  let cls := code.toNat / 2 ^ 14
  queueEvent ⟨0, BitVec.ofNat 4 (blockFunc (code.toNat / 2 ^ 9 % 32) detail.toNat cls), code, s.evSeq, detail, s.tick⟩ s

/-- Whether any C2 entry of the log is uncleared (R388). -/
def State.openC2 (s : State) : Bool :=
  s.log.any (fun e => match e.2 with
    | some x => decide (x.code.toNat / 2 ^ 14 = 2) && !x.cleared
    | none => false)

/-- Stop a core as if Stop were written (R65, R67, R383). -/
def stopCore (cause : StopCause) (k : Core) : Core :=
  if k.st = .running then { k with st := .stopping, cause := cause } else k

/-- Apply a function to every core of a site that is not as reset. -/
def State.modSiteCores (s : State) (site : Nat) (f : Core → Core) : State :=
  (List.range 256).foldl (fun t i => if Tab.get Core.reset t.cores (256 * site + i) = Core.reset then t
    else t.modCore (256 * site + i) f) s

/-- Set or clear a function's endpoints in HEARTH_FENCE_MASK, which every source port applies (R241). -/
def fenceEps (f : Nat) (on : Bool) (s : State) : State :=
  (epsOfFunc f).foldl (fun t e =>
    let u := t.setRf 0x80004 e 1 (if on then 1 else 0)
    if on then fencePorts e u else u) (toDies s)

/-- Requesters that draw for a function (R353). -/
def reqsOfFunc (f : Nat) : List Nat :=
  if 1 ≤ f ∧ f ≤ 8 then (List.range 4).map (fun q => 4 * (f - 1) + q)
  else if 9 ≤ f ∧ f ≤ 12 then [32 + (f - 9)]
  else []

/-- Whether an item comes from an engine of a site of this device. -/
def fromSite (s : State) (site : Nat) (i : Item) : Bool :=
  decide (i.pkt.eng.toNat ≤ 1 ∧ i.pkt.srcFab.toNat = s.fabNum ∧ i.pkt.srcEp.toNat = siteEp site)
/-- A site's sources leave service: their engine entries, descriptors and counters are cleared, and what is on its way
completes unseen (R202). -/
def clearSite (site : Nat) (s : State) : State :=
  { s.modSiteCores site (fun k => { k with fe := [], bulk := [], tc := [] }) with
    pool := (s.pool.filter (fun i => !(decide (i.loc = .engine) && fromSite s site i))).map
      (fun i => if fromSite s site i then { i with dead := true } else i)
    mcasts := s.mcasts.map (fun m => (m.1, m.2.map (fun x =>
      if fromSite s site x.req then { x with req := { x.req with dead := true } } else x))) }

/-- Take a function Offline (R383): its endpoints fenced, its cores stopped, its grants cut. -/
def takeOffline (f : Nat) (s : State) : State :=
  if f = 0 ∨ 15 ≤ f then s
  else
    let s := fenceEps f true (s.setRf 0x10808 (2 * f) 2 2)
    let s := if 1 ≤ f ∧ f ≤ 8 then clearSite (f - 1) (s.modSiteCores (f - 1) (stopCore .host)) else s
    syncSteps ((reqsOfFunc f).foldl (fun t q => cutGrant q t) s)

/-- The device drives its pins, while VIO18 is on (R299). -/
def drive (f : Pins → Pins) (s : State) : State := if s.pins.vio then { s with pins := f s.pins } else s

/-- Enter quench (R389): the record latched, the pins driven, the cores frozen, OWN_OUT released and the gates closed,
the Spasen ports dark, every VCORE at its minimum, the HBM3
stacks in self-refresh, and the trained-width records lost (R318). -/
def enterQuench (code : BitVec 16) (s : State) : State :=
  if s.quench then s
  else
    drive (fun p => { p with quenchN := false, faultN := false, alive := false, ownOut := false
                             tripN := if code = evCode 3 2 0x142 then false else p.tripN })
    { ((s.setReg 0x10030 (BitVec.ofNat 32 (2 ^ 31 + s.tick.toNat % 2 ^ 15 * 2 ^ 16 + code.toNat))).setRf 0x60000 0 4 0).setRf
        0x500004 31 1 (if s.pins.pairEn then 0 else s.rf 0x500004 31 1) with
      quench := true, frozen := true, quenchAt := s.now, links := [], wires := [], linksUp := false, refFrom := [], refNext := [], rows := []
      claimed := false
      vcore := (List.range 8).map (fun a => (a, 550))
      pins := { s.pins with aliveRun := false } }

/-- Whether the SMBus alert goes low on a code: class C2 or C3, or a thermal event 0x140 or 0x141 (R412). -/
def alerts (code : BitVec 16) : Bool :=
  decide (2 ^ 15 ≤ code.toNat) ||
    (decide (code.toNat / 2 ^ 9 % 32 = 2) && decide (code.toNat % 512 = 0x140 ∨ code.toNat % 512 = 0x141))

/-- Raise an event with a given detail word (R379, R380): log it, take its class action, post it; an event 0x011 logged before
it is of class C0 and is posted like any other. -/
def raiseWith (cls blk ev : Nat) (detail : Word) (s : State) : State :=
  let code := evCode cls blk ev
  let lost := s.lostRun
  let s := logEvent code detail (eventUnit blk ev s)
  let s := if decide (lost ≠ 0 ∧ s.lostRun = 0 ∧ s.rf 0x10004 0 1 = 1) then postFault (evCode 0 4 0x011) (BitVec.ofNat 32 lost) s else s
  let s := if alerts code then drive (fun p => { p with smbAlertN := false }) s else s
  match cls with
  | 0 => if s.rf 0x10004 0 1 = 1 then postFault code detail s else s
  | 1 => postFault code detail (takeOffline (detail.toNat % 16) s)
  | 2 => postFault code detail (drive (fun p => { p with faultN := false }) s)
  | _ => enterQuench code (postFault code detail s)

/-- The detail word of an event about a part: the manual leaves it to the raising block (R380), but for the function
in bits [3:0] of a C1 event (R383). (DESIGN CHOICE, log 14) -/
def partDetail (cls blk ev : Nat) (part : Word) : Word :=
  let d := Config.eventDetail (evCode cls blk ev) part
  if cls = 1 then (d &&& ~~~15#32) ||| (part &&& 15#32) else d

/-- Raise an event about a part; of a C1 event the part is the function. (DESIGN CHOICE, log 14) -/
def raiseEvent (cls blk ev : Nat) (part : Word) (s : State) : State :=
  raiseWith cls blk ev (partDetail cls blk ev part) s

/-! ### Traps (R54–R58) -/

/-- Address and bit of a core in a per-site group of eight 32-bit registers (R63). -/
def siteBitAddr (o c : Nat) : Nat := siteBase (c / 256) + o + 4 * (c % 256 / 32)

/-- Whether any SITE_TRAPPED bit of a site is set. -/
def State.anyTrapped (s : State) (site : Nat) : Bool :=
  (List.range 8).any (fun k => decide (s.reg (siteBase site + 0x300 + 4 * k) ≠ 0#32))

/-- Enter TRAPPED: the site's bit, and one core-trap event per site until the host has cleared its bits (R58, R407). -/
def markTrapped (c : Nat) (s : State) : State :=
  let first := !s.anyTrapped (c / 256)
  let s := s.setRf (siteBitAddr 0x300 c) (c % 32) 1 1
  if first then queueEvent ⟨1, BitVec.ofNat 4 (1 + c / 256), BitVec.ofNat 16 (c / 256), s.evSeq, 0, s.tick⟩
    (addUnit (dieIn 4 0) 0 (addUnit (dieOut (siteEp (c / 256)) 0) 0 (addUnit (upWire (c / 256) (clusterOf c)) 0 s))) else s

/-- Take a trap on a core (R54, R55): FAULT_INFO written, the pause ended, the groups closed, the state TRAPPED. -/
def takeTrap (c cause slot idx addr status tally : Nat) (s : State) : State :=
  markTrapped c (s.modCore c (fun k =>
    { k.closeAll with st := .trapped, fault := faultWord cause slot idx addr status tally, pause := none,
                      trapPend := none, stepping := false }))

/-- ErrTrapMask of the job slot a core names at the completion, as a bit test on a status (R57). R61 does not say which
slot governs requests that were issued before SITE_CORE_JOBSEL was rewritten. (DESIGN CHOICE, log 10) -/
def State.errTraps (s : State) (c status : Nat) : Bool :=
  let slot := s.rf (coreBase c + 0x0C) 0 3
  decide (1 ≤ status ∧ status ≤ 9) && decide (s.rf (siteBase (c / 256) + 0x100 + 8 * slot) (21 + status) 1 = 1)

/-- A free value of the model's own: the next of `Config.freeWord`. (DESIGN CHOICE, log 47) -/
def takeFree (s : State) : Word × State := (Config.freeWord s.free, { s with free := s.free + 1 })

end Sys2Proof.Machine
end

