-- ==== Sys2Proof/Machine/Issue.lean ====
section
/-! DEFINITION. Bundle issue (R18–R29, R43–R56): what a slot brings to its bundle, the interlocks, the order of
causes, the fetch and loop buffers, and the loops' back edges. -/

namespace Sys2Proof.Machine

/-- What a full engine a slot must find room in (R29, R35, R83). -/
inductive Need where
  | none | fabric | bulk | billet
  deriving DecidableEq, Repr

/-- What one slot of a bundle asks for and does. Registers are named by their keys in `Core.ready`. -/
structure Slot where
  /-- the encoding is reserved or has a nonzero field marked 0 (R73, R101) -/
  illegal : Bool := false
  reads   : List Nat := []
  /-- destinations with their latencies (R23); x0 and p0 name none -/
  writes  : List (Nat × Nat) := []
  /-- the instruction waits for the matrix array (R21) -/
  array   : Bool := false
  need    : Need := .none
  /-- banks the access takes on the pipeline side, as a 4-bit mask (R25) -/
  banks   : Core → Nat := fun _ => 0
  /-- a cause that depends on the core: its code and the local address (R55) -/
  cause   : State → Nat → Core → Option (Nat × Nat) := fun _ _ _ => none
  /-- the effect, given the core index and the core in its issue cycle (R43) -/
  run     : Nat → Core → State → State := fun _ _ s => s
  /-- what follows once both slots have taken effect -/
  post    : Nat → State → State := fun _ s => s

/-- A slot that names no instruction. -/
def slotIllegal : Slot := { illegal := true }
/-- NOP. -/
def slotNop : Slot := {}

/-! ### Register keys -/

/-- Keys of an x register as a source or destination: x0 is neither pending nor a destination (R42). -/
def kx (r : BitVec 5) : List Nat := if r = 0#5 then [] else [r.toNat]
def kv (r : BitVec 5) : List Nat := [32 + r.toNat]
def kp (r : BitVec 3) : List Nat := if r = 0#3 then [] else [64 + r.toNat]
/-- An accumulator after an MMA, and after an AWR (R22, R124). -/
def kMma (a : BitVec 2) : Nat := 72 + a.toNat
def kAwr (a : BitVec 2) : Nat := 76 + a.toNat

/-- Keys with one latency. -/
def lat (n : Nat) (ks : List Nat) : List (Nat × Nat) := ks.map (fun k => (k, n))

/-- The register a completion will write. -/
def Dest.keys : Dest → List Nat
  | .x r => kx r
  | .v r _ => kv r
  | _ => []

/-- Registers whose loads have not returned (R18, R30). -/
def pendingLoads (k : Core) : List Nat :=
  k.fe.flatMap (fun e => match e.2 with | some n => n.dst.keys | none => []) ++
    k.billet.flatMap (fun b => if b.store then [] else b.dst.keys)

/-- Cycles a bundle waits for its registers and the array (R18, R21, R22). (DESIGN CHOICE, log 7) -/
def waitCycles (k : Core) (ks : List Nat) (array : Bool) : Nat :=
  let w := ks.foldl (fun n i => max n (Tab.get 0 k.ready i - k.pipe)) 0
  if array then max w (k.array - k.pipe) else w

/-- CORE_CYCLES rises with the cycles after the first bundle's (R38). -/
def cyclesAfter (n : Nat) (k : Core) : Nat := if k.begun then k.cycles + n else k.cycles
/-- Stall for `n` cycles of one cause (R19, R38): every stage holds its position, and no bundle takes a bank. -/
def stallFor (cause n : Nat) (k : Core) : Core :=
  { k with cycles := cyclesAfter n k, stall := stallAdd k.stall cause n, kept := [] }
/-- `n` cycles that issue nothing and in which the stages move. -/
def coast (n : Nat) (k : Core) : Core := { k with cycles := cyclesAfter n k, pipe := k.pipe + n, kept := [] }
/-- Stall for `n` cycles until the stages have brought a result or freed the array (R18, R21, R22). (DEDUCED, log 7) -/
def interlock (n : Nat) (k : Core) : Core := { stallFor 1 n k with pipe := k.pipe + n }

/-- Whether the engine a slot needs is full (R29, R35, R83). -/
def engineFull (k : Core) : Need → Bool
  | .none => false
  | .fabric => decide (256 ≤ k.fe.length)
  | .bulk => decide (16 ≤ k.bulk.length)
  | .billet => decide (16 ≤ (k.billet.filter (fun b => !b.store)).length)

/-! ### Loops (R50–R52) -/

/-- Take the back edges due at the next bundle index, innermost first: every loop whose body ends just before it. (DEDUCED, log 9) -/
def backEdges (next : BitVec 16) : List LoopLvl → BitVec 16 × List LoopLvl
  | [] => (next, [])
  | l :: ls =>
    if next = l.last + 1 then
      if 1 < l.remain.toNat then (l.first, { l with remain := l.remain - 1 } :: ls)
      else backEdges next ls
    else (next, l :: ls)

/-- Settle the loops after the last bundle (R51): no cycle is lost. The loop buffer empties with the last loop. -/
def settle (k : Core) : Core :=
  if k.edge then
    let r := backEdges k.next k.loops
    { k with next := r.1, loops := r.2, edge := false, loopBuf := if r.2.isEmpty then [] else k.loopBuf }
  else k

/-- Whether a bundle index lies in a loop's body. -/
def inBody (t : BitVec 16) (l : LoopLvl) : Bool := decide (l.first.toNat ≤ t.toNat ∧ t.toNat ≤ l.last.toNat)

/-! ### Fetch (R27, R28) -/

/-- Linear address of a core-store byte. (DESIGN CHOICE, log 5) -/
def storeAddr (c off : Nat) : Nat := c * 2 ^ 18 + off
/-- A 64 B line of a core store. -/
def storeLine (m : Memory) (c line : Nat) : BitVec 512 := BitVec.ofNat 512 (Memory.read m (storeAddr c (64 * line)) 64)

/-- The bundle that fetch delivers at an index: from the loop buffer, the fetch buffer, or the core store. -/
def fetchWord (m : Memory) (c : Nat) (k : Core) (idx : Nat) : DWord :=
  match Tab.get none k.loopBuf idx with
  | some w => w
  | none =>
    match k.fetch.find? (fun e => decide (e.1 = idx / 8)) with
    | some e => e.2.extractLsb' (64 * (idx % 8)) 64
    | none => (storeLine m c (idx / 8)).extractLsb' (64 * (idx % 8)) 64

/-- A line, with its data as the store holds it now. -/
def readLine (m : Memory) (c line : Nat) : Nat × BitVec 512 := (line, storeLine m c line)

/-- The fetch buffer for a bundle of a line: what it holds of that line and the next, that line read if it is missing. -/
def bufferAt (m : Memory) (c line : Nat) (buf : List (Nat × BitVec 512)) : List (Nat × BitVec 512) :=
  let kept := buf.filter (fun e => decide (e.1 = line ∨ e.1 = line + 1))
  if kept.any (fun e => decide (e.1 = line)) then kept else readLine m c line :: kept

/-- A cycle in which no bundle issues: fetch reads the first line it lacks of the next bundle's line and the line after
it, if its bank is not among those in `busy` (R27). A bundle of the loop buffer runs without fetching (R28). -/
def fetchAhead (m : Memory) (c busy : Nat) (k : Core) : Core :=
  let idx := (settle k).next.toNat
  let line := idx / 8
  if (Tab.get none k.loopBuf idx).isSome || decide (32768 ≤ idx) then k
  else if !k.fetch.any (fun e => decide (e.1 = line)) then
    (if Nat.testBit busy (line % 4) then k else { k with fetch := bufferAt m c line k.fetch })
  else if k.fetch.any (fun e => decide (e.1 = line + 1)) || decide (4096 ≤ line + 1) || Nat.testBit busy ((line + 1) % 4) then k
  else { k with fetch := bufferAt m c line k.fetch ++ [readLine m c (line + 1)] }

/-- `n` cycles in which the pipeline side takes no bank: two of them fill the buffer. -/
def readAhead (m : Memory) (c : Nat) : Nat → Core → Core
  | 0, k => k
  | 1, k => fetchAhead m c 0 k
  | _, k => fetchAhead m c 0 (fetchAhead m c 0 k)

/-- Lines fetch reads as the bundle at `idx` issues with `busy` banks taken by its access (R27). -/
def fetchLines (idx busy : Nat) (k : Core) : List Nat :=
  if (Tab.get none k.loopBuf idx).isSome then []
  else
    let lacks (l : Nat) : Bool := !k.fetch.any (fun e => decide (e.1 = l))
    let nxt := idx / 8 + 1
    (if lacks (idx / 8) then [idx / 8] else []) ++
      (if lacks nxt && decide (nxt < 4096) && (!Nat.testBit busy (nxt % 4) || decide (idx % 8 = 7)) then [nxt] else [])

/-- The fetch buffer as the bundle at `idx` issues with `busy` banks taken by its access: the bundle's line, and the
next line if its bank is free; an empty buffer takes the bank and stalls the core one cycle (R27). A bundle of the loop
buffer leaves it alone (R28). -/
def fetchStep (m : Memory) (c idx busy : Nat) (word : DWord) (k : Core) : Core :=
  if (Tab.get none k.loopBuf idx).isSome then k
  else
    let line := idx / 8
    let buf0 := bufferAt m c line k.fetch
    let k := { k with fetch := buf0, loopBuf := if k.loops.isEmpty then k.loopBuf else Tab.put none k.loopBuf idx (some word) }
    let nxt := line + 1
    if buf0.any (fun e => decide (e.1 = nxt)) || decide (4096 ≤ nxt) then k
    else if !Nat.testBit busy (nxt % 4) then { k with fetch := buf0 ++ [readLine m c nxt] }
    else if idx % 8 = 7 then stallFor 0 1 { k with fetch := buf0 ++ [readLine m c nxt] }
    else k

/-- A taken transfer to bundle `t` (R47, R52, R78): loops whose bodies it leaves end, and two cycles issue nothing, in
which the target line is read again and the line after it (R27, R28). -/
def branchTo (m : Memory) (c : Nat) (t : BitVec 16) (k : Core) : Core :=
  let ls := match k.loops with
    | [] => []
    | l :: ls => if inBody t l then l :: ls else ls.filter (inBody t)
  let line := t.toNat / 8
  coast 2 { k with next := t, edge := false, loops := ls
                   fetch := readLine m c line :: (if 4096 ≤ line + 1 then [] else [readLine m c (line + 1)])
                   loopBuf := if ls.isEmpty then [] else k.loopBuf }

/-! ### Issue -/

/-- The site control breakpoint of a core stops the bundle at its next index (R68). -/
def breakHit (s : State) (c : Nat) (k : Core) : Bool :=
  decide (s.rf (coreBase c + 0x20) 31 1 = 1) && decide (s.rf (coreBase c + 0x20) 0 15 = k.next.toNat) && !k.noBreak

/-- Destination keys that both slots name (R44). -/
def conflict (a b : Slot) : Bool := a.writes.any (fun x => b.writes.any (fun y => decide (x.1 = y.1)))

/-- Record when each destination may be read again. -/
def markReady (t : Nat) (ws : List (Nat × Nat)) (k : Core) : Core :=
  { k with ready := ws.foldl (fun r w => Tab.put 0 r w.1 (t + w.2)) k.ready }

/-- The banks the pipeline side takes in an issue cycle: its access's, and those of the lines fetch reads (R25, R27). The
runs of the other banks end. (DESIGN CHOICE, log 12) -/
def countBanks (old : Core) (busy : Nat) (k : Core) : Core :=
  let read (b : Nat) : Bool := k.fetch.any (fun e => decide (e.1 % 4 = b) && !old.fetch.contains e)
  { k with kept := (List.range 4).foldl (fun t b =>
      if Nat.testBit busy b || read b then Tab.put 0 t b (Tab.get 0 old.kept b + 1) else t) [] }

/-- Both slots take effect (R43): slot B's effect is laid down first, because only SR_SEED is written by both, and
there slot A's value stays (R137). (DESIGN CHOICE, log 7; DEDUCED, log 8) -/
def takeEffect (c : Nat) (a b : Slot) (word : DWord) (s : State) : State :=
  let k := s.core c
  let s := s.modCore c (fun k1 => countBanks k1 (a.banks k)
    (fetchStep s.mem c k.next.toNat (a.banks k) word
      (markReady k.pipe (a.writes ++ b.writes)
        { coast 1 { k1 with begun := true } with
          next := k1.next + 1, edge := true, noBreak := false, array := if b.array then k.pipe + 4 else k1.array })))
  a.post c (a.run c k (b.run c k s))

/-- Registers a bundle reads or writes. -/
def bundleKeys (a b : Slot) : List Nat := a.reads ++ b.reads ++ (a.writes ++ b.writes).map Prod.fst

/-- What becomes of a bundle of a core that may issue: it issues, it traps with the first cause of R56, or it waits a
cycle. (DESIGN CHOICE, log 7; DEDUCED, log 8) -/
def issueNow (c : Nat) (a b : Slot) (word : DWord) (s : State) : State :=
  let k := s.core c
  let idx := k.next.toNat
  if 32768 ≤ idx then takeTrap c 0x0A 0 idx 0 0 0 s
  else if conflict a b then takeTrap c 0x03 0 idx 0 0 0 s
  else if a.illegal then takeTrap c 0x01 0 idx 0 0 0 s
  else
    let keys := bundleKeys a b
    if keys.any (fun i => (pendingLoads k).contains i) then s.modCore c (fun k => fetchAhead s.mem c 0 (stallFor 1 1 k))
    else
      let n := waitCycles k keys b.array
      let s := if n = 0 then s else s.modCore c (fun k => readAhead s.mem c n (interlock n k))
      let k := s.core c
      match a.cause s c k with
      | some (code, addr) => takeTrap c code 0 idx addr 0 0 s
      | none =>
        if b.illegal then takeTrap c 0x02 1 idx 0 0 0 s
        else if engineFull k a.need then s.modCore c (fun k => fetchAhead s.mem c 0 (stallFor 2 1 k))
        else takeEffect c a b word s

/-- Whether a core's bundles may issue: RUNNING, not paused, its region ON, the device not in quench. -/
def mayIssue (s : State) (c : Nat) : Bool :=
  decide ((s.core c).st = .running) && (s.core c).pause.isNone && decide (s.regionState (regionOf c) = 0) && !s.frozen

/-- Whether a core issues a given bundle in its next cycle, and does not wait, trap or stop. -/
def willIssue (s : State) (c : Nat) (a b : Slot) : Bool :=
  let k := settle (s.core c)
  mayIssue s c && !breakHit s c k && decide (k.next.toNat < 32768) && !conflict a b && !a.illegal && !b.illegal &&
    !(bundleKeys a b).any (fun i => (pendingLoads k).contains i) && decide (waitCycles k (bundleKeys a b) b.array = 0) &&
    (a.cause s c k).isNone && !engineFull k a.need

/-- A core stops before its breakpoint bundle (R68). -/
def breakStop (c : Nat) (s : State) : State := s.modCore c (stopCore .break)

/-- A core whose pipeline has emptied: its loops settled, its groups closed, every result in place (R67, R139). -/
def drained (k : Core) : Core := { (settle k).closeAll with ready := [], array := 0 }

/-- After its one bundle a stepped core is STOPPED, unless the bundle halted or trapped it (R65). (DESIGN CHOICE, log 10) -/
def afterStep (k : Core) : Core :=
  if k.st = .running then { drained k with st := .stopped, cause := .step, stepping := false }
  else { k with stepping := false }

/-- Once the bundle of a Step has issued, the core stops (R65). A bundle that issues clears `noBreak`. (DESIGN CHOICE, log 10) -/
def endStep (c : Nat) (stepping : Bool) (s : State) : State :=
  if stepping && !(s.core c).noBreak then s.modCore c afterStep else s

/-- One issue cycle of a core for a given bundle. (DESIGN CHOICE, log 7) -/
def issueBundle (c : Nat) (a b : Slot) (word : DWord) (s : State) : State :=
  if mayIssue s c then
    let s := s.modCore c settle
    if breakHit s c (s.core c) then breakStop c s else endStep c (s.core c).stepping (issueNow c a b word s)
  else s

end Sys2Proof.Machine
end

