-- ==== Sys2Proof/Machine/ScalarSlots.lean ====
section
/-! DEFINITION. Slot A: scalar arithmetic, control, special registers, local and billet memory (R72–R84). -/

namespace Sys2Proof.Machine

/-- Write an x register of a core. -/
def wrX (r : BitVec 5) (f : Core → DWord) (c : Nat) (k : Core) (s : State) : State :=
  s.modCore c (fun k1 => k1.setX r (f k))

/-- ALU (R76). -/
def slotAlu (rd rs1 rs2 : BitVec 5) (fn : BitVec 11) : Slot :=
  match aluVal fn 0 0 with
  | none => slotIllegal
  | some _ =>
    { reads := kx rs1 ++ kx rs2, writes := lat (if fn = 0x010#11 then 3 else 1) (kx rd)
      run := wrX rd (fun k => (aluVal fn (k.getX rs1) (k.getX rs2)).getD 0) }

/-- An immediate form rd = f(x[rs1], imm) (R77). -/
def slotImm (rd rs1 : BitVec 5) (f : DWord → DWord) : Slot :=
  { reads := kx rs1, writes := lat 1 (kx rd), run := wrX rd (fun k => f (k.getX rs1)) }

def slotAddi (rd rs1 : BitVec 5) (imm : BitVec 16) : Slot := slotImm rd rs1 (fun a => a + sx16 imm)
def slotAndi (rd rs1 : BitVec 5) (imm : BitVec 16) : Slot := slotImm rd rs1 (fun a => a &&& zx16 imm)
def slotOri (rd rs1 : BitVec 5) (imm : BitVec 16) : Slot := slotImm rd rs1 (fun a => a ||| zx16 imm)
def slotXori (rd rs1 : BitVec 5) (imm : BitVec 16) : Slot := slotImm rd rs1 (fun a => a ^^^ zx16 imm)
def slotSlti (rd rs1 : BitVec 5) (imm : BitVec 16) : Slot := slotImm rd rs1 (fun a => if a.slt (sx16 imm) then 1 else 0)
def slotSltiu (rd rs1 : BitVec 5) (imm : BitVec 16) : Slot := slotImm rd rs1 (fun a => if a.ult (sx16 imm) then 1 else 0)
/-- A shift by imm16[5:0]; imm16[15:6] are 0 (R77). -/
def slotShift (rd rs1 : BitVec 5) (imm : BitVec 16) (f : DWord → Nat → DWord) : Slot :=
  { slotImm rd rs1 (fun a => f a (imm.toNat % 64)) with illegal := decide (64 ≤ imm.toNat) }
def slotSlli (rd rs1 : BitVec 5) (imm : BitVec 16) : Slot := slotShift rd rs1 imm (fun a n => a <<< n)
def slotSrli (rd rs1 : BitVec 5) (imm : BitVec 16) : Slot := slotShift rd rs1 imm (fun a n => a >>> n)
def slotSrai (rd rs1 : BitVec 5) (imm : BitVec 16) : Slot := slotShift rd rs1 imm (fun a n => a.sshiftRight n)
def slotOrsh (rd rs1 : BitVec 5) (imm : BitVec 16) : Slot := slotImm rd rs1 (fun a => (a <<< 16) ||| zx16 imm)

/-! ### Control (R78–R80) -/

/-- (pc + off) modulo 32,768 (R78). -/
def target (pc : BitVec 16) (off : Int) : BitVec 16 := BitVec.ofNat 16 (((pc.toNat : Int) + off) % 32768).toNat

/-- A conditional branch (R78). -/
def slotBranch (rs1 rs2 : BitVec 5) (off : BitVec 16) (test : DWord → DWord → Bool) : Slot :=
  { reads := kx rs1 ++ kx rs2
    run := fun c k s =>
      if test (k.getX rs1) (k.getX rs2) then s.modCore c (branchTo s.mem c (target k.next off.toInt)) else s }

def slotBeq (rs1 rs2 : BitVec 5) (off : BitVec 16) : Slot := slotBranch rs1 rs2 off (fun a b => decide (a = b))
def slotBne (rs1 rs2 : BitVec 5) (off : BitVec 16) : Slot := slotBranch rs1 rs2 off (fun a b => decide (a ≠ b))
def slotBlt (rs1 rs2 : BitVec 5) (off : BitVec 16) : Slot := slotBranch rs1 rs2 off (fun a b => a.slt b)
def slotBge (rs1 rs2 : BitVec 5) (off : BitVec 16) : Slot := slotBranch rs1 rs2 off (fun a b => !a.slt b)
def slotBltu (rs1 rs2 : BitVec 5) (off : BitVec 16) : Slot := slotBranch rs1 rs2 off (fun a b => a.ult b)
def slotBgeu (rs1 rs2 : BitVec 5) (off : BitVec 16) : Slot := slotBranch rs1 rs2 off (fun a b => !a.ult b)

/-- The link value pc + 1 (R78). -/
def linkVal (k : Core) : DWord := BitVec.ofNat 64 (k.next.toNat + 1)

def slotJ (off : BitVec 26) : Slot :=
  { run := fun c k s => s.modCore c (branchTo s.mem c (target k.next off.toInt)) }
def slotJal (off : BitVec 26) : Slot :=
  { writes := lat 1 (kx 31#5)
    run := fun c k s => (s.modCore c (fun k1 => k1.setX 31#5 (linkVal k))).modCore c (branchTo s.mem c (target k.next off.toInt)) }
def slotJalr (rd rs1 : BitVec 5) (imm : BitVec 16) : Slot :=
  { illegal := decide (imm ≠ 0#16), reads := kx rs1, writes := lat 1 (kx rd)
    run := fun c k s => (s.modCore c (fun k1 => k1.setX rd (linkVal k))).modCore c
      (branchTo s.mem c (BitVec.ofNat 16 ((k.getX rs1).toNat % 32768))) }

/-- The causes of LOOP (R50, R51). Where several hold, the one of the lowest code is recorded: R56 orders only illegal
encodings and LocalRange within a slot. (DESIGN CHOICE, log 8) -/
def loopCause (len : Nat) (k : Core) : Option (Nat × Nat) :=
  if len < 1 ∨ 64 < len then some (0x07, 0)
  else if 4 ≤ k.loops.length then some (0x08, 0)
  else match k.loops with
    | [] => none
    | l :: _ => if l.last.toNat < k.next.toNat + len then some (0x09, 0) else none

/-- LOOP enters its body, or skips it at a count of 0 in two cycles in which fetch reads on (R27, R50). -/
def enterLoop (m : Memory) (c count len : Nat) (k : Core) : Core :=
  if count = 0 then readAhead m c 2 { coast 2 k with next := k.next + BitVec.ofNat 16 len, edge := true }
  else { k with loops := ⟨BitVec.ofNat 32 count, k.next, k.next + BitVec.ofNat 16 (len - 1)⟩ :: k.loops, edge := false }

def slotLoop (rd rs1 : BitVec 5) (imm : BitVec 16) : Slot :=
  { illegal := decide (rd ≠ 0#5), reads := kx rs1
    cause := fun _ _ k => loopCause (sx16 imm).toNat k
    run := fun c k s => s.modCore c (enterLoop s.mem c ((k.getX rs1).toNat % 2 ^ 32) imm.toNat) }

/-- WAITT (R49, R79): issue pauses unless the condition already holds. -/
def slotWaitt (rd rs1 : BitVec 5) (imm : BitVec 16) : Slot :=
  { illegal := decide (8 ≤ rd.toNat), reads := kx rs1
    run := fun c k s =>
      let v := (k.getX rs1 + sx16 imm).extractLsb' 0 32
      s.modCore c (fun k1 =>
        if waittMet (Tab.get 0 k1.tc rd.toNat) v then k1 else { k1 with pause := some (.waitt (rd.extractLsb' 0 3) v) }) }

/-- HALT (R80): after its bundle the core is HALTED. (DEDUCED, log 8) -/
def slotHalt (off : BitVec 26) : Slot :=
  { illegal := decide (off ≠ 0#26)
    post := fun c s => s.modCore c (fun k => { (settle k).closeAll with st := .halted }) }

/-- TRAP (R80): neither slot takes effect. -/
def slotTrap (off : BitVec 26) : Slot :=
  { illegal := decide (128 ≤ off.toNat), cause := fun _ _ _ => some (0x80 + off.toNat, 0) }

/-- SRD (R38, R81). -/
def slotSrd (rd rs1 : BitVec 5) (imm : BitVec 16) : Slot :=
  { illegal := decide (rs1 ≠ 0#5) || decide (256 ≤ imm.toNat), writes := lat 2 (kx rd)
    cause := fun s c k => if (srRead s c k imm.toNat).isSome then none else some (0x06, 0)
    run := fun c k s => s.modCore c (fun k1 => k1.setX rd ((srRead s c k imm.toNat).getD 0)) }

/-- SWR (R34, R38, R81). -/
def slotSwr (rd rs1 : BitVec 5) (imm : BitVec 16) : Slot :=
  { illegal := decide (rd ≠ 0#5) || decide (256 ≤ imm.toNat), reads := kx rs1
    cause := fun s c k => if (srRead s c k imm.toNat).isSome then none else some (0x06, 0)
    run := fun c k s => s.modCore c (srWrite imm.toNat (k.getX rs1)) }

/-! ### Local memory (R24, R82) -/

/-- Local address of an access. -/
def localAddr (k : Core) (rs1 : BitVec 5) (imm : BitVec 16) : Nat := (k.getX rs1 + sx16 imm).toNat

/-- LocalRange before LocalAlign (R24, R56). FAULT_INFO.Addr holds 18 bits of the address. -/
def localCause (a size : Nat) : Option (Nat × Nat) :=
  if 2 ^ 18 < a + size then some (0x05, a) else if a % size = 0 then none else some (0x04, a)

/-- Banks an access takes (R24). -/
def localBanks (a size : Nat) : Nat :=
  if size = 128 then (if a / 128 % 2 = 0 then 3 else 12) else 2 ^ (a / 64 % 4)

/-- A local load of `size` bytes. -/
def slotLoad (rs1 : BitVec 5) (imm : BitVec 16) (size : Nat) (dst : List Nat) (w : Nat → Core → Core) : Slot :=
  { reads := kx rs1, writes := lat 3 dst
    banks := fun k => localBanks (localAddr k rs1 imm) size
    cause := fun _ _ k => localCause (localAddr k rs1 imm) size
    run := fun c k s => s.modCore c (w (Memory.read s.mem (storeAddr c (localAddr k rs1 imm)) size)) }

/-- A local store of the low `size` bytes of a value. -/
def slotStore (rs1 : BitVec 5) (imm : BitVec 16) (size : Nat) (src : List Nat) (f : Core → Nat) : Slot :=
  { reads := kx rs1 ++ src
    banks := fun k => localBanks (localAddr k rs1 imm) size
    cause := fun _ _ k => localCause (localAddr k rs1 imm) size
    run := fun c k s => { s with mem := Memory.write s.mem (storeAddr c (localAddr k rs1 imm)) size (f k) } }

def slotLdx (rd rs1 : BitVec 5) (imm : BitVec 16) : Slot :=
  slotLoad rs1 imm 8 (kx rd) (fun v k => k.setX rd (BitVec.ofNat 64 v))
def slotStx (rd rs1 : BitVec 5) (imm : BitVec 16) : Slot := slotStore rs1 imm 8 (kx rd) (fun k => (k.getX rd).toNat)
/-- A vector load writes the low bytes and zeroes the rest (R82). -/
def slotLdvN (size : Nat) (rd rs1 : BitVec 5) (imm : BitVec 16) : Slot :=
  slotLoad rs1 imm size (kv rd) (fun v k => k.setV rd (BitVec.ofNat 1024 v))
def slotStvN (size : Nat) (rd rs1 : BitVec 5) (imm : BitVec 16) : Slot :=
  slotStore rs1 imm size (kv rd) (fun k => (k.getV rd).toNat)
def slotLdp (rd rs1 : BitVec 5) (imm : BitVec 16) : Slot :=
  { slotLoad rs1 imm 16 (kp (rd.extractLsb' 0 3)) (fun v k => k.setP (rd.extractLsb' 0 3) (BitVec.ofNat 128 v)) with
    illegal := decide (8 ≤ rd.toNat) }
def slotStp (rd rs1 : BitVec 5) (imm : BitVec 16) : Slot :=
  { slotStore rs1 imm 16 (kp (rd.extractLsb' 0 3)) (fun k => (k.getP (rd.extractLsb' 0 3)).toNat) with
    illegal := decide (8 ≤ rd.toNat) }

/-! ### Billet accesses (R83, R84) -/

/-- Billet offset of an access: bits [27:0], the bits below its size ignored (R83). -/
def billetOff (k : Core) (rs1 : BitVec 5) (imm : BitVec 16) (size : Nat) : Nat :=
  (k.getX rs1 + sx16 imm).toNat % 2 ^ 28 / size * size

/-- A billet access joins its core's, numbered in the order of issue. -/
def billetIssue (c : Nat) (b : BilletOp) (s : State) : State :=
  { s.modCore c (fun k => { k with billet := k.billet ++ [b] }) with nextId := s.nextId + 1 }

/-- A billet load joins the core's accesses in program order; its register stays pending (R84). -/
def slotBld (rs1 : BitVec 5) (imm : BitVec 16) (size : Nat) (d : Dest) : Slot :=
  { reads := kx rs1, writes := lat 1 d.keys, need := .billet
    run := fun c k s => billetIssue c ⟨false, d, billetOff k rs1 imm size, size, 0, false, 0, s.now, s.nextId, false, none⟩ s }

/-- A billet store joins them with its data. -/
def slotBst (rs1 : BitVec 5) (imm : BitVec 16) (size : Nat) (src : List Nat) (f : Core → Nat) : Slot :=
  { reads := kx rs1 ++ src
    run := fun c k s => billetIssue c ⟨true, .none, billetOff k rs1 imm size, size, f k, false, 0, s.now, s.nextId, false, none⟩ s }

def slotBldx (rd rs1 : BitVec 5) (imm : BitVec 16) : Slot := slotBld rs1 imm 8 (.x rd)
def slotBstx (rd rs1 : BitVec 5) (imm : BitVec 16) : Slot := slotBst rs1 imm 8 (kx rd) (fun k => (k.getX rd).toNat)
def slotBldv (rd rs1 : BitVec 5) (imm : BitVec 16) : Slot := slotBld rs1 imm 128 (.v rd 128)
def slotBstv (rd rs1 : BitVec 5) (imm : BitVec 16) : Slot := slotBst rs1 imm 128 (kv rd) (fun k => (k.getV rd).toNat)

/-! ### Epoch registers (R97) -/

def slotEtag (rd rs1 : BitVec 5) (imm : BitVec 16) : Slot :=
  { illegal := decide (rd ≠ 0#5), reads := kx rs1
    run := fun c k s => s.modCore c (fun k1 => { k1 with epochTag := (k.getX rs1 + sx16 imm).extractLsb' 0 6 }) }
def slotEview (rd rs1 : BitVec 5) (imm : BitVec 16) : Slot :=
  { illegal := decide (rd ≠ 0#5) || decide (imm ≠ 0#16), reads := kx rs1
    run := fun c k s => s.modCore c (fun k1 => { k1 with view := (k.getX rs1).extractLsb' 1 63 }) }

/-! ### Fences (R98) -/

/-- Whether an FFENCE's conditions hold: no entry and no descriptor names a counter of the mask, and with Billet set
every billet store of the core has been applied. -/
def fenceMet (mask : BitVec 9) (k : Core) : Bool :=
  k.fe.all (fun e => match e.2 with | some n => !mask.getLsbD n.tc.toNat | none => true) &&
    k.bulk.all (fun d => !mask.getLsbD d.tc.toNat) &&
    (!mask.getLsbD 8 || k.billet.all (fun b => !b.store))

def slotFfence (rd rs1 : BitVec 5) (imm : BitVec 16) : Slot :=
  { illegal := decide (rd ≠ 0#5) || decide (rs1 ≠ 0#5) || decide (512 ≤ imm.toNat)
    run := fun c _ s => s.modCore c (fun k1 =>
      if fenceMet (BitVec.ofNat 9 imm.toNat) k1 then k1
      else { k1 with pause := some (.ffence (BitVec.ofNat 9 imm.toNat) s.now) }) }

/-- Whether a pause's condition holds now. -/
def pauseMet (k : Core) : Bool :=
  match k.pause with
  | none => true
  | some (.waitt tc v) => waittMet (Tab.get 0 k.tc tc.toNat) v
  | some (.ffence m _) => fenceMet m k

/-- End the pause of a RUNNING core whose condition holds (R49, R98). -/
def releasePause (k : Core) : Core :=
  if k.st = .running ∧ pauseMet k = true then { k with pause := none } else k

end Sys2Proof.Machine
end

