-- ==== Sys2Proof/Machine/HomeMem.lean ====
section
/-! DEFINITION. What a home does with a request: checks (R191–R193, R203), ownership (R196–R199), the speculation buffer
(R262–R268), poison (R166, R281), arrivals (R33), mirror records (R440), and the effect of each request. -/

namespace Sys2Proof.Machine

/-! ### Poison (R166, R281) -/

/-- Bytes one poison mark covers at a linear address: 8 in a billet, 32 in HBM. (DESIGN CHOICE, log 5) -/
def granule (a : Nat) : Nat := if 2 ^ 40 ≤ a then 32 else 8
def poisonedByte (s : State) (a : Nat) : Bool := setHas s.poison (a / granule a * granule a)
/-- Whether any of `n` bytes is poisoned. -/
def poisonedIn (s : State) (a n : Nat) : Bool := s.poison.any (fun g => decide (g < a + n ∧ a < g + granule g))
/-- Set a poison mark. -/
def markPoison (a : Nat) (s : State) : State := { s with poison := setAdd s.poison (a / granule a * granule a) }
/-- Write `n` bytes of home memory: the marks of granules wholly written are cleared. -/
def memWrite (a n v : Nat) (s : State) : State :=
  { s with
    mem := Memory.write s.mem a n v
    poison := s.poison.filter (fun g => !decide (a ≤ g ∧ g + granule g ≤ a + n)) }

/-! ### Mirror records (R440) -/

/-- A mirror window that can match: its endpoint, base and length. -/
def pairWin (s : State) (n : Nat) : Option (Nat × Nat × Nat) :=
  let c := s.reg (0x500108 + 16 * n)
  if fld c 31 1 = 0 then none
  else
    let b := s.reg64 (0x500100 + 16 * n)
    let e := b.toNat / 2 ^ 53 % 32
    let sz := fld c 18 6
    let lo := b.toNat % 2 ^ 53
    if e < 20 ∧ 16 ≤ sz ∧ sz ≤ 40 ∧
        ((isStack e = true ∧ lo + 2 ^ sz ≤ 2 ^ 28) ∨ (isCruc e = true ∧ lo + 2 ^ sz ≤ 144 * 2 ^ 30)) then
      some (e, lo, 2 ^ sz) else none
def inPairWin (s : State) (e off : Nat) : Bool :=
  (List.range 16).any (fun n => match pairWin s n with
    | some (x, lo, len) => decide (x = e ∧ lo ≤ off ∧ off < lo + len)
    | none => false)

/-- Whether the mirror source's gate is open (R436). -/
def gatesOpen (s : State) : Bool := !s.pins.pairEn || decide (s.rf 0x500004 31 1 = 1)
def mirrorOn (s : State) : Bool := s.pins.pairEn && gatesOpen s

/-- Unsent records of a home. -/
def unsent (s : State) (e : Nat) : Nat := (s.mirrorTx.filter (fun r => decide (r.ep.val = e))).length
/-- A home with 64 unsent records takes no write to its windows into service (R440). -/
def mirrorFull (s : State) (e off : Nat) : Bool := mirrorOn s && inPairWin s e off && decide (64 ≤ unsent s e)

/-- Whether the PAIR_MARK line is the line written. -/
def isMark (s : State) (e off : Nat) : Bool :=
  let m := s.reg64 0x500010
  decide (m.toNat / 2 ^ 53 % 32 = e ∧ m.toNat % 2 ^ 53 / 64 = off / 64) && inPairWin s e off

/-- A write of `n` bytes at an offset of endpoint `e`, linear address `a`, produces its record (R440); a write to the
marker line closes the epoch, as its last record (R441). During a resync the copy's own marker closes it (R444). -/
def mirrorWrite (e : Nat) (off a n : Nat) (s : State) : State :=
  if mirrorOn s && inPairWin s e off then
    let s := { s with mirrorTx := s.mirrorTx ++
      [⟨Fin.ofNat 20 e, BitVec.ofNat 53 off, (List.range n).map (fun i => Memory.byte s.mem (a + i))⟩] }
    if isMark s e off && !s.resync && decide (s.rf 0x500004 25 1 = 0) then { s with closing := s.closing ++ [s.mirrorTx.length] } else s
  else s

/-! ### Checks at the home -/

/-- Class bit of the windows' Ops (R192): 24 Read, 25 Write, 26 Atomic, 27 Own, 28 Commit. -/
def opsBit (p : Pkt) : Nat :=
  let o := p.op.toNat
  if o = 1 then 24 else if o ≤ 5 then 25 else if o ≤ 0x13 then 26 else if o ≤ 0x19 then 27 else 28

/-- Whether window `n` of an endpoint admits a request (R192). -/
def windowAdmits (s : State) (e : Nat) (p : Pkt) (n : Nat) : Bool :=
  let c := s.reg (epWin e + 16 * n + 8)
  let sz := fld c 18 6
  let lo := (s.reg64 (epWin e + 16 * n)).toNat % 2 ^ 53 / 2 ^ sz * 2 ^ sz
  decide (fld c 31 1 = 1 ∧ fld c 0 12 = p.job.toNat ∧ fld c (opsBit p) 1 = 1 ∧ 16 ≤ sz ∧ sz ≤ 40) &&
    (decide (opsBit p = 28) || decide (lo ≤ reqOff p ∧ reqOff p + reqBytes p ≤ lo + 2 ^ sz))

/-- Window check (R192, R193). -/
def windowOk (s : State) (e : Nat) (p : Pkt) : Bool :=
  decide (p.job = 0#12) || (List.range 64).any (windowAdmits s e p)

/-- Core-store check (R191, R193). -/
def storeOk (s : State) (c : Nat) (p : Pkt) : Bool :=
  let w := s.reg (siteBase (c / 256) + 0x100 + 8 * s.rf (coreBase c + 0x0C) 0 3)
  decide (p.job = 0#12) || decide (fld w 31 1 = 1 ∧ fld w 0 12 = p.job.toNat)

/-- EpochTag of a store (R178, R179). -/
def epochOf (p : Pkt) : Nat :=
  match p.op.toNat with
  | 2 => p.p1.toNat % 64
  | 4 => p.p1.toNat % 64
  | 3 => p.epoch.toNat
  | 5 => p.epoch.toNat
  | _ => 0

/-- Whether an opcode, variant or length is one the tables list (R178, R179); what they do not list is as a reserved opcode.
(DESIGN CHOICE, log 24) -/
def formOk (p : Pkt) : Bool :=
  match p.op.toNat with
  | 1 => decide (p.var.toNat ≤ 8)
  | 2 => true
  | 3 => decide (p.len.toNat ≤ 8)
  | 4 => true
  | 5 => decide (p.len.toNat ≤ 8)
  | 0x18 => decide (p.var.toNat ≤ 2)
  | 0x19 => decide (p.var.toNat ≤ 2)
  | 0x1A => true
  | o =>
    if 8 ≤ o ∧ o ≤ 11 then fatLegal p.var.toNat (o - 8)
    else if 0x10 ≤ o ∧ o ≤ 0x13 then fredLegal p.var.toNat (o - 0x10) && decide (p.len.toNat ≤ 8) else false

/-- PERM findings of a request at its target (R173, R175, R191–R193, R196, R203). -/
def permBad (s : State) (p : Pkt) : Bool :=
  let own := decide (0x18 ≤ p.op.toNat ∧ p.op.toNat ≤ 0x19)
  if !formOk p then true
  else if p.op.toNat = 0x1A then
    !(isStack (reqEp p) || isCruc (reqEp p)) || !windowOk s (reqEp p) p
  else match reqTgt p with
    | .billet _ _ => !windowOk s (reqEp p) p
    | .cruc _ _ => !windowOk s (reqEp p) p
    | .store c _ => own || decide (epochOf p ≠ 0) || !storeOk s c p
    | .ctrl _ => own || isFat p || isFred p || decide (epochOf p ≠ 0) || decide (p.job ≠ 0#12)
    | .mirror _ => own || isFat p || isFred p || decide (epochOf p ≠ 0) || decide (p.job ≠ 0#12)
    | _ => true

/-- Pseudo-channel of a crucible offset (R274). -/
def pcOf (off : Nat) : Nat := off / 256 % 128
/-- Bank and row of a crucible offset (R274). -/
def bankRow (off : Nat) : Nat × Nat :=
  let a := off / 256 / 128 * 256 + off % 256
  (a / 1024 % 48, a / 1024 / 48)

/-- Whether a granule a request touches lies in a failed pseudo-channel (R284). -/
def pcFailedIn (s : State) (k off n : Nat) : Bool :=
  (List.range (n / 256 + 2)).any (fun i =>
    decide (off / 256 + i ≤ (off + n - 1) / 256) &&
      (let pc := (off / 256 + i) % 128
       decide (s.rf (crucBase k + 0x40 + 4 * (pc / 32)) (pc % 32) 1 = 1)))

/-- FENCED findings: the function is not Online (R383), the core is fenced (R157), the pseudo-channel failed, which an
ECOMMIT does not name (R91, R284). -/
def fencedAt (s : State) (p : Pkt) : Bool :=
  (let f := s.funcState (funcOfEp (reqEp p))
   decide (f = 1 ∨ f = 2)) ||
    (match reqTgt p with
     | .store c _ => decide ((s.core c).st = .fenced)
     | .cruc k o => decide (p.op.toNat ≠ 0x1A) && pcFailedIn s k o (reqBytes p)
     | _ => false)

/-- NOT_POWERED findings (R362, R365); a region in RETAIN with Autowake set is woken instead. -/
def unpowered (s : State) (p : Pkt) : Bool :=
  match reqTgt p with
  | .store c _ =>
    let r := regionOf c
    decide (s.blockState (8 + c / 256) ≠ 0) || decide (s.regionState r = 3) ||
      (decide (s.regionState r = 2) && decide (s.rf (0x50100 + 4 * r) 27 1 = 0))
  | .billet site _ => decide (s.blockState (8 + site) ≠ 0)
  | .cruc k _ => decide (s.blockState (16 + k) ≠ 0)
  | .ctrl _ => decide (s.devState ≠ 0)
  | .mirror a =>
    let h := a / 0x10000
    decide (s.blockState (if h = 12 then 16 + a % 0x10000 / 0x4000 else 8 + (h - 0x10)) ≠ 0) &&
      decide (h = 12 ∨ (0x10 ≤ h ∧ h ≤ 0x17))
  | _ => false

/-- The status a request meets at its home before it is served: the first of R183, or OK. -/
def homeStatus (s : State) (p : Pkt) (bad : Bool) : Nat :=
  firstStatus
    ((if extentBad p then [5] else []) ++ (if s.armed p.job.toNat then [9] else []) ++
      (if fencedAt s p then [2] else []) ++ (if unpowered s p then [3] else []) ++ (if bad then [6] else []))

/-! ### Ownership (R196–R201) -/

def regionLog (s : State) (e : Nat) : Nat := s.rf (epOwn e) 0 5

/-- Whether a requester matches an entry under the entry's scope (R196, R198). (DEDUCED, log 24) -/
def ownMatch (o : OwnEnt) (p : Pkt) : Bool :=
  match o.scope.toNat with
  | 2 => decide (o.job = p.job)
  | n =>
    decide (o.fab = p.srcFab) && decide (o.ep = p.srcEp) && decide (p.eng.toNat ≤ 1) &&
      (if n = 0 then decide (o.core = p.srcCore) else decide (clusterOf o.core.toNat = clusterOf p.srcCore.toNat))

def ownEntry (s : State) (e region : Nat) : Option OwnEnt :=
  (Tab.get [] s.own e).find? (fun o => decide (o.region = region))

/-- Replace the ownership table of a home. -/
def setOwn (e : Nat) (l : List OwnEnt) (s : State) : State := { s with own := Tab.put [] s.own e l }

/-- A non-owner's write to an owned region is counted and recorded (R198). (DEDUCED, log 16) -/
def noteForeign (e : Nat) (p : Pkt) (s : State) : State :=
  let foreign (line : Nat) : Bool :=
    match ownEntry s e (line * 64 / 2 ^ regionLog s e) with
    | some o => !ownMatch o p
    | none => false
  let line := if foreign (firstLine p) then firstLine p else lastLine p
  if foreign line then
    let n := s.rf (epOwn e + 8) 0 32
    (s.setReg64 (epOwn e + 0x10 + 8 * (n % 16))
      (BitVec.ofNat 64 (p.srcFab.toNat * 2 ^ 58 + p.srcEp.toNat * 2 ^ 53 + p.srcCore.toNat * 2 ^ 45 +
        p.job.toNat * 2 ^ 33 + line % 2 ^ 32 * 2 + 1))).incRf (epOwn e + 8) 0 32 1
  else s

/-- OWNX and OWNR at the home (R197): the status and the table. -/
def ownRequest (e : Nat) (take : Bool) (p : Pkt) (s : State) : Nat × State :=
  let region := reqOff p / 2 ^ regionLog s e
  let t := Tab.get [] s.own e
  match ownEntry s e region with
  | some o =>
    if decide (o.scope.toNat = p.var.toNat) && ownMatch o p then
      if take then (0, s)
      else (0, setOwn e (t.filter (fun x => decide (x.region ≠ region))) s)
    else (if take then 1 else 6, s)
  | none =>
    if !take then (0, s)
    else if t.length < 4096 then
      (0, setOwn e (t ++ [⟨region, p.var.extractLsb' 0 2, p.srcFab, p.srcEp, p.srcCore, p.job⟩]) s)
    else (1, s.incRf (epOwn e + 4) 13 16 1)

/-- OWN_FORCE_REL (R199, R201). -/
def forceRelease (e : Nat) (all : Bool) (off : Nat) (s : State) : State :=
  setOwn e (if all then [] else (Tab.get [] s.own e).filter (fun x => decide (x.region ≠ off / 2 ^ regionLog s e))) s

/-- A write to OWN_CFG (R196). -/
def writeOwnCfg (e : Nat) (v : Word) (s : State) : State :=
  let n := fld v 0 5
  if n < 16 ∨ 30 < n ∨ (Tab.get [] s.own e) ≠ [] then s.setRf (epOwn e + 4) 31 1 1
  else s.setRf (epOwn e) 0 5 n

/-! ### Speculation buffer (R262–R268) -/

def epochKey (e n : Nat) : Nat := e * 64 + n
def State.epochSt (s : State) (e n : Nat) : EpochSt := Tab.get .free s.epochs (epochKey e n)
def State.setEpoch (s : State) (e n : Nat) (x : EpochSt) : State :=
  { s with epochs := Tab.put .free s.epochs (epochKey e n) x }
/-- Lines of a buffer, its capacity, and the lines of one epoch. -/
def specUsed (s : State) (e : Nat) : Nat := (s.spec.filter (fun l => decide (l.ep.val = e))).length
def specCap (e : Nat) : Nat := if isCruc e then 262144 else 65536
def specOf (s : State) (e n : Nat) : Nat :=
  (s.spec.filter (fun l => decide (l.ep.val = e ∧ l.epoch.toNat = n))).length
def specAt (s : State) (e line n : Nat) : Option SpecLine :=
  s.spec.find? (fun l => decide (l.ep.val = e ∧ l.line = line ∧ l.epoch.toNat = n))

/-- Bytes of `new` over `old` where the mask has a bit. -/
def overlay (mask : BitVec 64) (new old : BitVec 512) : BitVec 512 :=
  let m := BitVec.ofNat 512 ((List.range 64).foldl (fun n i => if mask.getLsbD i then n + 255 * 2 ^ (8 * i) else n) 0)
  (new &&& m) ||| (old &&& ~~~m)

/-- A tentative store's bytes to one line (R263). -/
def specStore (e line n : Nat) (mask : BitVec 64) (data : BitVec 512) (s : State) : State :=
  match specAt s e line n with
  | some l =>
    let full := l.poison.filter (fun w => decide ((mask.toNat / 2 ^ (8 * w)) % 256 ≠ 255))
    { s with spec := s.spec.map (fun x => if x = l then
        { l with data := overlay mask data l.data, mask := l.mask ||| mask, poison := full } else x) }
  | none =>
    { s.setEpoch e n .open with
      spec := s.spec ++ [⟨Fin.ofNat 20 e, line, BitVec.ofNat 6 n, data, mask, [], 0⟩] }

/-- A tentative store (R263): its status, and the state after it. -/
def tentative (e n : Nat) (parts : List (Nat × BitVec 64 × BitVec 512)) (s : State) : Nat × State :=
  if s.epochSt e n = .commit ∨ s.epochSt e n = .discard then (1, s.incRf (epSpec e + 12) 0 32 1)
  else
    let fresh := (parts.filter (fun x => (specAt s e x.1 n).isNone)).length
    let cap := s.rf (epSpec e) 0 19
    if fresh ≠ 0 ∧ (specCap e < specUsed s e + fresh ∨ (cap ≠ 0 ∧ cap < specOf s e n + fresh)) then
      (7, s.incRf (epSpec e + 8) 0 32 1)
    else (0, parts.foldl (fun t x => specStore e x.1 n x.2.1 x.2.2 t) s)

/-- Of two lines being committed, the one whose bytes come first: the later ECOMMIT, then the higher epoch (R266). -/
def laterLine (a b : SpecLine) : SpecLine :=
  if a.ord < b.ord ∨ (a.ord = b.ord ∧ a.epoch.toNat < b.epoch.toNat) then b else a
def bestLine (pick : SpecLine → SpecLine → SpecLine) (l : List SpecLine) : Option SpecLine :=
  l.foldl (fun b x => match b with | none => some x | some y => some (pick y x)) none
/-- Of two lines of OPEN epochs, that of the higher epoch. -/
def higherLine (a b : SpecLine) : SpecLine := if a.epoch.toNat < b.epoch.toNat then b else a

/-- The line a byte of a read comes from (R266), if any: an OPEN line in view, else a line being committed. -/
def specSource (s : State) (e : Nat) (view : DWord) (off : Nat) : Option SpecLine :=
  let has := s.spec.filter (fun l => decide (l.ep.val = e ∧ l.line = off / 64) && l.mask.getLsbD (off % 64))
  match bestLine higherLine (has.filter (fun l => decide (s.epochSt e l.epoch.toNat = .open) && view.getLsbD l.epoch.toNat)) with
  | some l => some l
  | none => bestLine laterLine (has.filter (fun l => decide (s.epochSt e l.epoch.toNat = .commit)))

/-- One byte of a read at home memory and whether it is poisoned (R266). -/
def readByte (s : State) (e : Nat) (view : DWord) (base off : Nat) : Nat × Bool :=
  match specSource s e view off with
  | some l => ((l.data.extractLsb' (8 * (off % 64)) 8).toNat, l.poison.contains (off % 64 / 8))
  | none => ((Memory.byte s.mem (base + off)).toNat, poisonedByte s (base + off))

/-- `n` bytes of a read, and whether any is poisoned. -/
def readBytes (s : State) (e : Nat) (view : DWord) (base off : Nat) : Nat → Nat × Bool
  | 0 => (0, false)
  | n + 1 =>
    let r := readBytes s e view base (off + 1) n
    let b := readByte s e view base off
    (b.1 + 256 * r.1, b.2 || r.2)

/-- Linear address of the memory of a stack or crucible endpoint. -/
def memBase (e : Nat) : Nat := if isCruc e then hbmAddr (e / 5) 0 else billetAddr (siteOfEp e) 0

/-- Write a committed line back to memory (R268, R270): its bytes, its poisoned words poisoned, and its mirror record. -/
def writeBack (l : SpecLine) (s : State) : State :=
  let a := memBase l.ep.val + 64 * l.line
  let s := (List.range 64).foldl (fun t i =>
    if l.mask.getLsbD i then { t with mem := Tab.put 0 t.mem (a + i) (l.data.extractLsb' (8 * i) 8) } else t) s
  let g := granule a
  let s := { s with poison := s.poison.filter (fun p =>
    !(decide (a ≤ p ∧ p < a + 64) && decide (l.mask.toNat / 2 ^ (p - a) % 2 ^ g = 2 ^ g - 1))) }
  let s := l.poison.foldl (fun t w => markPoison (a + 8 * w) t) s
  mirrorWrite l.ep.val (64 * l.line) a 64 { s with spec := s.spec.filter (fun x => decide (x ≠ l)) }

/-- Put a line into a list in the order of write-back: earlier ECOMMITs first, then lower epochs. -/
def insertLine (l : SpecLine) : List SpecLine → List SpecLine
  | [] => [l]
  | x :: t => if laterLine l x = x then l :: x :: t else x :: insertLine l t

/-- Committed lines of one line of a home, in the order they are written back. -/
def drainLines (s : State) (e line : Nat) : List SpecLine :=
  (s.spec.filter (fun l => decide (l.ep.val = e ∧ l.line = line) &&
    decide (s.epochSt e l.epoch.toNat = .commit))).foldr insertLine []

/-- An epoch whose last line has gone becomes FREE (R268). -/
def freeEpoch (e n : Nat) (s : State) : State :=
  if (s.epochSt e n = .commit ∨ s.epochSt e n = .discard) ∧ specOf s e n = 0 then s.setEpoch e n .free else s

/-- Before a committed write to a line, its COMMIT_DRAIN entries are written back (R267). -/
def settleLine (e line : Nat) (s : State) : State :=
  (drainLines s e line).foldl (fun t l => writeBack l t) s
def settleLines (e first last : Nat) (s : State) : State :=
  (List.range (last + 1 - first)).foldl (fun t i => settleLine e (first + i) t) s

/-- The epochs of the masks of an ECOMMIT change state (R264, R265). -/
def changeEpochs (e : Nat) (commit discard : DWord) (s : State) : State :=
  let s := { s.incRf (epSpec e + 0x20) 0 32 1 with commits := s.commits + 1 }
  (List.range 64).foldl (fun t n =>
    if n = 0 ∨ t.epochSt e n ≠ .open then t
    else if discard.getLsbD n then t.setEpoch e n .discard
    else if commit.getLsbD n then
      { t.setEpoch e n .commit with
        spec := t.spec.map (fun l => if l.ep.val = e ∧ l.epoch.toNat = n then { l with ord := t.commits } else l) }
    else t) s

/-! ### Arrivals (R33) -/

/-- A write of `lines` lines from local line `first` of core `c` has arrived, each counting `n`: every counter that
binds a line adds, and a pause may end. -/
def arrive (c first lines n : Nat) (s : State) : State :=
  s.modCore c (fun k =>
    releasePause ((List.range 8).foldl (fun k1 i =>
      let m := ((List.range lines).filter (fun j => bindsLine (Tab.get 0 k1.tcb i) (first + j))).length
      if m = 0 then k1 else { k1 with tc := Tab.put 0 k1.tc i (tcAdd (Tab.get 0 k1.tc i) (m * n)) }) k))

/-! ### Slices and ports of a billet (R160–R164) -/

/-- Slice and bank of a billet offset (R161, R162). -/
def sliceOf (s : State) (site off : Nat) : Nat :=
  if s.rf (siteBase site + 0x9000) 16 1 = 1 then off / 2 ^ 24 % 16 else off / 2 ^ 12 % 16
def bankOf (off : Nat) : Nat := off / 64 % 4
/-- Core `i` of a cluster of a site (R9). -/
def clusterCore (site cl i : Nat) : Nat := 256 * site + 16 * (4 * (cl / 4) + i / 4) + 4 * (cl % 4) + i % 4
/-- The requester through which a request reached a billet: 0–15 the cluster ports, 16 the hearth port. -/
def bankPort (s : State) (site : Nat) (p : Pkt) : Nat :=
  if s.ownSrc p && decide (p.eng.toNat ≤ 1 ∧ p.srcEp.toNat = siteEp site) then clusterOf p.srcCore.toNat else 16
/-- Whether a billet's slices are held: its control logic is being reset (R168, R387). -/
def islandOnly (s : State) (site : Nat) : Bool := decide (s.rf (siteBase site + 0x9004) 1 1 = 1)

/-- Lines of `n` bytes from an offset, those with the first `k` served left out, as line offsets. -/
def linesFrom (off n k : Nat) : List Nat :=
  ((List.range ((off + max n 1 - 1) / 64 + 1 - off / 64)).map (fun i => 64 * (off / 64 + i))).drop k
/-- Whether a request waits at a billet for its home's memory. -/
def atBillet (e : Nat) (i : Item) : Bool :=
  decide (i.loc = .home e) && !isResp i.pkt && i.lead.isNone && decide (i.pkt.op.toNat < 0x18) &&
    (match reqTgt i.pkt with | .billet _ _ => true | _ => false)
/-- Request credits of a slice that a cluster port has spent, on what is at the billet or on its way there (R164). -/
def portLoad (s : State) (site slice r : Nat) : Nat :=
  let here (off n k : Nat) : Bool := (linesFrom off n k).any (fun o => decide (sliceOf s site o = slice))
  let comes (i : Item) : Bool := decide (i.loc = .wire (upWire site r) ∧ reqEp i.pkt = siteEp site) && s.ownDst i.pkt
  (s.pool.filter (fun i => (atBillet (siteEp site) i || comes i) && decide (bankPort s site i.pkt = r) &&
    here (reqOff i.pkt) (reqBytes i.pkt) i.lines)).length +
    (((List.range 16).map (clusterCore site r)).flatMap (fun c =>
      (s.core c).billet.filter (fun b => b.there && !b.served && here b.off b.bytes b.lines))).length
/-- Whether a cluster port may send a request to its own stack: it has a credit of the slice, which an internal reset of
the billet withholds (R164, R168). -/
def portCredit (s : State) (e : Nat) (p : Pkt) : Bool :=
  match reqTgt p with
  | .billet site off =>
    !islandOnly s site && (decide (0x18 ≤ p.op.toNat) ||
      (linesFrom off (reqBytes p) 0).all (fun o => decide (portLoad s site (sliceOf s site o) (bankPort s site p) < 8)))
  | .store _ _ => true
  | _ => !(isStack e && islandOnly s (siteOfEp e))

/-! ### Effects of requests -/

/-- Data of a store as a number of `reqBytes` bytes. -/
def storeVal (p : Pkt) : Nat := if p.op.toNat = 2 ∨ p.op.toNat = 4 then p.p0.toNat else packNat p.data

/-- Lines of a store with their byte masks and data, for the speculation buffer. -/
def storeParts (p : Pkt) : List (Nat × BitVec 64 × BitVec 512) :=
  if p.op.toNat = 2 ∨ p.op.toNat = 4 then
    [(firstLine p, BitVec.ofNat 64 (255 * 2 ^ (reqOff p % 64)), BitVec.ofNat 512 (p.p0.toNat * 2 ^ (8 * (reqOff p % 64))))]
  else (List.range p.len.toNat).map (fun i => (firstLine p + i, BitVec.allOnes 64, p.data.getD i 0))

/-- The epoch states a request sees: those of now, or of its entry into service (R265). -/
def underOld (old : Option (Tab EpochSt)) (f : State → State) (s : State) : State :=
  match old with
  | none => f s
  | some o =>
    let t := f { s with epochs := o }
    -- an epoch that the request opened stays open only where the change has left it FREE
    let fresh (l : SpecLine) : Bool := !s.spec.any (fun x => decide (x.ep = l.ep ∧ x.line = l.line ∧ x.epoch = l.epoch))
    t.spec.foldl (fun u l =>
        if fresh l && decide (s.epochSt l.ep.val l.epoch.toNat = .free) then u.setEpoch l.ep.val l.epoch.toNat .open else u)
      { t with
        epochs := s.epochs
        spec := t.spec.map (fun l => if fresh l && decide (s.epochSt l.ep.val l.epoch.toNat = .commit) then
          { l with ord := s.commits } else l) }

/-- A committed write of `n` bytes to memory of endpoint `e` (R267, R440). -/
def commitWrite (e : Nat) (p : Pkt) (n v : Nat) (s : State) : State :=
  let s := noteForeign e p (settleLines e (firstLine p) (lastLine p) s)
  let a := memBase e + reqOff p
  mirrorWrite e (reqOff p) a n (memWrite a n v s)

/-- A store at a memory home or a core store: status and state (R184, R198, R263). A tentative store is a write of R184,
so one by a non-owner counts. (DEDUCED, log 24) -/
def storeAt (p : Pkt) (s : State) : Nat × State :=
  match reqTgt p with
  | .store c o =>
    if reqBytes p = 0 then (0, s)
    else (0, arrive c (o / 64) ((o + reqBytes p - 1) / 64 + 1 - o / 64) 1
      { s with mem := Memory.write s.mem (storeAddr c o) (reqBytes p) (storeVal p) })
  | _ =>
    if epochOf p ≠ 0 then
      let r := tentative (reqEp p) (epochOf p) (storeParts p) s
      (r.1, if r.1 = 0 ∧ reqBytes p ≠ 0 then noteForeign (reqEp p) p r.2 else r.2)
    else if reqBytes p = 0 then (0, s)
    else (0, commitWrite (reqEp p) p (reqBytes p) (storeVal p) s)

/-- A read: status, bytes and state unchanged (R266); a core store returns committed data. -/
def loadAt (p : Pkt) (s : State) : Nat × Nat :=
  match reqTgt p with
  | .store c o => (0, Memory.read s.mem (storeAddr c o) (reqBytes p))
  | _ =>
    let r := readBytes s (reqEp p) p.p0 (memBase (reqEp p)) (reqOff p) (reqBytes p)
    if r.2 then (8, 0) else (0, r.1)

/-- An atomic at its home (R203): status, old value and state. -/
def atomicAt (p : Pkt) (s : State) : Nat × Nat × State :=
  let n := reqBytes p
  match reqTgt p with
  | .store c o =>
    let old := Memory.read s.mem (storeAddr c o) n
    (0, old, arrive c (o / 64) 1 1
      { s with mem := Memory.write s.mem (storeAddr c o) n (fatVal p.var.toNat (8 * n) old p.p0.toNat p.p1.toNat) })
  | _ =>
    let s := settleLine (reqEp p) (firstLine p) s
    let a := memBase (reqEp p) + reqOff p
    if poisonedIn s a n then (8, 0, s)
    else
      let old := Memory.read s.mem a n
      (0, old, commitWrite (reqEp p) p n (fatVal p.var.toNat (8 * n) old p.p0.toNat p.p1.toNat) s)

/-- A reduction at its home, with the contribution count that its arrivals add (R213). -/
def reduceAt (p : Pkt) (count : Nat) (s : State) : Nat × State :=
  let n := reqBytes p
  let sz := p.op.toNat - 0x10
  match reqTgt p with
  | .store c o =>
    let old := Memory.read s.mem (storeAddr c o) n
    (0, arrive c (o / 64) ((o + n - 1) / 64 + 1 - o / 64) count
      { s with mem := Memory.write s.mem (storeAddr c o) n (fredVal p.var.toNat sz old (packNat p.data)) })
  | _ =>
    let s := settleLines (reqEp p) (firstLine p) (lastLine p) s
    let a := memBase (reqEp p) + reqOff p
    if poisonedIn s a n then (8, s)
    else (0, commitWrite (reqEp p) p n (fredVal p.var.toNat sz (Memory.read s.mem a n) (packNat p.data)) s)

/-! ### Arrival at a home -/

/-- The permission check of a request, made once, when its order lets the home apply it (R191–R194). -/
def checkItem (id : Nat) (s : State) : State :=
  s.modItem id (fun i => { i with chk := some (permBad s i.pkt), held := false })

/-- The status a request meets at its home, with what its check found (R183, R194). -/
def itemStatus (s : State) (it : Item) : Nat :=
  homeStatus s it.pkt (it.chk.getD (permBad s it.pkt))

/-- A request that the home may apply now is checked, and a candidate of memory enters the table (R210). -/
def takeIn (e id : Nat) (s : State) : State :=
  let s := checkItem id s
  match s.item id with
  | some it => if (reqTgt it.pkt).isMem && decide (itemStatus s it = 0) then enterTable e id s else s
  | none => s

/-- An item reaches the input queue of an endpoint: the home admits it, or it waits, accepted (R210, R237). -/
def arriveHome (e : Nat) (it : Item) (s : State) : State :=
  let s := s.moveItem it (.home e)
  if mustWait s it then s.modItem it.id (fun i => { i with held := true }) else takeIn e it.id s

end Sys2Proof.Machine
end

