-- ==== Sys2Proof/Machine/FabricSlots.lean ====
section
/-! DEFINITION. Slot A: fabric requests and bulk descriptors (R85–R96, R217, R218). -/

namespace Sys2Proof.Machine

/-- A request packet of a core's fabric engine, with every field that its opcode does not use at 0 (R177–R179). -/
def corePkt (s : State) (c : Nat) (k : Core) (tag op var : Nat) (dst : DWord) (ord : BitVec 2) (flag : Bool) : Pkt :=
  { dst := dst, cls := decide (op = 3 ∨ op = 5 ∨ (0x10 ≤ op ∧ op ≤ 0x13)), op := BitVec.ofNat 6 op
    var := BitVec.ofNat 4 var, srcFab := BitVec.ofNat 6 s.fabNum, srcEp := BitVec.ofNat 5 (siteEp (c / 256))
    srcCore := BitVec.ofNat 8 c, eng := 0, tag := BitVec.ofNat 8 tag, ord := ord, flag := flag, job := k.jobTag
    seq := 0, len := 0, redId := 0, mcKind := 0, members := 0, epoch := 0, p0 := 0, p1 := 0, comp := 0, data := [] }

/-- The entry a fabric request takes (R29): the spec does not say which free one, the model takes the lowest.
(DESIGN CHOICE, log 18) -/
def freeTag (k : Core) : Nat := ((List.range 256).find? (fun i => (Tab.get none k.fe i).isNone)).getD 0

/-- A mesh multicast outside its own site, or a hearth multicast outside its own device (R94). A mesh multicast to an
offset of its own site that is no core store is completed like one outside the site: no rule names the case. (DESIGN
CHOICE, log 24) -/
def mcastBad (s : State) (c : Nat) (p : Pkt) : Bool :=
  isMcs p &&
    (if p.mcKind.toNat ≤ 1 then
      !(s.ownDst p && decide (dEp p.dst = siteEp (c / 256)) &&
        (match reqTgt p with | .store _ _ => true | _ => false))
     else !s.ownDst p)

/-- Status of a request completed at its source before it is injected (R172, R94, R223), by the order of R183; 0 if it
goes on. -/
def sourceStatus (s : State) (p : Pkt) (bad : Bool) : Nat :=
  if !s.fabValid then 4
  else if s.armed p.job.toNat || bad then
    firstStatus ((if s.armed p.job.toNat then [9] else []) ++ (if bad then [6] else []) ++
      (if !s.ownDst p && !routeValid s (dFab p.dst) then [4] else []) ++ (if extentBad p then [5] else []))
  else 0

/-- A new request enters its engine, held if it must follow requests to other endpoints (R188); one that its source
completes is answered at once. -/
def launch (e : Nat) (bad : Bool) (it : Item) (s : State) : State :=
  let st := sourceStatus s it.pkt bad
  if st ≠ 0 then sendBack e it (respPkt it.pkt st (ackCount it.pkt) false 0 []) s
  else { s with pool := s.pool ++ [{ it with held := mustHold s it }] }

/-- Issue a fabric request: an entry is taken and the packet waits in the engine (R29, R46, R85). -/
def fabricIssue (c : Nat) (tc : BitVec 3) (dst : Dest) (blk : Option (Nat × Nat)) (mk : Nat → Pkt) (s : State) : State :=
  let tag := freeTag (s.core c)
  let s := s.modCore c (fun k => { k with fe := Tab.put none k.fe tag (some ⟨tc, dst⟩) })
  let p := mk tag
  launch (siteEp (c / 256)) (mcastBad s c p) (newReq p .engine (siteEp (c / 256)) blk s) (countReq p s)

/-- Address with the bits below an alignment cleared (R88). -/
def alignTo (a : DWord) (n : Nat) : DWord := BitVec.ofNat 64 (a.toNat / n * n)
/-- Alignment of a size code (R88). -/
def sizeAlign (size : BitVec 2) : Nat := match size.toNat with | 0 => 8 | 1 => 64 | 2 => 128 | _ => 64

/-- A block word (R89): local address and lines. -/
def blockAddr (w : DWord) : Nat := w.toNat % 2 ^ 18
def blockLines (w : DWord) : Nat := w.toNat / 2 ^ 20 % 8 + 1
/-- The causes of a block's local extent (R89, R56). -/
def blockCause (size : BitVec 2) (w : DWord) : Option (Nat × Nat) :=
  if size.toNat ≠ 3 then none
  else if 2 ^ 18 < blockAddr w + 64 * blockLines w then some (0x05, blockAddr w)
  else if blockAddr w % 64 = 0 then none else some (0x04, blockAddr w)

/-- FLD (R88–R91). NoCombine is marked by `len`, since the header gives it no bit. -/
def slotFld (rd rs1 rs2 : BitVec 5) (cls : BitVec 3) (ord : BitVec 2) (flag : Bool) (size : BitVec 2) (hint : BitVec 3) : Slot :=
  let blk := decide (size.toNat = 3)
  let dst : Dest := match size.toNat with | 0 => .x rd | 1 => .v rd 64 | 2 => .v rd 128 | _ => .none
  { illegal := flag || decide (ord = 1#2 ∨ ord = 3#2 ∨ 2 ≤ hint.toNat) || (blk && decide (rd ≠ 0#5)) ||
      (!blk && decide (rs2 ≠ 0#5))
    reads := kx rs1 ++ (if blk then kx rs2 else []), writes := lat 1 dst.keys, need := .fabric
    cause := fun _ _ k => blockCause size (k.getX rs2)
    run := fun c k s =>
      let w := k.getX rs2
      let d : Dest := if blk then .block (blockAddr w) (blockLines w) else dst
      let var := match size.toNat with | 0 => 0 | 1 => 1 | 2 => 2 | _ => blockLines w
      fabricIssue c cls d none (fun tag =>
        { corePkt s c k tag 1 var (alignTo (k.getX rs1) (sizeAlign size)) ord false with
          p0 := k.view ++ 1#1, len := if hint.getLsbD 0 then 1 else 0 }) s }

/-- Units of a store's register data (R88). -/
def storeData (k : Core) (rs2 : BitVec 5) (size : BitVec 2) : List (BitVec 512) :=
  match size.toNat with
  | 1 => [(k.getV rs2).extractLsb' 0 512]
  | 2 => [(k.getV rs2).extractLsb' 0 512, (k.getV rs2).extractLsb' 512 512]
  | _ => []

/-- A store, flagged or not, or a multicast store with its kind and mask (R88, R89, R91, R94). -/
def storeSlot (rd rs1 rs2 : BitVec 5) (cls : BitVec 3) (ord : BitVec 2) (flag : Bool) (size : BitVec 2) (hint : BitVec 3)
    (mc : Bool) : Slot :=
  let small := decide (size.toNat = 0)
  let blk := decide (size.toNat = 3)
  { illegal := decide (ord = 3#2) || (if mc then decide (4 ≤ hint.toNat) else decide (hint ≠ 0#3) || decide (rd ≠ 0#5))
    reads := kx rs1 ++ (if small || blk then kx rs2 else kv rs2) ++ (if mc then kx rd else []), need := .fabric
    cause := fun _ _ k => blockCause size (k.getX rs2)
    run := fun c k s =>
      let w := k.getX rs2
      let lines := if blk then blockLines w else size.toNat
      let mask := (k.getX rd).toNat % 2 ^ 16
      let kind := hint.toNat % 4
      fabricIssue c cls .none (if blk then some (blockAddr w, blockLines w) else none) (fun tag =>
        { corePkt s c k tag ((if small then 2 else 3) + (if mc then 2 else 0)) 0
            (alignTo (k.getX rs1) (sizeAlign size)) ord flag with
          epoch := k.epochTag
          p0 := if small then w else 0
          p1 := if small then BitVec.ofNat 64 (k.epochTag.toNat + (if mc then kind * 64 + mask * 256 else 0)) else 0
          mcKind := if mc then BitVec.ofNat 2 kind else 0
          members := if mc then BitVec.ofNat 18 mask else 0
          len := BitVec.ofNat 4 lines, data := storeData k rs2 size }) s }

def slotFst (rd rs1 rs2 : BitVec 5) (cls : BitVec 3) (ord size : BitVec 2) (hint : BitVec 3) : Slot :=
  storeSlot rd rs1 rs2 cls ord false size hint false
def slotFstf (rd rs1 rs2 : BitVec 5) (cls : BitVec 3) (ord size : BitVec 2) (hint : BitVec 3) : Slot :=
  storeSlot rd rs1 rs2 cls ord true size hint false
def slotFmcs (rd rs1 rs2 : BitVec 5) (cls : BitVec 3) (ord : BitVec 2) (flag : Bool) (size : BitVec 2) (hint : BitVec 3) : Slot :=
  storeSlot rd rs1 rs2 cls ord flag size hint true

/-- FAT (R92). A fetching one is marked by `len`. -/
def slotFat (rd rs1 rs2 : BitVec 5) (cls : BitVec 3) (ord : BitVec 2) (flag : Bool) (size : BitVec 2) (hint : BitVec 3) : Slot :=
  let op := (if flag then 8 else 0) + hint.toNat
  let w := 8 * 2 ^ size.toNat
  { illegal := !fatLegal op size.toNat || decide (ord = 1#2 ∨ ord = 3#2) || decide (op = 12 ∧ rs2 ≠ 0#5)
    reads := kx rs1 ++ kx rs2 ++ kx rd, writes := lat 1 (kx rd), need := .fabric
    run := fun c k s =>
      fabricIssue c cls (if rd = 0#5 then .none else .x rd) none (fun tag =>
        { corePkt s c k tag (8 + size.toNat) op (alignTo (k.getX rs1) (w / 8)) ord false with
          p0 := BitVec.ofNat 64 ((k.getX rs2).toNat % 2 ^ w)
          p1 := if op = 8 then BitVec.ofNat 64 ((k.getX rd).toNat % 2 ^ w) else 0
          len := if rd = 0#5 then 0 else 1 }) s }

/-- FRED (R93). -/
def slotFred (rd rs1 rs2 : BitVec 5) (cls : BitVec 3) (ord : BitVec 2) (flag : Bool) (size : BitVec 2) (hint : BitVec 3) : Slot :=
  let top := decide (hint = 5#3)
  { illegal := flag || !fredLegal hint.toNat size.toNat || decide (ord = 3#2)
    reads := kx rs1 ++ kv rs2 ++ kx rd, need := .fabric
    run := fun c k s =>
      fabricIssue c cls .none none (fun tag =>
        { corePkt s c k tag (0x10 + size.toNat) hint.toNat (alignTo (k.getX rs1) (if top then 64 else 128)) ord false with
          redId := (k.getX rd).extractLsb' 0 16, members := 1, len := if top then 1 else 2
          data := storeData k rs2 (if top then 1 else 2) }) s }

/-- OWNX and OWNR (R91, R197). -/
def ownSlot (take : Bool) (rd rs1 rs2 : BitVec 5) (cls : BitVec 3) (ord : BitVec 2) (flag : Bool) (size : BitVec 2) (hint : BitVec 3) : Slot :=
  { illegal := flag || decide (rd ≠ 0#5 ∨ rs2 ≠ 0#5 ∨ size ≠ 0#2 ∨ 3 ≤ hint.toNat ∨ ord = 1#2 ∨ ord = 3#2)
    reads := kx rs1, need := .fabric
    run := fun c k s =>
      fabricIssue c cls .none none (fun tag =>
        corePkt s c k tag (if take then 0x18 else 0x19) hint.toNat (k.getX rs1) ord false) s }
def slotOwnx (rd rs1 rs2 : BitVec 5) (cls : BitVec 3) (ord : BitVec 2) (flag : Bool) (size : BitVec 2) (hint : BitVec 3) : Slot :=
  ownSlot true rd rs1 rs2 cls ord flag size hint
def slotOwnr (rd rs1 rs2 : BitVec 5) (cls : BitVec 3) (ord : BitVec 2) (flag : Bool) (size : BitVec 2) (hint : BitVec 3) : Slot :=
  ownSlot false rd rs1 rs2 cls ord flag size hint

/-- ECOMMIT (R95). -/
def slotEcommit (rd rs1 rs2 : BitVec 5) (cls : BitVec 3) (ord : BitVec 2) (flag : Bool) (size : BitVec 2) (hint : BitVec 3) : Slot :=
  { illegal := flag || decide (size ≠ 0#2 ∨ hint ≠ 0#3 ∨ ord = 1#2 ∨ ord = 3#2)
    reads := kx rs1 ++ kx rs2 ++ kx rd, need := .fabric
    run := fun c k s =>
      fabricIssue c cls .none none (fun tag =>
        { corePkt s c k tag 0x1A 0 (k.getX rs1) ord false with p0 := k.getX rs2, p1 := k.getX rd }) s }

/-! ### Bulk descriptors (R217, R218) -/

/-- Rows of a descriptor: its row length and number of rows. -/
def descRows (len rowLines : Nat) : Nat × Nat :=
  if rowLines = 0 ∨ len ≤ rowLines then (len, 1) else (rowLines, (len + rowLines - 1) / rowLines)

/-- Lines from the first to the last line any row touches (R218). -/
def descSpan (len rowLines stride : Nat) : Nat :=
  let r := descRows len rowLines
  let last := len - (r.2 - 1) * r.1
  max ((r.2 - 1) * stride + last) (if r.2 < 2 then 0 else (r.2 - 2) * stride + r.1)

/-- Whether an extent lies within one row of its endpoint's map (R218). -/
def extentOk (a : DWord) (n : Nat) : Bool :=
  let e := dEp a
  let o := dOff a
  if 20 ≤ e then false
  else if isStack e then (match tgtOf e o with | .billet _ _ => (tgtOf e o).room n | .store _ _ => (tgtOf e o).room n | _ => false)
  else if isCruc e then
    decide (o + n ≤ 144 * 2 ^ 30) || decide (2 ^ 40 ≤ o ∧ o + n ≤ 2 ^ 40 + 576 * 2 ^ 30)
  else false

/-- Whether an extent is a core store's. -/
def extentStore (a : DWord) : Bool := match tgtOf (dEp a) (dOff a) with | .store _ _ => true | _ => false

/-- Whether one bulk window of a site covers an extent (R221). -/
def bulkWindow (s : State) (site : Nat) (tag : Nat) (ops : Nat) (a : DWord) (n : Nat) : Bool :=
  (List.range 16).any (fun i =>
    let b := siteBase site + 0xB000 + 16 * i
    let w := s.reg (b + 8)
    let sz := fld w 18 6
    let lo := (s.reg64 b).toNat / 2 ^ sz * 2 ^ sz
    decide (fld w 31 1 = 1 ∧ fld w 0 12 = tag ∧ fld w ops 1 = 1 ∧ 16 ≤ sz ∧ sz ≤ 40 ∧ lo ≤ a.toNat ∧
      a.toNat + n ≤ lo + 2 ^ sz))

/-- The four words of a descriptor. -/
structure DescWords where
  src : DWord
  dst : DWord
  w2  : DWord
  w3  : DWord
  deriving DecidableEq, Repr

def DescWords.len (d : DescWords) : Nat := d.w2.toNat % 2 ^ 24
def DescWords.rowLines (d : DescWords) : Nat := d.w2.toNat / 2 ^ 48
def DescWords.srcStride (d : DescWords) : Nat := d.w2.toNat / 2 ^ 24 % 2 ^ 24
def DescWords.dstStride (d : DescWords) : Nat := d.w3.toNat % 2 ^ 24

/-- The check of a descriptor (R218): 0, or the status it is refused with. -/
def descCheck (s : State) (site tag : Nat) (d : DescWords) : Nat :=
  let n := 64 * descSpan d.len d.rowLines d.srcStride
  let m := 64 * descSpan d.len d.rowLines d.dstStride
  let malformed := decide (d.len = 0 ∨ d.w3.toNat / 2 ^ 33 ≠ 0 ∨ d.w3.toNat / 2 ^ 24 % 2 ^ 8 ≠ 0 ∨
    (d.rowLines ≠ 0 ∧ d.dstStride < d.rowLines))
  let bad := !extentOk d.src n || !extentOk d.dst m ||
    !(extentStore d.src || bulkWindow s site tag 24 d.src n) || !(extentStore d.dst || bulkWindow s site tag 25 d.dst m)
  firstStatus ((if !s.fabValid then [4] else []) ++ (if bad then [5] else []) ++ (if malformed then [6] else []))

/-- Packets of `n` lines from source and destination addresses: at most 8 lines, crossing no 4 KiB boundary (R219). -/
def rowPkts (line src dst : Nat) : Nat → Nat → List BulkPkt
  | 0, _ => []
  | _ + 1, 0 => []
  | f + 1, n =>
    let m := min (min 8 n) (min ((4096 - src % 4096) / 64) ((4096 - dst % 4096) / 64))
    ⟨line, BitVec.ofNat 64 src, BitVec.ofNat 64 dst, m, 0, 0, 0⟩ ::
      rowPkts (line + m) (src + 64 * m) (dst + 64 * m) f (n - m)

/-- Every packet of a descriptor, in its line order (R217, R219). -/
def descPkts (d : DescWords) : List BulkPkt :=
  let r := descRows d.len d.rowLines
  (List.range r.2).flatMap (fun i =>
    let n := min r.1 (d.len - i * r.1)
    rowPkts (i * r.1) (d.src.toNat + 64 * i * d.srcStride) (d.dst.toNat + 64 * i * d.dstStride) n n)

/-- BULKQ (R96, R217, R218): the descriptor is read at issue and checked in full. -/
def slotBulkq (rd rs1 rs2 : BitVec 5) (cls : BitVec 3) (ord : BitVec 2) (flag : Bool) (size : BitVec 2) (hint : BitVec 3) : Slot :=
  { illegal := flag || decide (rd ≠ 0#5 ∨ rs2 ≠ 0#5 ∨ ord ≠ 0#2 ∨ size ≠ 0#2 ∨ hint ≠ 0#3)
    reads := kx rs1, need := .bulk
    banks := fun k => localBanks (k.getX rs1).toNat 32
    cause := fun _ _ k => localCause (k.getX rs1).toNat 32
    run := fun c k s =>
      let word (i : Nat) : Nat := Memory.read s.mem (storeAddr c ((k.getX rs1).toNat + 8 * i)) 8
      let d : DescWords := ⟨BitVec.ofNat 64 (word 0 / 64 * 64), BitVec.ofNat 64 (word 1 / 64 * 64), BitVec.ofNat 64 (word 2),
        BitVec.ofNat 64 (word 3)⟩
      let st := descCheck s (c / 256) k.jobTag.toNat d
      s.modCore c (fun k1 => { k1 with bulk := k1.bulk ++
        [⟨cls, d.w3.getLsbD 32, if st = 0 then none else some st, if st = 0 then descPkts d else []⟩] }) }

end Sys2Proof.Machine
end

