-- ==== Sys2Proof/Machine/VectorSlots.lean ====
section
/-! DEFINITION. Slot B: vector and matrix instructions (R100–R126). -/

namespace Sys2Proof.Machine

/-- Write a v register of a core. -/
def wrV (r : BitVec 5) (f : Core → VWord) (c : Nat) (k : Core) (s : State) : State :=
  s.modCore c (fun k1 => k1.setV r (f k))

/-- A predicated vector operation that reads its old destination (R20, R105); `two` says that the vs2 field names a
source, and is not a field marked 0. -/
def slotVec (vd vs1 vs2 : BitVec 5) (pm : BitVec 3) (legal two : Bool) (n : Nat)
    (f : PWord → VWord → VWord → VWord → VWord) : Slot :=
  { illegal := !legal, reads := kv vs1 ++ (if two then kv vs2 else []) ++ kv vd ++ kp pm, writes := lat n (kv vd)
    run := wrV vd (fun k => f (k.getP pm) (k.getV vs1) (k.getV vs2) (k.getV vd)) }

def slotVfp (vd vs1 vs2 : BitVec 5) (pm : BitVec 3) (fn : BitVec 8) : Slot :=
  slotVec vd vs1 vs2 pm (vfpLegal fn vs2) (decide (fn.toNat % 32 < 7)) (vfpLat fn) (vfpVal fn)
def slotVint (vd vs1 vs2 : BitVec 5) (pm : BitVec 3) (fn : BitVec 8) : Slot :=
  slotVec vd vs1 vs2 pm (vintLegal fn vs2) (decide (fn.toNat % 32 ≠ 13)) 2 (vintVal fn)
def slotVlog (vd vs1 vs2 : BitVec 5) (pm : BitVec 3) (fn : BitVec 8) : Slot :=
  slotVec vd vs1 vs2 pm (vlogLegal fn vs2) (decide (fn.toNat ≠ 4 ∧ fn.toNat ≠ 5)) 2 (vlogVal fn)
def slotVcmp (vd vs1 vs2 : BitVec 5) (pm : BitVec 3) (fn : BitVec 8) : Slot :=
  let pd := vd.extractLsb' 0 3
  { illegal := !vcmpLegal fn vd, reads := kv vs1 ++ kv vs2 ++ kp pm ++ kp pd, writes := lat 2 (kp pd)
    run := fun c k s => s.modCore c (fun k1 =>
      k1.setP pd (vcmpVal fn (k.getP pm) (k.getV vs1) (k.getV vs2) (k.getP pd))) }
def slotVpred (vd vs1 vs2 : BitVec 5) (pm : BitVec 3) (fn : BitVec 8) : Slot :=
  let pd := vd.extractLsb' 0 3
  let p1 := vs1.extractLsb' 0 3
  let p2 := vs2.extractLsb' 0 3
  { illegal := !vpredLegal fn vd vs1 vs2 pm, reads := kp p1 ++ kp p2, writes := lat 2 (kp pd)
    run := fun c k s => s.modCore c (fun k1 => k1.setP pd (vpredVal fn (k.getP p1) (k.getP p2))) }
def slotVxcn (vd vs1 vs2 : BitVec 5) (pm : BitVec 3) (fn : BitVec 8) : Slot :=
  slotVec vd vs1 vs2 pm (vxcnLegal fn vs2) false 8 (fun p a _ d => vxcnVal fn p a d)
def slotVperm (vd vs1 vs2 : BitVec 5) (pm : BitVec 3) (fn : BitVec 8) : Slot :=
  slotVec vd vs1 vs2 pm (vpermLegal fn) true 3 (vpermVal fn)
def slotVred (vd vs1 vs2 : BitVec 5) (pm : BitVec 3) (fn : BitVec 8) : Slot :=
  { illegal := !vredLegal fn vs2, reads := kv vs1 ++ kp pm, writes := lat 7 (kv vd)
    run := wrV vd (fun k => vredVal fn vs2 (k.getP pm) (k.getV vs1)) }
/-- VCVT under a rounding mode; the stochastic one advances the generator (R113). -/
def slotVcvt (mode : Rnd) (sr : Bool) (vd vs1 vs2 : BitVec 5) (pm : BitVec 3) (fn : BitVec 8) : Slot :=
  { illegal := !vcvtLegal fn vs2 pm
    reads := kv vs1 ++ (if etBlock (fn.toNat % 16) || etBlock (fn.toNat / 16) then kv vs2 else []) ++ kv vd
    writes := lat 3 (kv vd)
    run := fun c k s =>
      let r := vcvtVal mode sr fn pm (k.getV vs1) (k.getV vs2) (k.getV vd) k.gen
      s.modCore c (fun k1 => { k1.setV vd r.1 with gen := r.2 }) }

/-! ### Matrix unit -/

/-- The scale register v(28 + scale) (R122, R125). -/
def scaleReg (scale : BitVec 2) : BitVec 5 := BitVec.ofNat 5 (28 + scale.toNat)

/-- Add one MMA to the active rows of an accumulator (R119–R122, R138, R139). -/
def mmaRows' (acc : BitVec 2) (fa fb mode : BitVec 4) (a b sv : VWord) : Nat → Core → Core
  | 0, k => k
  | n + 1, k =>
    let k := mmaRows' acc fa fb mode a b sv n k
    let key := 32 * acc.toNat + n
    let r := mmaRow (mode.getLsbD 0) ⟨fa, fb, mode.getLsbD 1, BitVec.ofNat 5 n, BitVec.ofNat 32 (velt 32 a n), b, sv⟩
      (Tab.get 0 k.acc key) (Tab.get [] k.grp key)
    { k with acc := Tab.put 0 k.acc key r.1, grp := Tab.put [] k.grp key r.2 }

/-- MMA (R119–R122): it reads its operands in the issue cycle and takes the array for 4 cycles (R21). -/
def slotMma (acc : BitVec 2) (vs1 vs2 : BitVec 5) (fmtA fmtB mode : BitVec 4) (scale : BitVec 2) : Slot :=
  let blk := etBlock fmtA.toNat || etBlock fmtB.toNat
  { illegal := !mmaLegal fmtA fmtB scale
    reads := kv vs1 ++ kv vs2 ++ (if blk then kv (scaleReg scale) else []) ++ [kAwr acc]
    array := true
    run := fun c k s => s.modCore c (fun k1 =>
      { mmaRows' acc fmtA fmtB mode (k.getV vs1) (k.getV vs2) (if blk then k.getV (scaleReg scale) else 0)
          (mmaRows mode) k1 with
        ready := Tab.put 0 k1.ready (kMma acc) (k.pipe + 8) }) }

/-- ACLR (R124, R139): every element +0.0, the open groups discarded. -/
def slotAclr (acc : BitVec 2) (zero : BitVec 24) : Slot :=
  { illegal := decide (zero ≠ 0#24), reads := [kMma acc]
    run := fun c _ s => s.modCore c (fun k1 =>
      { k1 with acc := Tab.restrict (fun i => decide (i / 32 ≠ acc.toNat)) k1.acc
                grp := Tab.restrict (fun i => decide (i / 32 ≠ acc.toNat)) k1.grp }) }

/-- ACVT (R125): the accumulator's groups close, and one row is converted. -/
def slotAcvt (acc : BitVec 2) (vd row : BitVec 5) (fmt : BitVec 4) (rnd : BitVec 2) (mul sat : Bool)
    (zero part scale : BitVec 2) : Slot :=
  { illegal := !acvtLegal fmt rnd mul zero part scale
    reads := kv vd ++ (if mul then kv (scaleReg scale) else []) ++ [kMma acc, kAwr acc], writes := lat 4 (kv vd)
    run := fun c k s =>
      let k0 := k.closeAcc acc
      let r := acvtVal fmt rnd mul sat part (k0.getAcc acc row.toNat) (k.getV (scaleReg scale)) (k.getV vd) k.gen
      s.modCore c (fun k1 => { (k1.closeAcc acc).setV vd r.1 with gen := r.2 }) }

/-- AWR (R124): the groups close, then the row is written. -/
def slotAwr (acc : BitVec 2) (vs1 row : BitVec 5) (zero : BitVec 14) : Slot :=
  { illegal := decide (zero ≠ 0#14), reads := kv vs1 ++ [kMma acc, kAwr acc]
    run := fun c k s => s.modCore c (fun k1 =>
      { (k1.closeAcc acc).setAcc acc row.toNat (k.getV vs1) with
        ready := Tab.put 0 k1.ready (kAwr acc) (k.pipe + 2) }) }

end Sys2Proof.Machine
end

