-- ==== Sys2Proof/Machine/SlotDecode.lean ====
section
/-! DEFINITION. Bundle words: the formats of R72 and R100 in both directions, and the opcode maps of R75 and R102. -/

namespace Sys2Proof.Machine

/-! ### Fields of a word (R72) -/

def wRd (w : Word) : BitVec 5 := w.extractLsb' 21 5
def wRs1 (w : Word) : BitVec 5 := w.extractLsb' 16 5
def wRs2 (w : Word) : BitVec 5 := w.extractLsb' 11 5
def wImm (w : Word) : BitVec 16 := w.extractLsb' 0 16
def wCls (w : Word) : BitVec 3 := w.extractLsb' 8 3
def wOrd (w : Word) : BitVec 2 := w.extractLsb' 6 2
def wFlag (w : Word) : Bool := w.getLsbD 5
def wSize (w : Word) : BitVec 2 := w.extractLsb' 3 2
def wHint (w : Word) : BitVec 3 := w.extractLsb' 0 3

/-! ### Words from fields -/

/-- Formats I and B: three fields of 5, 5 and 16 bits below the opcode. -/
def encI (op : BitVec 6) (r1 r2 : BitVec 5) (imm : BitVec 16) : Word := op ++ r1 ++ r2 ++ imm
/-- Format R. -/
def encR (op : BitVec 6) (rd rs1 rs2 : BitVec 5) (fn : BitVec 11) : Word := op ++ rd ++ rs1 ++ rs2 ++ fn
/-- Format J. -/
def encJ (op : BitVec 6) (off : BitVec 26) : Word := op ++ off
/-- Format F. -/
def encF (op : BitVec 6) (rd rs1 rs2 : BitVec 5) (cls : BitVec 3) (ord : BitVec 2) (flag : Bool) (size : BitVec 2)
    (hint : BitVec 3) : Word := op ++ rd ++ rs1 ++ rs2 ++ cls ++ ord ++ b1 flag ++ size ++ hint
/-- Format V (R100). -/
def encV (op : BitVec 6) (vd vs1 vs2 : BitVec 5) (pm : BitVec 3) (fn : BitVec 8) : Word := op ++ vd ++ vs1 ++ vs2 ++ pm ++ fn
/-- Format M (R100), its last 14 bits as the instruction gives them. -/
def encM (op : BitVec 6) (acc : BitVec 2) (f1 f2 : BitVec 5) (rest : BitVec 14) : Word := op ++ acc ++ f1 ++ f2 ++ rest

/-- A bundle from its slots (R43). -/
def bundle (a b : Word) : DWord := b ++ a

/-! ### Opcode maps (R75, R102) -/

/-- Slot A of a bundle. -/
def decodeA (w : Word) : Slot :=
  match w.toNat / 2 ^ 26 with
  | 0x00 => if w = 0#32 then slotNop else slotIllegal
  | 0x01 => slotAlu (wRd w) (wRs1 w) (wRs2 w) (w.extractLsb' 0 11)
  | 0x02 => slotAddi (wRd w) (wRs1 w) (wImm w)
  | 0x03 => slotAndi (wRd w) (wRs1 w) (wImm w)
  | 0x04 => slotOri (wRd w) (wRs1 w) (wImm w)
  | 0x05 => slotXori (wRd w) (wRs1 w) (wImm w)
  | 0x06 => slotSlti (wRd w) (wRs1 w) (wImm w)
  | 0x07 => slotSltiu (wRd w) (wRs1 w) (wImm w)
  | 0x08 => slotSlli (wRd w) (wRs1 w) (wImm w)
  | 0x09 => slotSrli (wRd w) (wRs1 w) (wImm w)
  | 0x0A => slotSrai (wRd w) (wRs1 w) (wImm w)
  | 0x0B => slotOrsh (wRd w) (wRs1 w) (wImm w)
  | 0x10 => slotBeq (wRd w) (wRs1 w) (wImm w)
  | 0x11 => slotBne (wRd w) (wRs1 w) (wImm w)
  | 0x12 => slotBlt (wRd w) (wRs1 w) (wImm w)
  | 0x13 => slotBge (wRd w) (wRs1 w) (wImm w)
  | 0x14 => slotBltu (wRd w) (wRs1 w) (wImm w)
  | 0x15 => slotBgeu (wRd w) (wRs1 w) (wImm w)
  | 0x16 => slotJ (w.extractLsb' 0 26)
  | 0x17 => slotJal (w.extractLsb' 0 26)
  | 0x18 => slotJalr (wRd w) (wRs1 w) (wImm w)
  | 0x19 => slotLoop (wRd w) (wRs1 w) (wImm w)
  | 0x1A => slotWaitt (wRd w) (wRs1 w) (wImm w)
  | 0x1B => slotHalt (w.extractLsb' 0 26)
  | 0x1C => slotTrap (w.extractLsb' 0 26)
  | 0x1D => slotSrd (wRd w) (wRs1 w) (wImm w)
  | 0x1E => slotSwr (wRd w) (wRs1 w) (wImm w)
  | 0x20 => slotLdx (wRd w) (wRs1 w) (wImm w)
  | 0x21 => slotStx (wRd w) (wRs1 w) (wImm w)
  | 0x22 => slotLdvN 16 (wRd w) (wRs1 w) (wImm w)
  | 0x23 => slotLdvN 32 (wRd w) (wRs1 w) (wImm w)
  | 0x24 => slotLdvN 64 (wRd w) (wRs1 w) (wImm w)
  | 0x25 => slotLdvN 128 (wRd w) (wRs1 w) (wImm w)
  | 0x26 => slotStvN 16 (wRd w) (wRs1 w) (wImm w)
  | 0x27 => slotStvN 32 (wRd w) (wRs1 w) (wImm w)
  | 0x28 => slotStvN 64 (wRd w) (wRs1 w) (wImm w)
  | 0x29 => slotStvN 128 (wRd w) (wRs1 w) (wImm w)
  | 0x2A => slotLdp (wRd w) (wRs1 w) (wImm w)
  | 0x2B => slotStp (wRd w) (wRs1 w) (wImm w)
  | 0x2C => slotBldx (wRd w) (wRs1 w) (wImm w)
  | 0x2D => slotBstx (wRd w) (wRs1 w) (wImm w)
  | 0x2E => slotBldv (wRd w) (wRs1 w) (wImm w)
  | 0x2F => slotBstv (wRd w) (wRs1 w) (wImm w)
  | 0x30 => slotFld (wRd w) (wRs1 w) (wRs2 w) (wCls w) (wOrd w) (wFlag w) (wSize w) (wHint w)
  | 0x31 => storeSlot (wRd w) (wRs1 w) (wRs2 w) (wCls w) (wOrd w) (wFlag w) (wSize w) (wHint w) false
  | 0x32 => slotFat (wRd w) (wRs1 w) (wRs2 w) (wCls w) (wOrd w) (wFlag w) (wSize w) (wHint w)
  | 0x33 => slotFred (wRd w) (wRs1 w) (wRs2 w) (wCls w) (wOrd w) (wFlag w) (wSize w) (wHint w)
  | 0x34 => slotFmcs (wRd w) (wRs1 w) (wRs2 w) (wCls w) (wOrd w) (wFlag w) (wSize w) (wHint w)
  | 0x35 => slotFfence (wRd w) (wRs1 w) (wImm w)
  | 0x36 => slotOwnx (wRd w) (wRs1 w) (wRs2 w) (wCls w) (wOrd w) (wFlag w) (wSize w) (wHint w)
  | 0x37 => slotOwnr (wRd w) (wRs1 w) (wRs2 w) (wCls w) (wOrd w) (wFlag w) (wSize w) (wHint w)
  | 0x38 => slotEtag (wRd w) (wRs1 w) (wImm w)
  | 0x39 => slotEview (wRd w) (wRs1 w) (wImm w)
  | 0x3A => slotEcommit (wRd w) (wRs1 w) (wRs2 w) (wCls w) (wOrd w) (wFlag w) (wSize w) (wHint w)
  | 0x3B => slotBulkq (wRd w) (wRs1 w) (wRs2 w) (wCls w) (wOrd w) (wFlag w) (wSize w) (wHint w)
  | _ => slotIllegal

/-- Slot B of a bundle. -/
def decodeB (w : Word) : Slot :=
  match w.toNat / 2 ^ 26 with
  | 0x00 => if w = 0#32 then slotNop else slotIllegal
  | 0x01 => slotVfp (wRd w) (wRs1 w) (wRs2 w) (w.extractLsb' 8 3) (w.extractLsb' 0 8)
  | 0x02 => slotVint (wRd w) (wRs1 w) (wRs2 w) (w.extractLsb' 8 3) (w.extractLsb' 0 8)
  | 0x03 => slotVlog (wRd w) (wRs1 w) (wRs2 w) (w.extractLsb' 8 3) (w.extractLsb' 0 8)
  | 0x04 => slotVcmp (wRd w) (wRs1 w) (wRs2 w) (w.extractLsb' 8 3) (w.extractLsb' 0 8)
  | 0x05 => slotVpred (wRd w) (wRs1 w) (wRs2 w) (w.extractLsb' 8 3) (w.extractLsb' 0 8)
  | 0x06 => slotVxcn (wRd w) (wRs1 w) (wRs2 w) (w.extractLsb' 8 3) (w.extractLsb' 0 8)
  | 0x07 => slotVperm (wRd w) (wRs1 w) (wRs2 w) (w.extractLsb' 8 3) (w.extractLsb' 0 8)
  | 0x08 => slotVred (wRd w) (wRs1 w) (wRs2 w) (w.extractLsb' 8 3) (w.extractLsb' 0 8)
  | 0x09 => slotVcvt .rne false (wRd w) (wRs1 w) (wRs2 w) (w.extractLsb' 8 3) (w.extractLsb' 0 8)
  | 0x0A => slotVcvt .rtz false (wRd w) (wRs1 w) (wRs2 w) (w.extractLsb' 8 3) (w.extractLsb' 0 8)
  | 0x0B => slotVcvt .rne true (wRd w) (wRs1 w) (wRs2 w) (w.extractLsb' 8 3) (w.extractLsb' 0 8)
  | 0x20 => slotMma (w.extractLsb' 24 2) (w.extractLsb' 19 5) (w.extractLsb' 14 5) (w.extractLsb' 10 4) (w.extractLsb' 6 4)
      (w.extractLsb' 2 4) (w.extractLsb' 0 2)
  | 0x21 => slotAclr (w.extractLsb' 24 2) (w.extractLsb' 0 24)
  | 0x22 => slotAcvt (w.extractLsb' 24 2) (w.extractLsb' 19 5) (w.extractLsb' 14 5) (w.extractLsb' 10 4) (w.extractLsb' 8 2)
      (w.getLsbD 7) (w.getLsbD 6) (w.extractLsb' 4 2) (w.extractLsb' 2 2) (w.extractLsb' 0 2)
  | 0x23 => slotAwr (w.extractLsb' 24 2) (w.extractLsb' 19 5) (w.extractLsb' 14 5) (w.extractLsb' 0 14)
  | _ => slotIllegal

/-- Issue one bundle of a core, given as a word. (DESIGN CHOICE, log 7) -/
def issueWord (c : Nat) (w : DWord) (s : State) : State :=
  issueBundle c (decodeA (w.extractLsb' 0 32)) (decodeB (w.extractLsb' 32 32)) w s

end Sys2Proof.Machine
end

