-- ==== Sys2Proof/Machine/CoreControl.lean ====
section
/-! DEFINITION. Program control of a core (R57–R71): starts, stops, steps, debug access, fencing, completions of its
requests and descriptors, and the waits that end with time. -/

namespace Sys2Proof.Machine

/-! ### Commands of SITE_CORE_CTRL (R65–R69) -/

/-- Set CmdRefused of a core. -/
def refuseCore (c : Nat) (s : State) : State := s.modCore c (fun k => { k with refused := true })

/-- Begin to wake a region that is gated or retained (R66, R361). -/
def wakeRegion (r : Nat) (s : State) : State :=
  if (s.regionState r = 1 ∨ s.regionState r = 2) ∧ Tab.get 0 s.waking r = 0 then
    { s with waking := Tab.put 0 s.waking r (s.now + 1) } else s

/-- SITE_JOB_CFG of the slot a core names. -/
def jobCfg (s : State) (c : Nat) : Word := s.reg (siteBase (c / 256) + 0x100 + 8 * s.rf (coreBase c + 0x0C) 0 3)

/-- Whether a core's region is in service: MESH_REGION.Online (R158). A command that would run a core of an offline
region is refused. (DESIGN CHOICE, log 13) -/
def regionOnline (s : State) (c : Nat) : Bool := decide (s.rf (siteBase (c / 256) + 0x8030) (regionOf c % 4) 1 = 1)

/-- Whether a Start is accepted (R59, R65, R66, R158). -/
def startOk (s : State) (c : Nat) : Bool :=
  let k := s.core c
  decide (k.st = .idle ∨ k.st = .halted ∨ k.st = .trapped ∨ k.st = .stopped) && k.fe.isEmpty && k.bulk.isEmpty &&
    decide (fld (jobCfg s c) 31 1 = 1 ∧ fld (jobCfg s c) 0 12 ≠ 0) && decide (s.regionState (regionOf c) ≠ 3) &&
    regionOnline s c

/-- The architectural state of a core after a start (R42, R59, R71): SR_SEED holds the core's index (R38). (DESIGN CHOICE, log 10) -/
def startedCore (s : State) (c : Nat) : Core :=
  let k := s.core c
  { Core.reset with
    st := .running, cause := k.cause, refused := k.refused
    x := Tab.put 0 (Tab.put 0 [] 2 (s.reg64 (coreBase c + 0x18))) 1 (s.reg64 (coreBase c + 0x10))
    next := BitVec.ofNat 16 (s.rf (coreBase c + 8) 0 15)
    jobTag := BitVec.ofNat 12 (fld (jobCfg s c) 0 12)
    seed := BitVec.ofNat 64 c, gen := BitVec.ofNat 64 c
    billet := k.billet.map (fun b => { b with dst := .none }) }

/-- Start (R65, R66). -/
def startCmd (c : Nat) (s : State) : State :=
  if startOk s c then wakeRegion (regionOf c) (s.setCore c (startedCore s c)) else refuseCore c s

/-- Stop (R65, R67). -/
def stopCmd (c : Nat) (s : State) : State :=
  if (s.core c).st = .running then s.modCore c (stopCore .host) else refuseCore c s

/-- Whether Resume and Step are accepted (R65, R158). -/
def resumeOk (s : State) (c : Nat) : Bool :=
  decide ((s.core c).st = .stopped ∧ (s.core c).cause ≠ .kill) && regionOnline s c

/-- A kept FFENCE pause measures its limit afresh (R67). -/
def freshPause (now : Nat) : Option Pause → Option Pause
  | some (.ffence m _) => some (.ffence m now)
  | p => p

/-- Resume (R65, R67, R68). (DESIGN CHOICE, log 10) -/
def resumeCmd (c : Nat) (s : State) : State :=
  if resumeOk s c then
    wakeRegion (regionOf c) (s.modCore c (fun k =>
      releasePause { k with st := .running, noBreak := true, stepping := false, pause := freshPause s.now k.pause }))
  else refuseCore c s

/-- The bundle a core issues next, as fetch delivers it. (DESIGN CHOICE, log 7) -/
def nextWord (s : State) (c : Nat) : DWord :=
  let k := settle (s.core c)
  fetchWord s.mem c k k.next.toNat

/-- Whether the pipeline side takes a bank of a core's store in the next cycle, for the access of the bundle that issues
or for fetch; it goes before the engine side (R25, R26). (DESIGN CHOICE, log 12) -/
def needsBank (s : State) (c bank : Nat) : Bool :=
  let w := nextWord s c
  let a := decodeA (w.extractLsb' 0 32)
  let k := settle (s.core c)
  willIssue s c a (decodeB (w.extractLsb' 32 32)) &&
    (Nat.testBit (a.banks k) bank || (fetchLines k.next.toNat (a.banks k) k).any (fun l => decide (l % 4 = bank)))

/-- Step (R65, R67, R68): one bundle issues and the core stops, or a kept pause is evaluated once. Until the bundle's
loads, entries and region let it issue, the core runs. (DESIGN CHOICE, log 10) -/
def stepCmd (c : Nat) (s : State) : State :=
  let k := s.core c
  if !resumeOk s c then refuseCore c s
  else if k.pause.isSome then
    s.modCore c (fun k => { k with cause := .step, pause := if pauseMet k then none else k.pause })
  else
    issueWord c (nextWord s c)
      (wakeRegion (regionOf c) (s.modCore c (fun k => { k with st := .running, noBreak := true, stepping := true })))

/-- A write to SITE_CORE_CTRL (R65): more than one command bit, or a command of a fenced core, is refused. -/
def coreCtrlWrite (c : Nat) (v : Word) (s : State) : State :=
  match fld v 0 4 with
  | 0 => s
  | 1 => startCmd c s
  | 2 => stopCmd c s
  | 4 => resumeCmd c s
  | 8 => stepCmd c s
  | _ => refuseCore c s

/-- SITE_GO (R69): every armed core is started. -/
def siteGoCmd (site : Nat) (s : State) : State :=
  (List.range 256).foldl (fun t i =>
    if s.rf (siteBase site + 0x200 + 4 * (i / 32)) (i % 32) 1 = 1 then startCmd (256 * site + i) t else t) s

/-- A STOPPING core has drained (R57, R67). -/
def drainDone (c : Nat) (s : State) : State :=
  let k := s.core c
  if k.st ≠ .stopping then s
  else
    let s := s.modCore c drained
    match k.trapPend with
    | some (status, tally) => takeTrap c 0x0B 0 (s.core c).next.toNat 0 status.toNat tally.toNat s
    | none => s.modCore c (fun k => { k with st := .stopped })

/-! ### Debug access (R70) -/

/-- States in which debug access is honoured. -/
def dbgOpen (k : Core) : Bool := decide (k.st = .idle ∨ k.st = .halted ∨ k.st = .trapped ∨ k.st = .stopped)

/-- 64-bit word `i` of a vector. -/
def word64 {w : Nat} (v : BitVec w) (i : Nat) : DWord := v.extractLsb' (64 * i) 64
def setWord64 {w : Nat} (v : BitVec w) (i : Nat) (x : DWord) : BitVec w :=
  BitVec.ofNat w (v.toNat - (word64 v i).toNat * 2 ^ (64 * i) + x.toNat * 2 ^ (64 * i))

/-- A loop level from the outermost. (DEDUCED, log 9) -/
def loopLevel (k : Core) (n : Nat) : Option LoopLvl :=
  if n < k.loops.length then k.loops[k.loops.length - 1 - n]? else none

/-- The word SITE_CORE_DBG_SEL names. R70 gives Reg no range in space 6: there a Reg that is not 0 reads 0 and ignores
writes. (DESIGN CHOICE, log 10) -/
def dbgGet (s : State) (c : Nat) (sel : Word) : DWord :=
  let k := s.core c
  let r := fld sel 16 5
  let w := fld sel 0 9
  match fld sel 28 4 with
  | 0 => if w = 0 then k.getX (BitVec.ofNat 5 r) else 0
  | 1 => if w < 16 then word64 (k.getV (BitVec.ofNat 5 r)) w else 0
  | 2 => if r < 8 ∧ w < 2 then word64 (k.getP (BitVec.ofNat 3 r)) w else 0
  | 3 => if r < 4 then word64 (k.getAcc (BitVec.ofNat 2 r) (w / 16)) (w % 16) else 0
  | 4 => if w = 0 then (srRead s c k r).getD 0 else 0
  | 5 =>
    match loopLevel k r with
    | some l =>
      (match w with
       | 0 => l.remain.zeroExtend 64
       | 1 => l.first.zeroExtend 64
       | 2 => l.last.zeroExtend 64
       | _ => 0)
    | none => 0
  | 6 => if r = 0 ∧ w = 0 then BitVec.ofNat 64 (k.next.toNat % 32768) else 0
  | _ => 0

/-- A write of the word SITE_CORE_DBG_SEL names. A tally counter keeps its read-only error fields, which an SWR would
clear. (DESIGN CHOICE, log 10) -/
def dbgSet (sel : Word) (v : DWord) (k : Core) : Core :=
  let r := fld sel 16 5
  let w := fld sel 0 9
  match fld sel 28 4 with
  | 0 => if w = 0 then k.setX (BitVec.ofNat 5 r) v else k
  | 1 => if w < 16 then k.setV (BitVec.ofNat 5 r) (setWord64 (k.getV (BitVec.ofNat 5 r)) w v) else k
  | 2 => if r < 8 ∧ w < 2 then k.setP (BitVec.ofNat 3 r) (setWord64 (k.getP (BitVec.ofNat 3 r)) w v) else k
  | 3 => if r < 4 then k.setAcc (BitVec.ofNat 2 r) (w / 16) (setWord64 (k.getAcc (BitVec.ofNat 2 r) (w / 16)) (w % 16) v) else k
  | 4 =>
    if w ≠ 0 then k
    else if 0x10 ≤ r ∧ r < 0x18 then
      { k with tc := Tab.put 0 k.tc (r - 0x10) ((Tab.get 0 k.tc (r - 0x10)).extractLsb' 32 32 ++ v.extractLsb' 0 32) }
    else srWrite r v k
  | 5 =>
    match loopLevel k r with
    | some l =>
      let l' : LoopLvl := match w with
        | 0 => { l with remain := v.extractLsb' 0 32 }
        | 1 => { l with first := v.extractLsb' 0 16 }
        | 2 => { l with last := v.extractLsb' 0 16 }
        | _ => l
      { k with loops := k.loops.set (k.loops.length - 1 - r) l' }
    | none => k
  | 6 => if r = 0 ∧ w = 0 then
      { k with next := BitVec.ofNat 16 (v.toNat % 32768), edge := false, fetch := [], pause := none } else k
  | _ => k

/-- A read of SITE_CORE_DBG_DATA, low word first (R6, R70). -/
def dbgRead (c : Nat) (s : State) : DWord × State :=
  if dbgOpen (s.core c) then (dbgGet s c (s.reg (coreBase c + 0x24)), s) else (0, refuseCore c s)
/-- A write of SITE_CORE_DBG_DATA. -/
def dbgWrite (c : Nat) (v : DWord) (s : State) : State :=
  if dbgOpen (s.core c) then s.modCore c (dbgSet (s.reg (coreBase c + 0x24)) v) else refuseCore c s

/-- A write to a job slot (R60). -/
def jobSlotWrite (site n : Nat) (order : Bool) (v : Word) (s : State) : State :=
  let busy := (List.range 256).any (fun i =>
    let c := 256 * site + i
    decide (((s.core c).st = .running ∨ (s.core c).st = .stopping) ∧ s.rf (coreBase c + 0x0C) 0 3 = n))
  if busy then s.setRf (siteBase site) 0 1 1
  else s.plainWrite (siteBase site + 0x100 + 8 * n + (if order then 4 else 0)) v

/-! ### Leaving service (R62, R64, R202) -/

/-- Whether an item comes from an engine of a core of this device. -/
def fromCore (s : State) (c : Nat) (i : Item) : Bool :=
  decide (i.pkt.eng.toNat ≤ 1) && s.ownSrc i.pkt && decide (srcCoreIdx i.pkt = c)

/-- The engine entries, descriptors and counters of a source that leaves service are cleared; what its engine still held
uninjected is gone, and what is on its way completes unseen (R202). -/
def clearSource (c : Nat) (s : State) : State :=
  { s.modCore c (fun k => { k with fe := [], bulk := [], tc := [], billet := [] }) with
    pool := (s.pool.filter (fun i => !(decide (i.loc = .engine) && fromCore s c i))).map
      (fun i => if fromCore s c i then { i with dead := true } else i)
    mcasts := s.mcasts.map (fun m => (m.1, m.2.map (fun x =>
      if fromCore s c x.req then { x with req := { x.req with dead := true } } else x))) }

/-- Fence a core (R64, R139, R157). -/
def fenceCore (c : Nat) (s : State) : State :=
  if (s.core c).st = .fenced then s
  else
    let s := clearSource c (s.modCore c (fun k => { k.closeAll with st := .fenced, pause := none, trapPend := none }))
    raiseEvent 2 (8 + c / 256) 0x023 (BitVec.ofNat 32 c) (s.setRf (siteBitAddr 0x8010 c) (c % 32) 1 1)

/-! ### Completions (R32, R57) -/

/-- A completion of a core: its counter, its pause, and the trap of its job's ErrTrapMask. Of several trapping
completions counted while the core is STOPPING the first is recorded: R57 does not say which. (DESIGN CHOICE, log 10) -/
def completeTally (c tc n status : Nat) (s : State) : State :=
  let s := s.modCore c (fun k => { k with tc := Tab.put 0 k.tc tc (tcComplete (Tab.get 0 k.tc tc) n status) })
  if s.errTraps c status && decide ((s.core c).st = .running) then
    let s := s.modCore c settle
    takeTrap c 0x0B 0 (s.core c).next.toNat 0 status tc s
  else if s.errTraps c status && decide ((s.core c).st = .stopping) then
    s.modCore c (fun k => { k with trapPend := some (k.trapPend.getD (BitVec.ofNat 4 status, BitVec.ofNat 3 tc)) })
  else s.modCore c releasePause

/-- The FenceTimeout trap (R216): 1 ms on the reference since the pause began, with a counter still outstanding. (DESIGN CHOICE, log 48) -/
def fenceTimeoutNow (c : Nat) (s : State) : State :=
  let k := s.core c
  match k.pause with
  | some (.ffence m since) =>
    let out (i : Nat) : Bool := m.getLsbD i &&
      (k.fe.any (fun e => match e.2 with | some n => decide (n.tc.toNat = i) | none => false) ||
        k.bulk.any (fun d => decide (d.tc.toNat = i)))
    match (List.range 8).find? out with
    | some i =>
      if k.st = .running ∧ since + 250000 ≤ s.now then
        let s := s.modCore c settle
        takeTrap c 0x0C 0 (s.core c).next.toNat 0 0 i s
      else s
    | none => s
  | _ => s

/-- Write the low `n` bytes of loaded data to a destination; poison is all ones (R30, R82, R146). -/
def loadDest (d : Dest) (v : Nat) (k : Core) : Core :=
  match d with
  | .x r => k.setX r (BitVec.ofNat 64 v)
  | .v r n => k.setV r (BitVec.ofNat 1024 (v % 2 ^ (8 * n)))
  | _ => k

/-- The oldest served billet load returns (R83). (DEDUCED, log 53) -/
def billetReturn (c : Nat) (s : State) : State :=
  s.modCore c (fun k =>
    match k.billet.findIdx? (fun b => !b.store && b.served) with
    | none => k
    | some i =>
      match k.billet[i]? with
      | none => k
      | some b => loadDest b.dst b.data { k with billet := k.billet.eraseIdx i })

/-! ### Bulk engine (R35–R37, R219) -/

/-- Packets of a core outstanding in its bulk engine. -/
def bulkOut (k : Core) : Nat :=
  k.bulk.foldl (fun n d => n + (d.pkts.filter (fun p => decide (p.st = 1 ∨ p.st = 2))).length) 0
/-- The first packet not started, by descriptor and place. -/
def bulkNext (l : List Desc) : Option (Nat × Nat) :=
  (List.range l.length).findSome? (fun i =>
    match l[i]? with
    | some d => (match d.pkts.findIdx? (fun p => decide (p.st = 0)) with | some j => some (i, j) | none => none)
    | none => none)
/-- Change one packet of a core's descriptors. -/
def modBulk (i j : Nat) (f : BulkPkt → BulkPkt) (k : Core) : Core :=
  { k with bulk := k.bulk.modify i (fun d => { d with pkts := d.pkts.modify j f }) }
/-- The tag of a bulk packet in its core's share (R36, R177): the spec does not say which free one, the model takes the
lowest. (DESIGN CHOICE, log 18) -/
def bulkTag (k : Core) : Nat :=
  ((List.range 256).find? (fun t => !k.bulk.any (fun d => d.pkts.any (fun p =>
    decide ((p.st = 1 ∨ p.st = 2) ∧ p.tag.toNat = t))))).getD 0

/-- A packet of the bulk engine waits at its hub for its turn (R160), unless its source completes it (R172, R223). -/
def bulkSend (c : Nat) (p : Pkt) (s : State) : State :=
  let e := siteEp (c / 256)
  let it := newReq p (.hub (c / 256) (clusterOf c)) e none s
  let st := sourceStatus s p false
  if st ≠ 0 then sendBack e it (respPkt it.pkt st (ackCount it.pkt) false 0 []) (countReq p s)
  else pushReq p (.hub (c / 256) (clusterOf c)) e none s

/-- The RD of a bulk packet (R219). -/
def bulkRd (s : State) (c : Nat) (k : Core) (noComb : Bool) (tag : Nat) (p : BulkPkt) : Pkt :=
  { corePkt s c k tag 1 p.n p.src 1 false with eng := 1, p0 := 1, len := if noComb then 1 else 0 }
/-- The WR of a bulk packet (R219). -/
def bulkWr (s : State) (c : Nat) (k : Core) (tag : Nat) (p : BulkPkt) (data : List (BitVec 512)) : Pkt :=
  { corePkt s c k tag 3 0 p.dst 1 false with eng := 1, len := BitVec.ofNat 4 p.n, data := data }

/-- The engine takes the next core in turn that has a packet to start and room under its limits (R36). (DESIGN CHOICE, log 18) -/
def bulkStart (site cl : Nat) (s : State) : State :=
  let total := (List.range 16).foldl (fun n i => n + bulkOut (s.core (clusterCore site cl i))) 0
  let last := Tab.get 0 s.rr (100000 + 16 * site + cl)
  let cand := ((List.range 16).map (fun i => (last + 1 + i) % 16)).find? (fun i =>
    let k := s.core (clusterCore site cl i)
    (bulkNext k.bulk).isSome && decide (bulkOut k < 256))
  if 1024 ≤ total ∨ s.frozen = true then s
  else
    match cand with
    | none => s
    | some i =>
      let c := clusterCore site cl i
      let k := s.core c
      match bulkNext k.bulk with
      | none => s
      | some (d, j) =>
        match k.bulk[d]? with
        | none => s
        | some x =>
          match x.pkts[j]? with
          | none => s
          | some p =>
            let tag := bulkTag k
            let s := { s with rr := Tab.put 0 s.rr (100000 + 16 * site + cl) i }
            let s := s.modCore c (modBulk d j (fun q => { q with st := 1, tag := BitVec.ofNat 8 tag }))
            bulkSend c (bulkRd s c k x.noComb tag p) s

/-- Status of a finished descriptor (R37): of the first packet, in its line order, that did not complete OK. -/
def descStatus (d : Desc) : Nat :=
  match d.refused with
  | some st => st
  | none => ((d.pkts.find? (fun p => decide (p.status ≠ 0))).map BulkPkt.status).getD 0
def descDone (d : Desc) : Bool := d.refused.isSome || d.pkts.all (fun p => decide (p.st = 3))

/-- A finished descriptor of a core completes (R37): of several, the first in the order pushed; the spec orders only
their starts (R35). (DESIGN CHOICE, log 18) -/
def descComplete (c : Nat) (s : State) : State :=
  let k := s.core c
  match k.bulk.findIdx? descDone with
  | none => s
  | some i =>
    match k.bulk[i]? with
    | none => s
    | some d => completeTally c d.tc.toNat 1 (descStatus d) (s.modCore c (fun k => { k with bulk := k.bulk.eraseIdx i }))

/-- A response reaches the bulk engine: the DATA of an RD is sent on as the packet's WR, the ACK of a WR ends it
(R219). -/
def bulkResp (c : Nat) (p : Pkt) (s : State) : State :=
  let k := s.core c
  let place := (List.range k.bulk.length).findSome? (fun i =>
    match k.bulk[i]? with
    | some d => (match d.pkts.findIdx? (fun q => decide ((q.st = 1 ∨ q.st = 2) ∧ q.tag = p.tag)) with
      | some j => some (i, j) | none => none)
    | none => none)
  match place with
  | none => s
  | some (i, j) =>
    match (k.bulk[i]?).bind (fun d => d.pkts[j]?) with
    | none => s
    | some q =>
      let st := compStatus p
      if q.st = 1 ∧ st = 0 then
        bulkSend c (bulkWr s c k q.tag.toNat q p.data) (s.modCore c (modBulk i j (fun q => { q with st := 2 })))
      else s.modCore c (modBulk i j (fun q => { q with st := 3, status := st }))

end Sys2Proof.Machine
end

