-- ==== Sys2Proof/Machine/Banks.lean ====
section
/-! DEFINITION. Turns among the sources of a queue (R207), and the engine side of a core store (R25, R26, R33): what waits
for each bank, whose turn it is, and the lines an access may move. -/

namespace Sys2Proof.Machine

/-! ### Turns among sources (R207) -/

/-- Source endpoint of a request at this device: its own, or the gateway that carries it. -/
def srcPort (s : State) (p : Pkt) : Nat := if s.ownSrc p then p.srcEp.toNat else gwEp (routeGw s p.srcFab.toNat)

/-- The first of `l` in rotation after `last` among `n`. (DESIGN CHOICE, log 18) -/
def rotate (n last : Nat) (ok : Nat → Bool) : Option Nat := ((List.range n).map (fun i => (last + 1 + i) % n)).find? ok

/-- Turns of a queue among endpoints, and among the devices one of them carries. -/
def turnOfQueue (q : Nat) : Nat := 2000000 + q
def turnOfDevice (q x : Nat) : Nat := 3000000 + 32 * q + x
/-- Queue `n` of a home: 0–63 the banks of a billet, 64 the input queue; and the queue of a bank of a core store. -/
def homeQueue (e n : Nat) : Nat := 100 * e + n
def bankQueue (c b : Nat) : Nat := 10000 + 4 * c + b

/-- The item of a queue that is next among those waiting: round-robin among their sources, a gateway's turns among the
devices it carries, arrival order within one. (DESIGN CHOICE, log 18) -/
def nextInTurn (s : State) (q : Nat) (src : Item → Nat) (l : List Item) : Option Item :=
  match rotate 21 (Tab.get 0 s.rr (turnOfQueue q)) (fun x => l.any (fun i => decide (src i = x))) with
  | none => none
  | some x =>
    let m := l.filter (fun i => decide (src i = x))
    match rotate 64 (Tab.get 0 s.rr (turnOfDevice q x)) (fun f => m.any (fun i => decide (i.pkt.srcFab.toNat = f))) with
    | none => none
    | some f => m.find? (fun i => decide (i.pkt.srcFab.toNat = f))
/-- Record the turn of a served item. -/
def tookQueue (q x : Nat) (p : Pkt) (s : State) : State :=
  { s with rr := Tab.put 0 (Tab.put 0 s.rr (turnOfQueue q) x) (turnOfDevice q x) p.srcFab.toNat }

/-- The request of a home's queue that is next, and the record of its turn. -/
def nextOfHome (s : State) (e n : Nat) (l : List Item) : Option Item :=
  nextInTurn s (homeQueue e n) (fun i => srcPort s i.pkt) l
def tookTurn (e n : Nat) (p : Pkt) (s : State) : State := tookQueue (homeQueue e n) (srcPort s p) p s

/-! ### Requests at a core store -/

/-- Whether a request acts on memory. -/
def memOp (p : Pkt) : Bool := (reqTgt p).isMem && decide (p.op.toNat < 0x18)
/-- Whether a core store has moved some of a request's lines already: it is in service, and goes on. -/
def underWay (it : Item) : Bool := !memOp it.pkt && decide (it.lines ≠ 0)

/-- Whether the target's region is off its clock or in retention, and is woken for the request (R365). -/
def mustWake (s : State) (p : Pkt) : Option Nat :=
  match reqTgt p with
  | .store c _ => if s.regionState (regionOf c) = 1 ∨ s.regionState (regionOf c) = 2 then some (regionOf c) else none
  | _ => none

/-- Lines of a core store that one command moves at most: 128 B a cycle on the engine side (R25). -/
def stepLines (cap : Nat) (it : Item) : Nat := min cap (lastLine it.pkt + 1 - firstLine it.pkt - it.lines)
/-- The lines a request writes now, as keys of `wrLines`: of a core store the `n` that follow. -/
def lineKeys (n : Nat) (it : Item) : List (Nat × Nat) :=
  let p := it.pkt
  match reqTgt p with
  | .store _ _ => (List.range (stepLines n it)).map (fun i => (reqEp p, firstLine p + it.lines + i))
  | _ => (List.range (lastLine p + 1 - firstLine p)).map (fun i => (reqEp p, firstLine p + i))
/-- Whether a line it writes has been written in this tick (R204). -/
def lineBusy (s : State) (n : Nat) (it : Item) : Bool :=
  it.wr && decide (it.pkt.op.toNat < 0x18) && (lineKeys n it).any (fun l => s.wrLines.contains l)

/-! ### Banks of a core store (R25, R26) -/

/-- The packet at the head of the engine's queue of a core (R46). -/
def engineHead (s : State) (c : Nat) : Option Item :=
  s.pool.find? (fun i => decide (i.loc = .engine) && decide (i.pkt.eng.toNat = 0) && fromCore s c i)

/-- The bank an engine-side access of core `c` needs next, if it has one: for a line of a request at its store, of a block
load that has returned, or of a block store at the head of its engine. -/
def engineBank (s : State) (c : Nat) (it : Item) : Option Nat :=
  if it.held = true ∨ it.lead.isSome = true then none
  else match it.loc with
    | .store d =>
      if d = c ∧ isResp it.pkt = false then
        (match reqTgt it.pkt with | .store _ o => some ((o / 64 + it.lines) % 4) | _ => none)
      else none
    | .resp =>
      if it.pkt.eng = 0#2 ∧ srcCoreIdx it.pkt = c ∧ it.dead = false then
        (match Tab.get none (s.core c).fe it.pkt.tag.toNat with
         | some n => (match n.dst with | .block a _ => some ((a / 64 + it.lines) % 4) | _ => none)
         | none => none)
      else none
    | .engine =>
      (match it.blk, engineHead s c with
       | some (a, _), some h => if h.id = it.id then some (a / 64 % 4) else none
       | _, _ => none)
    | _ => none

/-- Whether an access could move its next line once it has its bank: a request that its store would serve (R204, R365),
or an access of the core's own engine. -/
def bankReady (s : State) (it : Item) : Bool :=
  match it.loc with
  | .store _ =>
    (underWay it || decide (itemStatus s it = 0)) && (mustWake s it.pkt).isNone && !lineBusy s 1 it
  | _ => true
/-- What waits for a bank of a core's store on the engine side. -/
def bankWait (s : State) (c b : Nat) : List Item :=
  s.pool.filter (fun i => decide (engineBank s c i = some b) && bankReady s i)
/-- A source endpoint takes its turns at a bank, and so does the core's own engine, as number 20. -/
def bankSource (s : State) (it : Item) : Nat :=
  match it.loc with | .store _ => srcPort s it.pkt | _ => 20
/-- The access a bank of a core store takes next on the engine side: R25 names queues and no order in them, so the turns
of R207 hold among the source endpoints and the core's own engine. (DESIGN CHOICE, log 18) -/
def nextAtBank (s : State) (c b : Nat) : Option Item := nextInTurn s (bankQueue c b) (bankSource s) (bankWait s c b)
/-- Whether an access is the one its bank takes next. -/
def firstAtBank (s : State) (c : Nat) (it : Item) : Bool :=
  match engineBank s c it with
  | some b => (match nextAtBank s c b with | some i => decide (i.id = it.id) | none => false)
  | none => false

/-- Lines an access may move now: one when it is its bank's turn and the pipeline leaves the bank free, and a second when
nothing else waits for that bank (R25). An access that needs no bank moves as it will. -/
def linesNow (s : State) (c : Nat) (it : Item) : Nat :=
  match engineBank s c it with
  | none => 2
  | some b =>
    if !firstAtBank s c it || needsBank s c b then 0
    else
      let n := (b + 1) % 4
      if (bankWait s c n).isEmpty && !needsBank s c n && !lineBusy s 2 it then 2 else 1
/-- Record that an access has had its turn at a bank. -/
def tookBank (c : Nat) (it : Item) (s : State) : State :=
  match engineBank s c it with
  | some b => tookQueue (bankQueue c b) (bankSource s it) it.pkt s
  | none => s

end Sys2Proof.Machine
end

