-- ==== Sys2Proof/Machine/Mesh.lean ====
section
/-! DEFINITION. The mesh and its hubs (R147–R160): routing, virtual channels, multicast copies and reduction tables. -/

namespace Sys2Proof.Machine

/-! ### Clock of a region (R344, R352) -/

/-- Frequency of a step in MHz: CLK_STEP_TABLE counts 100 MHz. -/
def stepMHz (s : State) (n : Nat) : Nat := 100 * s.rf (0x40100 + 4 * n) 0 5
/-- Frequency of a region at its current step; a region that swallows pulses passes some of every 20 (R358). -/
def regionMHz (s : State) (r : Nat) : Nat :=
  let f := stepMHz s (s.inForce r)
  match Tab.get 0 s.swallow r with
  | 0 => f
  | k => f * k / 20
/-- Cycles of a region since a tick: those that its clock would have given, less what stretching took of them (R347). -/
def regionCycles (s : State) (r since : Nat) : Nat :=
  let longer := ((Tab.get [] s.stretch r).filter (fun e => decide (since ≤ e.1))).foldl (fun n e => n + e.2) 0
  (s.now - since) * regionMHz s r / 250 - longer / 65536

/-! ### Routes (R148, R151, R154) -/

/-- Number of a port as an input of a router. -/
def portNum : RPort → Nat
  | .north => 0
  | .south => 1
  | .east => 2
  | .west => 3
  | .loc => 4
  | .down => 5

/-- Whether a request stays in the mesh of a router's anvil (R148): its target is a core store there, and it is no hearth
multicast, whose members R94 gives. -/
def staysInMesh (s : State) (c : Nat) (p : Pkt) : Bool :=
  s.ownDst p && !isHearthMc p && (match reqTgt p with | .store d _ => decide (d / 256 = c / 256) | _ => false)

/-- Output at router `c` towards core `d`: along the row, then along the column (R151). -/
def xyPort (c d : Nat) : RPort :=
  if c % 16 < d % 16 then .east
  else if d % 16 < c % 16 then .west
  else if c % 256 / 16 < d % 256 / 16 then .south
  else if d % 256 / 16 < c % 256 / 16 then .north
  else .loc

/-- Whether a response is for the fabric engine of a core of a site. -/
def forCoreOf (s : State) (site : Nat) (p : Pkt) : Bool :=
  isResp p && s.ownSrc p && decide (p.eng = 0#2 ∧ p.srcEp.toNat = siteEp site)
/-- Output a packet takes at router `c`: a multicast copy is delivered at a member before it travels on. -/
def outPort (s : State) (c : Nat) (p : Pkt) : RPort :=
  if isResp p then (if forCoreOf s (c / 256) p then xyPort c (srcCoreIdx p) else .down)
  else if isMeshMc p then
    let pos := mcPos p c
    if p.members.getLsbD pos then .loc
    else if p.members.toNat / 2 ^ pos = 0 then (if p.mcKind.toNat = 0 then .west else .north)
    else (if p.mcKind.toNat = 0 then .east else .south)
  else if !staysInMesh s c p then .down
  else match reqTgt p with
    | .store d _ => xyPort c d
    | _ => .down

/-- Whether an item is a mesh multicast in its source's engine. -/
def mcSource (it : Item) : Bool := decide (it.loc = .engine) && isMcs it.pkt && decide (it.pkt.mcKind.toNat ≤ 1)
/-- The members of a multicast at its source that an output serves: those on its side, or its own position (R154). -/
def sideMask (p : Pkt) (c : Nat) (port : RPort) : Nat :=
  let m := p.members.toNat % 2 ^ 16
  let pos := mcPos p c
  match port, p.mcKind.toNat with
  | .loc, _ => m / 2 ^ pos % 2 * 2 ^ pos
  | .east, 0 => m / 2 ^ (pos + 1) * 2 ^ (pos + 1)
  | .west, 0 => m % 2 ^ pos
  | .south, 1 => m / 2 ^ (pos + 1) * 2 ^ (pos + 1)
  | .north, 1 => m % 2 ^ pos
  | _, _ => 0
/-- Whether an item wants an output of router `c`; a multicast that names no member ends at its own router. -/
def wantsPort (s : State) (c : Nat) (port : RPort) (it : Item) : Bool :=
  if mcSource it then
    decide (sideMask it.pkt c port ≠ 0) || (decide (port = .loc) && decide (it.pkt.members.toNat % 2 ^ 16 = 0))
  else decide (outPort s c it.pkt = port)

/-- The router an output leads to, and its input there. -/
def neighbour (c : Nat) : RPort → Nat × Nat
  | .north => (c - 16, 1)
  | .south => (c + 16, 0)
  | .east => (c + 1, 3)
  | .west => (c - 1, 2)
  | _ => (c, 4)

/-! ### Inputs and turns (R150, R151) -/

/-- What waits for an input of a router behind what is in it: at the local port the answers of the core's store and of the
router itself, then the head of the engine's queue (R46); at the down port the answers of its hub (R160). (DESIGN CHOICE,
log 13) -/
def inputNext (s : State) (c inp vc : Nat) : Option Item :=
  let answer (l : Loc) (ok : Item → Bool) : Option Item :=
    s.pool.find? (fun i => decide (i.loc = l) && isResp i.pkt && decide (pktVc i.pkt = vc) && ok i)
  match inp with
  | 4 =>
    (match answer (.store c) (fun _ => true) with
     | some i => some i
     | none => (engineHead s c).filter (fun i => !i.held && decide (pktVc i.pkt = vc)))
  | 5 => answer (.hub (c / 256) (clusterOf c)) (fun i => forCoreOf s (c / 256) i.pkt && decide (srcCoreIdx i.pkt = c))
  | _ => none
/-- The packet at the head of an input on a virtual channel. -/
def inputHead (s : State) (c inp vc : Nat) : Option Item :=
  match s.pool.find? (fun i => decide (i.loc = .mesh c inp) && decide (pktVc i.pkt = vc)) with
  | some i => some i
  | none => inputNext s c inp vc

/-- Cycles of its cluster's region that a parked item has waited, against RedHold (R155). -/
def redHeld (s : State) (site c : Nat) (it : Item) : Bool :=
  decide (s.rf (siteBase site + 0x8000) 0 6 ≤ regionCycles s (regionOf c) it.since)
/-- The packet that takes turns for an output on a virtual channel as an input's head, if it wants that output; number 6
stands for the FREDs parked at the output whose hold is over (R155). -/
def headFor (s : State) (c : Nat) (port : RPort) (inp vc : Nat) : Option Item :=
  if inp = 6 then
    s.pool.find? (fun i => decide (i.loc = .parked c) && decide (pktVc i.pkt = vc) && redHeld s (c / 256) c i && wantsPort s c port i)
  else (inputHead s c inp vc).filter (wantsPort s c port)

/-- The inputs whose heads want an output on a virtual channel. -/
def wanting (s : State) (c : Nat) (port : RPort) (vc : Nat) : List Nat :=
  (List.range 7).filter (fun inp => (headFor s c port inp vc).isSome)

/-- Round-robin state of an output: the last input served on a virtual channel, and the last data channel. -/
def rrKey (c : Nat) (port : RPort) (k : Nat) : Nat := 200000 + (c * 6 + portNum port) * 4 + k

/-- Whether the next input has room for the packet (R151). -/
def roomAt (s : State) (c inp vc n : Nat) : Bool :=
  decide (((s.pool.filter (fun i => decide (i.loc = .mesh c inp) && decide (pktVc i.pkt = vc))).foldl
    (fun t i => t + pktFlits i.pkt) 0) + n ≤ 9)

/-- Whether an answer of a core's store or router waits to enter it. -/
def storeAnswers (s : State) (c : Nat) : Bool := s.pool.any (fun i => decide (i.loc = .store c) && isResp i.pkt)
/-- Whether an output can take a packet: core and hub take what comes, but a store takes a data request only when it has
room to send the response, none of its own waiting there; a router needs room at its input (R151, R152). (DESIGN CHOICE,
log 13) -/
def outRoom (s : State) (c : Nat) (port : RPort) (it : Item) : Bool :=
  match port with
  | .loc => decide (pktVc it.pkt ≠ 1) || !storeAnswers s c
  | .down => true
  | p => roomAt s (neighbour c p).1 (neighbour c p).2 (pktVc it.pkt) (pktFlits it.pkt)

/-- Whether a packet of a virtual channel could take an output now: an input wants it and the next one has room. -/
def canGo (s : State) (c : Nat) (port : RPort) (vc : Nat) : Bool :=
  (wanting s c port vc).any (fun inp => match headFor s c port inp vc with | some i => outRoom s c port i | none => false)

/-- The input that goes next on an output and virtual channel (R150). (DESIGN CHOICE, log 18) -/
def nextInput (s : State) (c : Nat) (port : RPort) (vc : Nat) : Option Nat :=
  let w := wanting s c port vc
  let blocked :=
    decide (vc ≠ 0) && (canGo s c port 0 ||
      (decide (Tab.get 0 s.rr (rrKey c port 3) = vc) && canGo s c port (3 - vc)))
  if blocked then none
  else
    let last := Tab.get 0 s.rr (rrKey c port vc)
    ((List.range 7).map (fun i => (last + 1 + i) % 7)).find? (fun i => w.contains i)

/-! ### Leaving a router -/

/-- A new copy of an item of a multicast. -/
def addCopy (it : Item) (l : Loc) (p : Pkt) (ctx : Nat) (s : State) : State :=
  { s with
    pool := s.pool ++ [s.arriving { it with id := s.nextId, loc := l, pkt := p, ctx := some ctx, held := false }]
    nextId := s.nextId + 1 }

/-- Open a multicast with `n` members to answer. -/
def openMcast (it : Item) (n : Nat) (fenced : Bool) (st : List Nat) (s : State) : State :=
  { s with mcasts := Tab.put none s.mcasts it.id (some ⟨it, n, 0, fenced, st⟩) }

def popcount (m n : Nat) : Nat := ((List.range n).filter (fun i => Nat.testBit m i)).length

/-- Count FENCED answers of a router (R157, R170). -/
def countFenced (c : Nat) (s : State) : State := s.incRf (siteBase (c / 256) + 0x8044) 0 32 1

/-- A request at a core's store is checked there, unless it must wait for earlier ones (R188, R191). -/
def arriveStore (id : Nat) (s : State) : State :=
  match s.item id with
  | some it => if mustWait s it then s.modItem id (fun i => { i with held := true }) else checkItem id s
  | none => s

/-- Status with which the router of a fenced core answers a request (R157, R183). -/
def closedStatus (s : State) (p : Pkt) : Nat :=
  firstStatus ([2] ++ (if extentBad p then [5] else []) ++ (if s.armed p.job.toNat then [9] else []))
/-- MESH_FENCED_ANS counts an answer of FENCED. -/
def noteClosed (c st : Nat) (s : State) : State := if st = 2 then countFenced c s else s

/-- The member of a mesh multicast at router `c` takes its copy (R154, R157). -/
def memberHere (c : Nat) (it : Item) (ctx : Nat) (s : State) : State :=
  let p := meshPkt it.pkt c
  if (s.core c).st = .fenced then noteClosed c (closedStatus s p) (memberAnswer ctx 1 (closedStatus s p) s)
  else arriveStore s.nextId (addCopy it (.store c) p ctx s)

/-- A copy in the mesh is delivered at a member, and the rest travels on (R154). -/
def deliverCopy (c : Nat) (it : Item) (s : State) : State :=
  let rest := it.pkt.members &&& ~~~(1#18 <<< mcPos it.pkt c)
  memberHere c it (it.ctx.getD it.id) (if rest = 0#18 then s.dropItem it.id
    else s.modItem it.id (fun i => { i with pkt := { i.pkt with members := rest } }))

/-- A mesh multicast leaves its source through an output as the copy of the members it serves; the first opens its count,
the copy opens its direction's, and the rest waits for the other outputs (R154). -/
def sendCopy (c : Nat) (port : RPort) (it : Item) (s : State) : State :=
  let m := it.pkt.members.toNat % 2 ^ 16
  let part := sideMask it.pkt c port
  if m = 0 then respondWith (siteEp (c / 256)) it 0 0 false 0 [] s
  else
    let ctx := it.ctx.getD it.id
    let s := if it.ctx.isSome then s else openMcast it (popcount m 16) false [] s
    let s := if m = part then s.dropItem it.id
      else s.modItem it.id (fun i => { i with ctx := some ctx, pkt := { i.pkt with members := BitVec.ofNat 18 (m - part) } })
    match port with
    | .loc => memberHere c it ctx s
    | p =>
      let copy := { it.pkt with members := BitVec.ofNat 18 part }
      openMcast { it with id := s.nextId, ctx := some ctx, pkt := copy } (popcount part 16) false []
        (addCopy it (.mesh (neighbour c p).1 (neighbour c p).2) copy s.nextId s)

/-- A unicast request reaches the local port of its target's router (R157). -/
def deliverLocal (c : Nat) (it : Item) (s : State) : State :=
  if (s.core c).st = .fenced then
    noteClosed c (closedStatus s it.pkt) (respond (siteEp (c / 256)) it (closedStatus s it.pkt) s)
  else arriveStore it.id (s.moveItem it (.store c))

/-- A response reaches the router of its requester: the completion of a multicast's direction is added at the source router
(R154); a fenced core's are discarded (R157). -/
def deliverResp (c : Nat) (it : Item) (s : State) : State :=
  if let some x := it.ctx then
    addAnswers x (popcount it.pkt.members.toNat 16) (compCount it.pkt) (decide (it.pkt.comp.toNat / 16 % 2 = 1)) (compStatus it.pkt)
      (s.dropItem it.id)
  else if (s.core c).st = .fenced then s.dropItem it.id else s.moveItem it .resp

/-! ### Reduction tables (R155, R156) -/

/-- Key of a combinable FRED; none for any other packet. -/
def redKey (p : Pkt) : Option (Nat × Nat × Nat × Nat × Nat) :=
  if isFred p && decide (p.redId.toNat ≠ 0 ∧ p.ord.toNat = 1) then
    some (p.redId.toNat, p.dst.toNat, p.op.toNat, p.var.toNat, p.job.toNat) else none

/-- A combinable packet at an output merges, parks, or passes; none when it passes or does not combine (R155). One of a
tag armed for JOB_KILL is answered there (R223). (DEDUCED, log 15) -/
def tryReduce (site : Nat) (place : Loc) (it : Item) (s : State) : Option State :=
  let cnt := siteBase site + 0x8040
  match redKey it.pkt with
  | none => none
  | some k =>
    if s.armed it.pkt.job.toNat then some (respond (siteEp site) it (rankStatus s it.pkt 9) s)
    else if s.rf (siteBase site + 0x8000) 15 1 = 0 then none
    else
      match s.pool.find? (fun i => decide (i.loc = place) && decide (redKey i.pkt = some k)) with
      | some q =>
        let s := s.modItem q.id (fun i => { i with pkt := { i.pkt with
          data := mergeData i.pkt it.pkt, members := i.pkt.members + it.pkt.members } })
        some ((respondWith (siteEp site) it 0 1 false 0 [] s).incRf cnt 0 16 1)
      | none =>
        if (s.pool.filter (fun i => decide (i.loc = place))).length < 16 then some (s.moveItem it place) else none

/-- Whether a combinable packet passes for want of an entry, which MESH_RED_CNT.Full counts. -/
def passesFull (site : Nat) (it : Item) (s : State) : State :=
  if (redKey it.pkt).isSome && decide (s.rf (siteBase site + 0x8000) 15 1 = 1) then
    s.incRf (siteBase site + 0x8040) 16 16 1 else s

/-- A packet goes down to its cluster hub, where it waits for its turn (R160); a response notes its down port in `via`. -/
def enterHub (c : Nat) (it : Item) (s : State) : State :=
  if isResp it.pkt then s.moveItem { it with via := c } (.hub (c / 256) (clusterOf c))
  else match tryReduce (c / 256) (.hubParked (c / 256) (clusterOf c)) it s with
  | some s1 => s1
  | none => (passesFull (c / 256) it s).moveItem it (.hub (c / 256) (clusterOf c))

/-- A packet leaves router `c` through its output, with no more combining there. -/
def passOut (c : Nat) (it : Item) (s : State) : State :=
  match outPort s c it.pkt with
  | .loc =>
    if isResp it.pkt then deliverResp c it s else if isMeshMc it.pkt then deliverCopy c it s else deliverLocal c it s
  | .down => enterHub c it s
  | p => s.moveItem it (.mesh (neighbour c p).1 (neighbour c p).2)

/-- The lines of a block store are read as its packet is injected, as the banks give them (R25, R89): at most `cap` now. -/
def readBlock (cap c : Nat) (it : Item) (s : State) : State :=
  match it.blk with
  | none => s
  | some (a, n) =>
    let m := min cap n
    if m = 0 ∧ n ≠ 0 then s
    else
      (tookBank c it s).modItem it.id (fun i => { i with
        blk := if n = m then none else some (a + 64 * m, n - m), cyc := (s.core c).cycles
        pkt := { i.pkt with data := i.pkt.data ++ (List.range m).map (fun j => storeLine s.mem c (a / 64 + j)) } })

/-- A packet takes its turn at an output of a router: a multicast's copy leaves, a combinable FRED merges or parks, and any
other passes (R150, R154, R155). -/
def sendOn (c : Nat) (port : RPort) (inp vc : Nat) (it : Item) (s : State) : State :=
  let s := { s with rr := Tab.put 0 (Tab.put 0 s.rr (rrKey c port vc) inp) (rrKey c port 3)
                            (if vc = 0 then Tab.get 0 s.rr (rrKey c port 3) else vc) }
  if inp = 6 then passOut c it s
  else if mcSource it then sendCopy c port it s
  else
    match tryReduce (c / 256) (.parked c) it s with
    | some s1 => s1
    | none => passOut c it (passesFull (c / 256) it s)
/-- One packet moves through an output of a router, or lines of a block store are read for it (R150, R151, R155). (DESIGN
CHOICE, log 13) -/
def forwardOne (c : Nat) (port : RPort) (vc : Nat) (s : State) : State :=
  match nextInput s c port vc with
  | none => s
  | some inp =>
    match headFor s c port inp vc with
    | none => s
    | some it =>
      if !outRoom s c port it then s
      else if it.blk.isSome then readBlock (linesNow s c it) c it s
      else sendOn c port inp vc it s

/-- A parked FRED leaves its router in its turn at the output, or its hub (R150, R155). -/
def leavePark (it : Item) (s : State) : State :=
  match it.loc with
  | .parked c =>
    let port := outPort s c it.pkt
    let first := match headFor s c port 6 (pktVc it.pkt) with | some i => decide (i.id = it.id) | none => false
    if first && decide (nextInput s c port (pktVc it.pkt) = some 6) && outRoom s c port it then
      sendOn c port 6 (pktVc it.pkt) it s else s
  | .hubParked site cl => if redHeld s site (srcCoreIdx it.pkt) it then s.moveItem it (.hub site cl) else s
  | _ => s

/-- The last member of a copy's direction. -/
def lastMember (p : Pkt) : Nat :=
  let l := meshMembers p
  let i := if l.all (fun i => decide (mcPos p (srcCoreIdx p) < i)) then l.getLast? else l.head?
  mcCore p (i.getD 0)
/-- The members of a multicast have answered: the last member's router sends its direction's one completion to the source
router, and there they make one with the delivered count (R154, R183, R215). -/
def mcastDone (ctx : Nat) (s : State) : State :=
  match Tab.get none s.mcasts ctx with
  | some m =>
    if m.waiting = 0 then
      let s := { s with mcasts := Tab.put none s.mcasts ctx none }
      if m.req.ctx.isSome then
        let e := siteEp (srcCoreIdx m.req.pkt / 256)
        sendBack e { m.req with loc := .store (lastMember m.req.pkt) }
          (respPkt m.req.pkt (firstStatus m.statuses) m.count m.fenced 0 []) s
      else respondWith m.req.via { m.req with ctx := none } (firstStatus m.statuses) m.count m.fenced 0 [] s
    else s
  | none => s

/-- ROUTER_FORWARD (R151). -/
def execRouterForward (c : CoreId) (port : RPort) (vc : Fin 3) (s : State) : Host.Outcome State Fault Refusal :=
  .next (if s.quench then s else forwardOne c port vc s)

/-- REDHOLD_EXPIRY (R155). -/
def execRedholdExpiry (id : Nat) (s : State) : Host.Outcome State Fault Refusal :=
  .next (if s.quench then s else match s.item id with | some it => leavePark it s | none => s)

/-- MULTICAST_ANSWER (R154, R240). -/
def execMulticastAnswer (ctx : Nat) (s : State) : Host.Outcome State Fault Refusal :=
  .next (if s.quench then s else mcastDone ctx s)

/-- ROUTER_FAULT (R158): the region goes out of the healthy map and the site's function offline. -/
def execRouterFault (r : RegionId) (s : State) : Host.Outcome State Fault Refusal :=
  let site := r.val / 4
  let q := r.val % 4
  let b := siteBase site + 0x8030
  .next (if s.quench then s else raiseEvent 1 (8 + site) 0x022 (BitVec.ofNat 32 (1 + site)) ((s.setRf b q 1 0).setRf b (4 + q) 1 1))

end Sys2Proof.Machine
end

