-- ==== Sys2Proof/Machine/Wires.lean ====
section
/-! DEFINITION. Die links (R303, R309, R322), and the electrical bundles at work: unit slots, message
classes and credits, link control units, check windows and replay (R304, R305, R307, R308). -/

namespace Sys2Proof.Machine

/-! ### Geometry (R303, R309, R322) -/

def linkData (kind : Nat) : Nat := match kind with | 0 => 64 | 1 => 256 | _ => 8
def linkTotal (kind : Nat) : Nat := match kind with | 0 => 68 | 1 => 272 | _ => 9
def linkHalf (kind : Nat) : Nat := linkData kind / 2
/-- Whether a kind and index name a link (R322). -/
def linkExists (kind i : Nat) : Bool :=
  match kind with
  | 0 =>
    let e := i / 64
    (decide (e < 20) && (isStack e || decide (e = 4)) && decide (i % 32 < 16)) || (decide (e < 20) && isCruc e)
  | 1 => decide (i < 256)
  | 2 => decide (i < 912)
  | 3 => decide (i / 128 < 20) && decide (i % 128 < bundlesOf (i / 128))
  | _ => false

/-- Endpoint of a link's die side. -/
def linkEp (kind i : Nat) : Nat :=
  match kind with
  | 0 => i / 64
  | 1 => siteEp (i / 32)
  | 2 => ownerOf i
  | _ => i / 128
/-- Function a link's failure takes offline; 0 stands for the tongs (R316). -/
def linkFunc (kind i : Nat) : Nat := funcOfEp (linkEp kind i)

/-! ### Lanes of a link -/

def State.link (s : State) (k : Nat) : Link := Tab.get Link.reset s.links k
def State.setLink (s : State) (k : Nat) (x : Link) : State := { s with links := Tab.put Link.reset s.links k x }

/-- Physical lane of a logical lane under a map. -/
def physIn (m : List (Nat × Nat)) (i : Nat) : Nat :=
  match m.find? (fun e => decide (e.1 = i)) with | some e => e.2 | none => i
/-- Physical lanes not good: failed, or replaced at assembly. -/
def badLane (x : Link) (p : Nat) : Bool := x.failed.contains p || x.fused.any (fun e => decide (e.1 = p))
def goodLanes (kind : Nat) (x : Link) : Nat := ((List.range (linkTotal kind)).filter (fun p => !badLane x p)).length
/-- Logical lanes whose physical lane is good and not out for a time. -/
def goodLogical (kind : Nat) (x : Link) : List Nat :=
  (List.range (linkData kind)).filter (fun i => !x.failed.contains (physIn x.map i) && !x.outs.contains (physIn x.map i))
/-- Free spares: good lanes past the data lanes that the map does not use, in ascending order. -/
def freeSpares (kind : Nat) (x : Link) : List Nat :=
  (List.range (linkTotal kind)).filter (fun p =>
    decide (linkData kind ≤ p) && !badLane x p && !x.outs.contains p && !x.map.any (fun e => decide (e.2 = p)))
/-- Whether a logical lane carries traffic at the current width. -/
def laneActive (kind : Nat) (x : Link) (i : Nat) : Bool :=
  match x.width with
  | 0 => decide (i < linkData kind)
  | 1 => x.picked.contains i
  | _ => false

/-! ### Electrical bundles (R304–R308) -/

/-- Unit slots of a bundle in a tick of 4 ns, and of a check window: 2 or 8 units per ns at full width. -/
def wireRate (s : State) (k : Nat) : Nat :=
  if !s.linksUp then 0
  else match keyKind k, (s.link k).width with
    | 0, 0 => 8
    | 0, 1 => 4
    | 1, 0 => 32
    | 1, 1 => 16
    | _, _ => 0
def windowSlots (s : State) (k : Nat) : Nat := max 1 (4 * wireRate s k)

/-- Credits of a channel, in units of 64 B (R307). -/
def chanCredits (ch : Nat) : Nat := match ch with | 0 => 8 | 1 => 8 | 2 => 16 | 5 => 4 | _ => 36
/-- Channel of a packet. -/
def chanOf (it : Item) : Nat := if it.own then 1 else 2 + pktVc it.pkt
/-- The packet at the head of a channel: the oldest that has units to send. -/
def wireHead (s : State) (k ch : Nat) : Option Item :=
  s.pool.find? (fun i => decide (i.loc = .wire k ∧ chanOf i = ch ∧ i.lines < pktFlits i.pkt))
/-- The Memory packet that is part sent: units of other Memory channels wait for its end (R308). -/
def partSent (s : State) (k : Nat) (w : Wire) : Option Nat :=
  w.busy.filter (fun id => s.pool.any (fun i => decide (i.id = id ∧ i.loc = .wire k)))
/-- Whether a channel has a unit ready and a credit for it. -/
def unitReady (s : State) (k : Nat) (w : Wire) (ch : Nat) : Bool :=
  (if ch = 0 ∨ ch = 5 then decide (Tab.get 0 w.extra ch ≠ 0) else (wireHead s k ch).isSome) &&
    decide (Tab.get 0 w.used ch < chanCredits ch)
/-- Whether the next slot can take a unit of a channel. -/
def unitOk (s : State) (k : Nat) (w : Wire) (ch : Nat) : Bool :=
  unitReady s k w ch &&
    (if 2 ≤ ch ∧ ch ≤ 4 then
      (match partSent s k w with
       | none => true
       | some id => (wireHead s k ch).any (fun i => decide (i.id = id)))
     else true)
/-- The classes in their order: Events, Ownership, Memory with VC0 first and the data channels by turns, Debug (R150,
R308). -/
def chanOrder (w : Wire) : List Nat := [0, 1, 2] ++ (if w.turn = 3 then [4, 3] else [3, 4]) ++ [5]
/-- The channel of the next unit: one that has waited 64 slots, else the first in order (R308). (DESIGN CHOICE, log 23) -/
def nextUnit (s : State) (k : Nat) (w : Wire) : Option Nat :=
  let l := (chanOrder w).filter (unitOk s k w)
  match l.find? (fun ch => decide (64 ≤ Tab.get 0 w.waited ch)) with
  | some ch => some ch
  | none => l.head?

/-- A slot has passed: channels with a unit and a credit have waited for it, but not the one served. -/
def ageChans (s : State) (k : Nat) (w : Wire) (served : Option Nat) : Tab Nat :=
  (List.range 6).foldl (fun t ch =>
    Tab.put 0 t ch (if unitReady s k w ch && decide (served ≠ some ch) then Tab.get 0 w.waited ch + 1 else 0)) w.waited
/-- A control unit returns the credits the receiver has freed (R304). (DESIGN CHOICE, log 23) -/
def controlUnit (w : Wire) : Wire :=
  { w with slot := w.slot + 1, owed := []
           used := w.owed.foldl (fun t e => Tab.put 0 t e.1 (Tab.get 0 t e.1 - e.2)) w.used }
/-- A unit of a channel is sent. -/
def sendUnit (k ch : Nat) (s : State) : State :=
  let w := s.wire k
  let w := { w with slot := w.slot + 1, waited := ageChans s k w (some ch), used := Tab.put 0 w.used ch (Tab.get 0 w.used ch + 1) }
  if ch = 0 ∨ ch = 5 then
    s.setWire k { w with extra := Tab.put 0 w.extra ch (Tab.get 0 w.extra ch - 1), buf := w.buf ++ [⟨w.slot - 1, ch, 0, 0⟩] }
  else
    match wireHead s k ch with
    | none => s
    | some it =>
      let last := decide (it.lines + 1 = pktFlits it.pkt)
      let w := { w with buf := w.buf ++ [⟨w.slot - 1, ch, it.id, it.lines⟩]
                        busy := if ch = 1 then w.busy else if last then none else some it.id
                        turn := if ch = 3 ∨ ch = 4 then ch else w.turn }
      { s.setWire k w with carried := Tab.put 0 s.carried (linkEp (keyKind k) (keyIndex k)) (s.now + 1) }.modItem it.id
        (fun i => { i with lines := i.lines + 1 })
/-- One unit slot of a bundle: the control unit, a unit sent again, a unit of the channel whose turn it is, or none. -/
def wireSlot (k : Nat) (s : State) : State :=
  let w := s.wire k
  if w.slot % 16 = 15 then s.setWire k (controlUnit w)
  else
    match w.resend with
    | u :: rest =>
      let s := if 1 ≤ u.ch ∧ u.ch ≤ 4 then { s with carried := Tab.put 0 s.carried (linkEp (keyKind k) (keyIndex k)) (s.now + 1) } else s
      s.setWire k { w with slot := w.slot + 1, resend := rest, buf := w.buf ++ [{ u with slot := w.slot }]
                           waited := ageChans s k w none }
    | [] =>
      match nextUnit s k w with
      | some ch => sendUnit k ch s
      | none => s.setWire k { w with slot := w.slot + 1, waited := ageChans s k w none }
def wireSlots (k : Nat) : Nat → State → State
  | 0, s => s
  | n + 1, s => wireSlots k n (wireSlot k s)

/-- The receiver passes the check windows that have ended: it sinks their Events, VC0 and Debug units, and the replay
buffer keeps the last 8 windows (R304, R305, R308). -/
def passWindows (k : Nat) (s : State) : State :=
  let w := s.wire k
  let n := windowSlots s k
  let edge := w.slot / n * n
  if edge ≤ w.passed then s
  else
    let units (ch : Nat) : Nat := (w.buf.filter (fun u => decide (u.ch = ch ∧ w.passed ≤ u.slot ∧ u.slot < edge))).length
    s.setWire k { w with passed := edge, again := 0, buf := w.buf.filter (fun u => decide (edge ≤ u.slot + 8 * n))
                         owed := [0, 2, 5].foldl (fun t ch => Tab.put 0 t ch (Tab.get 0 t ch + units ch)) w.owed }
/-- The receiver finds a window wrong: it discards every unit from the first of it on, and they are sent again in order
(R305). -/
def discardWindow (k : Nat) (s : State) : State :=
  let w := s.wire k
  let n := windowSlots s k
  let edge := (w.slot / n + 1) * n
  s.setWire k { w with slot := edge, passed := edge, again := w.again + 1
                       resend := w.buf.filter (fun u => decide (w.passed ≤ u.slot)) ++ w.resend
                       buf := w.buf.filter (fun u => decide (u.slot < w.passed)) }
/-- Whether every unit of a packet has passed its check window. -/
def received (s : State) (k : Nat) (it : Item) : Bool :=
  let w := s.wire k
  decide (it.loc = .wire k ∧ it.lines = pktFlits it.pkt) &&
    !(w.resend ++ w.buf.filter (fun u => decide (w.passed ≤ u.slot))).any (fun u => decide (u.id = it.id ∧ 1 ≤ u.ch ∧ u.ch ≤ 4))
/-- A received packet leaves the receiver's buffer: its credits are owed back, unless its units were sunk as they came. -/
def freeUnits (k : Nat) (it : Item) (s : State) : State :=
  let w := s.wire k
  if chanOf it = 2 then s
  else s.setWire k { w with owed := Tab.put 0 w.owed (chanOf it) (Tab.get 0 w.owed (chanOf it) + pktFlits it.pkt) }
/-- Bundles with something to carry. -/
def busyWires (s : State) : List Nat :=
  s.pool.foldl (fun l i => match i.loc with | .wire k => setAdd l k | _ => l)
    ((s.wires.filter (fun e => !(e.2.used.isEmpty && e.2.resend.isEmpty && e.2.extra.isEmpty && decide (e.2.again = 0)) ||
      e.2.buf.any (fun u => decide (e.2.passed ≤ u.slot)))).map (fun e => e.1))
/-- A packet goes onto a bundle. -/
def toWire (k : Nat) (it : Item) (s : State) : State := s.moveItem { it with lines := 0 } (.wire k)

end Sys2Proof.Machine
end

