-- ==== Sys2Proof/Machine/Lanes.lean ====
section
/-! DEFINITION. The combs' roles and quiet gaps (R323, R332, R333), optical lanes and their figures (R334, R340), and the
calibration image (R337). -/

namespace Sys2Proof.Machine

/-! ### Combs and roles (R323, R332, R333) -/

/-- Register of a comb position, its state, and its role (R340). -/
def combPos (t p : Nat) : Nat := 0xA1010 + 0x100 * t + 4 * p
def combState (s : State) (t p : Nat) : Nat := s.rf (combPos t p) 29 3
def combRole (s : State) (t p : Nat) : Nat := s.rf (combPos t p) 26 3
/-- Whether a tile's role has gone dark with no comb in its place (R333). -/
def roleDark (s : State) (t role : Nat) : Bool :=
  (List.range 10).any (fun p => decide (combState s t p = 4 ∧ combRole s t p = role)) &&
    !(List.range 10).any (fun p => decide (combState s t p = 0 ∧ combRole s t p = role))
/-- Role that lights a transmit bundle, and a port. -/
def bundleRole (g : Nat) : Nat := (g - firstOf (ownerOf g / 5)) % 6
def portRole (p : Nat) : Nat := if p < 6 then 6 else 7
/-- Whether a transmit bundle has no light; whether an endpoint's loop transmitters have lost both their combs. -/
def bundleDark (s : State) (g : Nat) : Bool := roleDark s (ownerOf g / 5) (bundleRole g)
def loopsDark (s : State) (e : Nat) : Bool := roleDark s (e / 5) 6 && roleDark s (e / 5) 7
/-- Whether a tile's role lies in its quiet gap, or would while `dur` ticks pass (R332). -/
def inGap (s : State) (t role dur : Nat) : Bool :=
  match Tab.get none s.swaps t with
  | some w => (match w.gap with
    | some n => decide (w.role = role ∧ n < s.now + dur + 1 ∧ s.now < n + 16)
    | none => false)
  | none => false

/-! ### Lanes (R340) -/

/-- Whether OPT_SEL's kind, index and lane name a lane. -/
def olaneOk (kind i lane : Nat) : Bool :=
  match kind with
  | 2 => decide (i < 912 ∧ lane < 9)
  | 3 => linkExists 3 i && decide (lane < 9)
  | 5 => decide (i < 48)
  | 6 => decide (i < 48)
  | 7 => decide (i < 40 ∧ lane = 0)
  | _ => false
def olaneKey (kind i lane : Nat) : Nat := (kind * 8192 + i) * 32 + lane
def laneKey (l : OLane) : Nat := olaneKey l.kind.toNat l.index.toNat l.lane.toNat

/-- Whether a lane's light is out (R323, R333): a receive bundle's when none that reaches it has light. -/
def laneDark (s : State) (kind i : Nat) : Bool :=
  match kind with
  | 2 => bundleDark s i
  | 3 => (List.range 912).all (fun g => decide (ownerOf g = i / 128 ∨ rxOf g (i / 128) ≠ i % 128) || bundleDark s g)
  | 5 => roleDark s (i / 12) (portRole (i % 12))
  | 7 => loopsDark s (i / 2)
  | _ => false

/-- Place of a lane in the calibration image, and the lane of a place: transmit and receive bundles in index order, port
transmitters and receivers, loops. (DESIGN CHOICE, log 21) -/
def laneNo (k : Nat) : Nat :=
  let i := k / 32 % 8192
  let lane := k % 32
  match k / 262144 with
  | 2 => i * 9 + lane
  | 3 => 8208 + (firstBundle (i / 128) + i % 128) * 9 + lane
  | 5 => 16416 + i * 32 + lane
  | 6 => 17952 + i * 32 + lane
  | _ => 19488 + i
def noLane (n : Nat) : Nat :=
  if n < 8208 then olaneKey 2 (n / 9) (n % 9)
  else if n < 16416 then
    let b := (n - 8208) / 9
    olaneKey 3 (128 * ownerOf b + (b - firstBundle (ownerOf b))) ((n - 8208) % 9)
  else if n < 17952 then olaneKey 5 ((n - 16416) / 32) (n % 32)
  else if n < 19488 then olaneKey 6 ((n - 17952) / 32) (n % 32)
  else olaneKey 7 (n - 19488) 0
/-- Lanes of the device, and words of the image's header and of the whole image. -/
def laneCount : Nat := 19528
def imageWords : Nat := 16 + 2 * laneCount

/-- The two words of a lane. (DESIGN CHOICE, log 21) -/
def laneWord0 (x : OptLane) : Word := (if x.alt then 1#1 else 0#1) ++ 0#3 ++ x.heater ++ x.bias ++ x.depth
def laneWord1 (x : OptLane) : Word :=
  x.thresh ++ BitVec.ofNat 8 x.segs ++ (if x.sub then 1#8 else 0#8) ++ BitVec.ofNat 8 x.dead
/-- A lane's calibration as an image holds it. -/
def laneOf (w0 w1 : Word) (x : OptLane) : OptLane :=
  { x with alt := w0.getLsbD 31, heater := w0.extractLsb' 16 12, bias := w0.extractLsb' 8 8, depth := w0.extractLsb' 0 8
           thresh := w1.extractLsb' 24 8, segs := fld w1 16 8, sub := w1.getLsbD 8, dead := fld w1 0 8 }

/-- Whether a code for bias, depth or threshold, and a heater code, is plausible (R335). -/
def codeOk (v : BitVec 8) : Bool := decide (16 ≤ v.toNat ∧ v.toNat ≤ 240)
def heaterOk (v : BitVec 12) : Bool := decide (0x080 ≤ v.toNat ∧ v.toNat ≤ 0xF80)

/-- The figures a calibration run measures of a lane, within the limits of R335. -/
def measuredLane (run k : Nat) : OptLane :=
  let v (n lo hi : Nat) : Nat := lo + (Config.calibrated run k n).toNat % (hi + 1 - lo)
  let code (n : Nat) : BitVec 8 := BitVec.ofNat 8 (v n 16 240)
  { OptLane.reset with heater := BitVec.ofNat 12 (v 0 0x080 0xF80), eyeW := BitVec.ofNat 10 (v 1 100 1000)
                       eyeH := BitVec.ofNat 10 (v 2 20 1000), ber := (Config.calibrated run k 3).setWidth 5
                       power := Config.calibrated run k 4, margin := Config.calibrated run k 5
                       bias := code 6, depth := code 7, thresh := code 8 }
/-- The lane of a key. -/
def laneNamed (k : Nat) : OLane :=
  ⟨BitVec.ofNat 3 (k / 262144), BitVec.ofNat 13 (k / 32 % 8192), BitVec.ofNat 5 (k % 32)⟩
/-- The row of R335 that a lane's restored codes fail. -/
def restoredReason (l : List Word) (k : Nat) : Nat :=
  if heaterOk (laneOf (l.getD (16 + 2 * laneNo k) 0) (l.getD (17 + 2 * laneNo k) 0) OptLane.reset).heater then 2 else 1
/-- Whether a lane's restored codes are plausible: a lane whose codes are not is swept (R334). -/
def restoredOk (l : List Word) (k : Nat) : Bool :=
  let x := laneOf (l.getD (16 + 2 * laneNo k) 0) (l.getD (17 + 2 * laneNo k) 0) OptLane.reset
  heaterOk x.heater && codeOk x.bias && codeOk x.depth && codeOk x.thresh
/-- A lane's figures: as last changed, else as its calibration left them, else zero. A fast calibration leaves the restored
codes where they are plausible. (DESIGN CHOICE, log 21) -/
def laneIn (o : Optics) (k : Nat) : OptLane :=
  match Tab.get none o.lanes k with
  | some x => x
  | none =>
    if !o.done then OptLane.reset
    else if o.restored ≠ [] ∧ restoredOk o.restored k = true then
      laneOf (o.restored.getD (16 + 2 * laneNo k) 0) (o.restored.getD (17 + 2 * laneNo k) 0) (measuredLane o.runs k)
    else measuredLane o.runs k
def laneAt (s : State) (k : Nat) : OptLane := laneIn s.optics k
def setLane (k : Nat) (x : OptLane) (s : State) : State :=
  { s with optics := { s.optics with lanes := Tab.put none s.optics.lanes k (some x) } }

/-! ### The image (R337) -/

/-- A word of the image, with its CRC word given: type, identity, generation, temperature, word count and CRC-32. (DESIGN CHOICE, log 21) -/
def imageAt (m : Snapshot) (serial : DWord) (crc : Word) (w : Nat) : Word :=
  if w < 16 then
    match w with
    | 0 => 1
    | 1 => serial.extractLsb' 0 32
    | 2 => serial.extractLsb' 32 32
    | 3 => BitVec.ofNat 32 m.gen
    | 4 => m.temp.signExtend 32
    | 5 => BitVec.ofNat 32 imageWords
    | 6 => crc
    | _ => 0
  else if w < imageWords then
    let x := laneIn m.opt (noLane ((w - 16) / 2))
    if w % 2 = 0 then laneWord0 x else laneWord1 x
  else 0
/-- The CRC-32 over the image, its own word 0; the whole image. -/
def imageCrc (m : Snapshot) (serial : DWord) : Word := Config.crc32 ((List.range imageWords).map (imageAt m serial 0))
def imageList (m : Snapshot) (serial : DWord) : List Word :=
  (List.range imageWords).map (imageAt m serial (imageCrc m serial))

end Sys2Proof.Machine
end

