-- ==== Sys2Proof/Machine/Streams.lean ====
section
/-! DEFINITION. Gateways towards other devices: ports and routes (R246–R252), end-to-end streams (R253–R257), outbound
reductions (R212, R213) and dead targets (R222). -/

namespace Sys2Proof.Machine

/-! ### Ports and routes -/

/-- GW_PORT_STATUS register of a port or half: A for a full port and half A (R261). -/
def statAddr (g p : Nat) : Half → Nat
  | .b => portBase g p + 8
  | _ => portBase g p + 4
/-- Bit of GW_PORT_CFG. -/
def portEnabled (s : State) (g p : Nat) : Bool := decide (s.rf (portBase g p) 31 1 = 1)
def portSplit (s : State) (g p : Nat) : Bool := decide (s.rf (portBase g p) 30 1 = 1)
/-- State code of a port or half (R261). -/
def portState (s : State) (g p : Nat) (h : Half) : Nat := s.rf (statAddr g p h) 29 3

/-- Whether a port belongs to the mirror link (R439). -/
def mirrorPort (s : State) (g p : Nat) : Bool := s.pins.pairEn && decide (g = 3 ∧ 8 ≤ p)

/-- Whether the port a route names, with its half code, is UP (R261, R439). -/
def routePortUp (s : State) (g p half : Nat) : Bool :=
  decide (p < 12) && !mirrorPort s g p &&
    (match half with
     | 0 => !portSplit s g p && decide (portState s g p .full = 3)
     | 1 => portSplit s g p && decide (portState s g p .a = 3)
     | 2 => portSplit s g p && decide (portState s g p .b = 3)
     | _ => false)

/-- The primary port of an entry is UP; the alternate port is valid and UP (R252). -/
def priUp (s : State) (f : Nat) : Bool :=
  routePortUp s (routeGw s f) (s.rf (0x94000 + 4 * f) 24 4) (s.rf (0x94000 + 4 * f) 22 2)
def altUp (s : State) (f : Nat) : Bool :=
  decide (s.rf (0x94000 + 4 * f) 30 1 = 1) &&
    routePortUp s (routeGw s f) (s.rf (0x94000 + 4 * f) 18 4) (s.rf (0x94000 + 4 * f) 16 2)

/-! ### Streams -/

def streamKey (f : Nat) (ctrl : Bool) : Nat := 2 * f + (if ctrl then 1 else 0)
def State.stream (s : State) (f : Nat) (ctrl : Bool) : Stream := Tab.get Stream.reset s.streams (streamKey f ctrl)
def State.setStream (s : State) (f : Nat) (ctrl : Bool) (x : Stream) : State :=
  { s with streams := Tab.put Stream.reset s.streams (streamKey f ctrl) x }
/-- GW_PEER_f.State: 0 Idle, 1 Up, 2 Waiting, 3 Dead. -/
def peerState (s : State) (f : Nat) : Nat := s.rf (0x94100 + 4 * f) 29 2
def setPeer (f st : Nat) (s : State) : State := s.setRf (0x94100 + 4 * f) 29 2 st
/-- Record GW_PEER_f.Unacked. -/
def showUnacked (f : Nat) (s : State) : State :=
  s.setRf (0x94100 + 4 * f) 9 10 (min 512 (s.stream f false).unacked.length)

/-- Bytes of a frame in the retry buffer, and those a stream holds (R255). -/
def frameBytes (p : Pkt) : Nat := if p.cls then 32 + 64 * p.len.toNat else 32
def heldBytes (x : Stream) : Nat := x.unacked.foldl (fun n u => n + frameBytes u.pkt) 0

/-- Whether the retry buffer of a stream's gateway has room for a frame: 64 frames of every stream with a frame to send are
guaranteed (R255). R255 does not say what gives where a stream starts when others fill the buffer: the guarantee holds,
and what the buffer keeps may then pass 16 MiB. (DESIGN CHOICE, log 20) -/
def retryRoom (s : State) (f : Nat) (ctrl : Bool) (p : Pkt) : Bool :=
  decide ((s.stream f ctrl).unacked.length < 64) ||
    decide ((s.streams.filter (fun e => decide (routeGw s (e.1 / 2) = routeGw s f))).foldl (fun n e =>
      n + max (heldBytes e.2) (if e.2.queue.isEmpty then 0 else 34816)) 0 + frameBytes p ≤ 2 ^ 24)

/-- Port and half that the stream with a device uses (R252, R256). -/
def usedPort (s : State) (f : Nat) : Nat × Nat :=
  if (s.stream f false).onAlt then (s.rf (0x94000 + 4 * f) 18 4, s.rf (0x94000 + 4 * f) 16 2)
  else (s.rf (0x94000 + 4 * f) 24 4, s.rf (0x94000 + 4 * f) 22 2)
/-- A message leaves by the port a stream uses. -/
def portOut (f : Nat) (m : PortMsg) (s : State) : State :=
  { s with sent := s.sent ++ [⟨routeGw s f, (usedPort s f).1, (usedPort s f).2, m⟩] }
/-- Whether the port a stream uses sends only idle codewords: the quiet gap of its role (R332). -/
def streamQuiet (s : State) (f : Nat) : Bool := inGap s (routeGw s f) (portRole (usedPort s f).1) 0
/-- The frame of a packet for a device. -/
def frameTo (s : State) (f : Nat) (ctrl : Bool) (seq : BitVec 24) (p : Pkt) : Frame :=
  ⟨BitVec.ofNat 6 s.fabNum, BitVec.ofNat 6 f, 0, ctrl, seq, p⟩

/-- Send the frame at the head of a stream's queue, if it has a credit and room. -/
def sendNext (f : Nat) (ctrl : Bool) (s : State) : State :=
  let x := s.stream f ctrl
  match x.queue with
  | [] => s
  | p :: q =>
    if x.unacked.length < (if ctrl then 64 else 512) ∧ retryRoom s f ctrl p = true then
      showUnacked f (portOut f (.frame (frameTo s f ctrl x.tx p))
        (s.setStream f ctrl { x with tx := x.tx + 1, queue := q, unacked := x.unacked ++ [⟨x.tx, p, s.now⟩] }))
    else s
def sendLoop (f : Nat) (ctrl : Bool) : Nat → State → State
  | 0, s => s
  | n + 1, s => sendLoop f ctrl n (sendNext f ctrl s)
/-- Send again every frame a stream has not had acknowledged, counted on the port it uses (R255, R256): in a quiet gap of
the port they wait for its end (R332). -/
def resend (f : Nat) (ctrl : Bool) (s : State) : State :=
  let x := s.stream f ctrl
  if streamQuiet s f then s.setStream f ctrl { x with again := !x.unacked.isEmpty }
  else
    let s := s.setStream f ctrl { x with again := false, unacked := x.unacked.map (fun u => { u with at' := s.now }) }
    let s := x.unacked.foldl (fun t u => portOut f (.frame (frameTo t f ctrl u.seq u.pkt)) t) s
    s.incRf (portBase (routeGw s f) (usedPort s f).1 + 0x18) 0 32 x.unacked.length
/-- Send what a stream may send: only while it is Up, the fabric gate is open (R436), and its port is in no quiet gap
(R332); what a gap kept from being sent again goes first. -/
def pump (f : Nat) (ctrl : Bool) (s : State) : State :=
  if peerState s f = 1 ∧ gatesOpen s = true ∧ streamQuiet s f = false then
    sendLoop f ctrl (s.stream f ctrl).queue.length (if (s.stream f ctrl).again then resend f ctrl s else s) else s

/-- A stream resumes on a port: it is Up and retransmits what is not acknowledged (R256). -/
def resume (f : Nat) (alt : Bool) (s : State) : State :=
  let x := s.stream f false
  let s := setPeer f 1 (s.setStream f false { x with onAlt := alt, retries := 0 })
  let s := s.setStream f true { s.stream f true with retries := 0 }
  pump f true (pump f false (resend f true (resend f false s)))

/-- Both streams with a device begin again at 0, in both directions; what is unacknowledged is numbered anew (R257). -/
def resync (f : Nat) (s : State) : State :=
  let z (x : Stream) : Stream :=
    { x with tx := BitVec.ofNat 24 x.unacked.length, rx := 0, sync := false
             unacked := x.unacked.mapIdx (fun i u => { u with seq := BitVec.ofNat 24 i })
             rel := 0, owe := false, again := false }
  let s := { s with pool := s.pool.filter (fun i => !(i.frame.any (fun (x : Frame) => decide (x.dst.toNat = s.fabNum ∧ x.src.toNat = f)))) }
  forgetSeqs f ((s.setStream f false (z (s.stream f false))).setStream f true (z (s.stream f true)))

/-- A Waiting stream resumes as soon as its primary port, or its alternate, is UP; after a Revive the SYNC exchange runs
first, outside a quiet gap of the port (R256, R257, R332). (DESIGN CHOICE, log 20) -/
def tryResume (f : Nat) (s : State) : State :=
  if peerState s f = 2 ∧ routeValid s f = true ∧ (priUp s f || altUp s f) = true then
    let alt := !priUp s f
    if (s.stream f false).sync then
      if streamQuiet (s.setStream f false { s.stream f false with onAlt := alt }) f then s else
      let s := resync f s
      resume f alt (portOut f (.sync f) (s.setStream f false { s.stream f false with onAlt := alt }))
    else resume f alt s
  else s
def resumeAll (s : State) : State := (List.range 64).foldl (fun t f => tryResume f t) s

/-- A stream enters Waiting: its loss is counted from now (R256). -/
def enterWaiting (f : Nat) (s : State) : State :=
  setPeer f 2 (s.setStream f false { s.stream f false with lostAt := s.now })

/-- The port a stream uses is lost: it moves to the alternate with event 0x045, back to the primary, or waits (R256). (DESIGN CHOICE, log 20) -/
def failover (f : Nat) (s : State) : State :=
  if peerState s f ≠ 1 then s
  else
    let x := s.stream f false
    if x.onAlt then (if priUp s f then resume f false s else enterWaiting f s)
    else if altUp s f then
      raiseEvent 0 (20 + routeGw s f) 0x045 (BitVec.ofNat 32 f) (resume f true s)
    else enterWaiting f s

/-- Whether the port a stream uses is UP. -/
def usedUp (s : State) (f : Nat) : Bool := if (s.stream f false).onAlt then altUp s f else priUp s f
/-- After a change of the ports: streams whose port is lost fail over, and Waiting streams resume. -/
def portsChanged (s : State) : State :=
  (List.range 64).foldl (fun t f =>
    if peerState t f = 1 ∧ usedUp t f = false then failover f t else tryResume f t) s

/-! ### Dead targets (R222, R256) -/

/-- Event 0x040: once for each job tag, until it has been killed and released. (DEDUCED, log 24) -/
def reportDead (g tag : Nat) (s : State) : State :=
  if setHas s.reported (g * 4096 + tag) then s
  else raiseEvent 2 (20 + g) 0x040 (BitVec.ofNat 32 tag) { s with reported := setAdd s.reported (g * 4096 + tag) }

/-- Whether an item is a request of this device that waits for device `f`. -/
def waitsFor (f : Nat) (i : Item) : Bool :=
  !isResp i.pkt && i.frame.isNone && decide (dFab i.pkt.dst = f) && (match i.loc with | .gwOut _ => true | _ => false)

/-- A request is answered TARGET_DEAD by a gateway, with those merged into it. -/
def deadAnswer (g : Nat) (it : Item) (s : State) : State :=
  reportDead g it.pkt.job.toNat (respondAll (gwEp g) it 4 s)

/-- A stream becomes Dead: what it sent or queued completes TARGET_DEAD (R256). (DESIGN CHOICE, log 20) -/
def enterDead (f : Nat) (s : State) : State :=
  let clear (x : Stream) : Stream := { x with unacked := [], queue := [], retries := 0 }
  let s := setPeer f 3 ((s.setStream f false (clear (s.stream f false))).setStream f true (clear (s.stream f true)))
  showUnacked f ((s.pool.filter (waitsFor f)).foldl (fun t i => deadAnswer (routeGw s f) i t) s)

/-! ### The outbound side of a gateway -/

/-- An Idle stream's first request makes it Up, or Waiting where no port is UP (R256). -/
def startStream (f : Nat) (s : State) : State :=
  if peerState s f ≠ 0 then s
  else if priUp s f then setPeer f 1 s
  else if altUp s f then setPeer f 1 (s.setStream f false { s.stream f false with onAlt := true })
  else enterWaiting f s
/-- Put a packet in the queue of its stream. -/
def enqueue (f : Nat) (p : Pkt) (s : State) : State :=
  let c := onLoop p && !isResp p
  let x := s.stream f c
  pump f c (startStream f (s.setStream f c { x with queue := x.queue ++ [p] }))

/-- Device a packet leaves for. -/
def awayFab (p : Pkt) : Nat := if isResp p then p.srcFab.toNat else dFab p.dst

/-- An item leaves its gateway: a request stays in the pool until its response, a response is gone. -/
def sendAway (g : Nat) (it : Item) (s : State) : State :=
  let s := if isResp it.pkt then s.dropItem it.id
    else s.modItem it.id (fun i => { i with loc := .gwOut g, held := false, tab := false })
  enqueue (awayFab it.pkt) it.pkt s

/-- Parked outbound FREDs of a gateway. -/
def gwParked (s : State) (g : Nat) : List Item :=
  s.pool.filter (fun i => i.tab && decide (i.loc = .gwOut g))

/-- Whether an outbound FRED waits for a free entry, in order of arrival (R212). -/
def gwWaits (g : Nat) (i : Item) : Bool := i.held && decide (i.loc = .gwOut g)

/-- An outbound FRED merges into an open entry; none where there is none (R210, R213). -/
def gwMerge (g : Nat) (it : Item) (s : State) : Option State :=
  match (gwParked s g).find? (fun i => decide (i.id ≠ it.id) && decide (combKey i.pkt = combKey it.pkt)) with
  | some l =>
    let s := s.modItem l.id (fun i => { i with pkt := { i.pkt with
      data := mergeData i.pkt it.pkt, members := i.pkt.members + it.pkt.members } })
    some ((respondWith (gwEp g) it 0 1 false 0 [] s).incRf (gwBase g + 0xC04) 0 32 1)
  | none => none

/-- An outbound FRED merges, opens an entry and parks, or waits behind those that wait (R210, R212). -/
def gwReduce (g : Nat) (it : Item) (s : State) : State :=
  match gwMerge g it s with
  | some s1 => s1
  | none =>
    if combUsed s (gwEp g) < 256 ∧ s.pool.any (gwWaits g) = false then openEntry (gwEp g) it.id s
    else (s.modItem it.id (fun i => { i with held := true })).incRf (gwBase g + 0xC0C) 0 32 1

/-- A packet for another device reaches its gateway (R210–R213, R256). -/
def gwArrive (g : Nat) (it : Item) (s : State) : State :=
  let s := s.moveItem it (.gwOut g)
  let down := decide (s.funcState 13 = 1 ∨ s.funcState 13 = 2)
  if isResp it.pkt then
    (if down || decide (peerState s it.pkt.srcFab.toNat = 3) then s.dropItem it.id else sendAway g it s)
  else if s.armed it.pkt.job.toNat then respondAll (gwEp g) it (rankStatus s it.pkt 9) s
  else if down then respondAll (gwEp g) it (rankStatus s it.pkt 2) s
  else if peerState s (dFab it.pkt.dst) = 3 ∨ gatesOpen s = false then deadAnswer g it s
  else if isFred it.pkt && (combKey it.pkt).isSome && decide (s.rf (gwBase g + 0xC00) 2 1 = 1) then
    gwReduce g it (startStream (dFab it.pkt.dst) s)
  else sendAway g it s

/-- The oldest waiting outbound FRED merges, or opens a freed entry (R212). -/
def entryFree (g : Nat) (s : State) : State :=
  match s.pool.find? (gwWaits g) with
  | none => s
  | some it =>
    match gwMerge g it s with
    | some s1 => s1
    | none =>
      if combUsed s (gwEp g) < 256 then
        (openEntry (gwEp g) it.id s).modItem it.id (fun x => { x with since := s.now })
      else s

/-- A parked outbound FRED is sent when RedHold has expired and its port can send (R212); of a function that is not Online
it completes FENCED (R383). -/
def gwRelease (g id : Nat) (s : State) : State :=
  match s.item id with
  | none => s
  | some it =>
    let f := dFab it.pkt.dst
    if it.tab && decide (it.loc = .gwOut g) && decide (s.funcState 13 = 1 ∨ s.funcState 13 = 2) then
      respondAll (gwEp g) it (rankStatus s it.pkt 2) s
    else if it.tab && decide (it.loc = .gwOut g) && decide (s.rf (gwBase g + 0xC00) 8 8 ≤ 4 * (s.now - it.since)) &&
        (priUp s f || altUp s f) && decide (peerState s f ≤ 1) then
      sendAway g it s
    else s

/-- A response from another device reaches its gateway: it completes the request that waits for it; a duplicate is
discarded (R181, R202). -/
def gwResponse (g : Nat) (p : Pkt) (s : State) : State :=
  match s.pool.find? (fun i => !isResp i.pkt && i.frame.isNone && sameSrc i.pkt p && decide (i.pkt.tag = p.tag) &&
      (match i.loc with | .gwOut _ => true | _ => false)) with
  | none => s
  | some it => sendBack (gwEp g) it p (s.dropItem it.id)

/-- Whether the order keeps a request of another device from being released (R210): an earlier Seq of its source has not
come, or for a candidate its home could not apply it now. -/
def gwHolds (s : State) (it : Item) : Bool :=
  seqMissing s it.pkt || ((combKey it.pkt).isSome && !isFred it.pkt && mustWait s it)

/-- A gateway releases an inbound request, in its place of the order the homes keep; a candidate enters the table
(R210). A flagged write has no place in it: its home orders it by Seq. -/
def gwAdmit (g id : Nat) (s : State) : State :=
  let s := { s.modItem id (fun i => { i with rel := if i.pkt.flag then 0 else s.nextId, held := false, frame := none }) with nextId := s.nextId + 1 }
  match s.item id with
  | some it => if (combKey it.pkt).isSome && !isFred it.pkt then enterTable (gwEp g) id s else s
  | none => s

/-! ### Frames from other devices (R253, R254) -/

/-- Ticks that R256 lets a stream wait, and whether a request has waited so long. -/
def waitedLong (s : State) (it : Item) : Bool := decide (it.since + 250 * max 1 (s.rf 0x94200 16 16) ≤ s.now)

/-- The frames of a stream from a device that its gateway has accepted and not released, oldest first. -/
def framesOf (s : State) (g k : Nat) (ctrl : Bool) : List Item :=
  s.pool.filter (fun i => decide (i.loc = .gwIn g) && i.frame.any (fun f =>
    decide (f.src.toNat = k ∧ f.dst.toNat = s.fabNum ∧ f.ctrl = ctrl)))
/-- Release the next frame of a stream: a response completes its request; a request of a killed tag or to a function that is
not Online is answered; any other goes on once the order of its source lets it (R210, R383). A flagged write is held at its
home instead, already accepted (R254). None while the first one must wait. (DEDUCED, log 24) -/
def releaseOne (g : Nat) (it : Item) (s : State) : Option State :=
  let s := if seqMissing s it.pkt && waitedLong s it then passGap it.pkt s else s
  if isResp it.pkt then some (gwResponse g it.pkt (s.dropItem it.id))
  else if s.armed it.pkt.job.toNat then some (respond (gwEp g) it (rankStatus s it.pkt 9) (noteSeq it.pkt s))
  else if s.funcState 13 = 1 ∨ s.funcState 13 = 2 then some (respond (gwEp g) it (rankStatus s it.pkt 2) (noteSeq it.pkt s))
  else if !it.pkt.flag && gwHolds s it then none
  else some (gwAdmit g it.id (noteSeq it.pkt s))
/-- The highest sequence released of a stream is acknowledged on the control wavelength, and its credits return with it, as
soon as the stream has a port outside a quiet gap (R254, R255, R332). -/
def sendAck (k : Nat) (ctrl : Bool) (s : State) : State :=
  let x := s.stream k ctrl
  if x.owe && routeValid s k && usedUp s k && !streamQuiet s k then
    portOut k (.ack k ctrl (x.rel - 1)) (s.setStream k ctrl { x with owe := false })
  else s
/-- Release the frames of a stream in sequence, as far as the first that must wait. -/
def releaseFrames (g k : Nat) (ctrl : Bool) : List Item → State → State
  | [], s => sendAck k ctrl s
  | it :: l, s =>
    match releaseOne g it s with
    | none => sendAck k ctrl s
    | some t => releaseFrames g k ctrl l (t.setStream k ctrl { t.stream k ctrl with rel := (t.stream k ctrl).rel + 1, owe := true })
def releaseStream (g k : Nat) (ctrl : Bool) (s : State) : State := releaseFrames g k ctrl (framesOf s g k ctrl) s

/-- A frame waits at a gateway. -/
def keepFrame (l : Loc) (e : Nat) (f : Frame) (s : State) : State :=
  { s with pool := s.pool ++ [s.arriving { newReq f.pkt l e none s with pkt := f.pkt, frame := some f }], nextId := s.nextId + 1 }
/-- A frame for this device, at its gateway for the sender, is accepted if it is the next of its stream, and released in
sequence; each frame is answered with the highest sequence released, if any (R254, R255). One from a device that has no
Valid entry is released, and cannot be acknowledged. (DESIGN CHOICE, log 20) -/
def frameHere (g : Nat) (f : Frame) (s : State) : State :=
  let k := f.src.toNat
  let x := s.stream k f.ctrl
  if f.seq = x.rx then
    releaseStream g k f.ctrl (keepFrame (.gwIn g) (gwEp g) f (s.setStream k f.ctrl { x with rx := x.rx + 1 }))
  else sendAck k f.ctrl (s.setStream k f.ctrl { x with owe := x.owe || decide (x.rel ≠ 0#24) })

/-- A forwarded frame leaves by the primary port of its route, or the alternate where that is not UP; one that finds
neither is lost, and its source sends it again (R253, R256). (DESIGN CHOICE, log 20) -/
def sendFrame (f : Frame) (s : State) : State :=
  let d := f.dst.toNat
  if (priUp s d || altUp s d) && gatesOpen s then
    { s with sent := s.sent ++ [⟨routeGw s d, s.rf (0x94000 + 4 * d) (if priUp s d then 24 else 18) 4,
      s.rf (0x94000 + 4 * d) (if priUp s d then 22 else 16) 2, .frame f⟩] }
  else s
/-- Whether the port a forwarded frame would leave by sends only idle codewords (R332). -/
def routeQuiet (s : State) (d : Nat) : Bool :=
  inGap s (routeGw s d) (portRole (s.rf (0x94000 + 4 * d) (if priUp s d then 24 else 18) 4)) 0
/-- Forwarded frames that wait at a gateway for the end of a quiet gap. -/
def gapFrames (s : State) (g : Nat) : List Item :=
  s.pool.filter (fun i => decide (i.loc = .gwOut g) && i.frame.isSome)
/-- A forwarded frame leaves, or waits for the end of its port's quiet gap, behind those that wait for it (R253, R332). -/
def frameOut (f : Frame) (s : State) : State :=
  let d := f.dst.toNat
  let g := routeGw s d
  if routeQuiet s d || (gapFrames s g).any (fun i => i.frame.any (fun x => decide (x.dst = f.dst))) then
    keepFrame (.gwOut g) (gwEp g) f s
  else sendFrame f s
/-- Frames that waited for room in a gateway's retry buffer, or for a quiet gap to end, are sent, with the acknowledgements
that waited, and streams that waited for it resume (R255, R332). -/
def pumpAll (g : Nat) (s : State) : State :=
  let s := (gapFrames s g).foldl (fun t i =>
    match i.frame with
    | some f => if routeQuiet t f.dst.toNat then t else sendFrame f (t.dropItem i.id)
    | none => t) s
  s.streams.foldl (fun t e =>
    let k := e.1 / 2
    let ctrl := decide (e.1 % 2 = 1)
    if routeGw t k = g then sendAck k ctrl (pump k ctrl (tryResume k t)) else t) s

/-- The TAKEOVERs that wait go out on the ports whose role is in no quiet gap (R332, R445). -/
def sendTakeovers (s : State) : State :=
  let gap (x : Nat × Nat × Nat) : Bool := inGap s x.1 (portRole x.2.1) 0
  { s with takeover := s.takeover ++ s.takeWait.filter (fun x => !gap x), takeWait := s.takeWait.filter gap }

/-- Whether the queue of a gateway for a relayed frame has room: its L0 queue of 16, or its port's queue of 64 for the
endpoint (R206, R237). -/
def relayRoom (s : State) (e : Nat) (it : Item) (f : Frame) : Bool :=
  if f.ctrl then decide ((s.pool.filter (fun i => decide (i.loc = .l0 e))).length < 16)
  else decide (((portQueue s e (itemDest s it)).filter (fun i => !isResp i.pkt)).length < 64)
/-- Whether a frame waits at gateway `g` to cross the hearth. -/
def toRelay (s : State) (g : Nat) (i : Item) : Bool :=
  decide (i.loc = .gwIn g) && i.frame.isSome && decide (itemDest s i ≠ gwEp g)
/-- The next frame of a kind that waits to cross the hearth goes on when there is room. -/
def relayNext (g : Nat) (ctrl : Bool) (s : State) : State :=
  match s.pool.find? (fun i => toRelay s g i && i.frame.any (fun f => decide (f.ctrl = ctrl))) with
  | some it =>
    (match it.frame with
     | some f => if relayRoom s (gwEp g) it f then s.moveItem it (if ctrl then .l0 (gwEp g) else .port (gwEp g)) else s
     | none => s)
  | none => s
/-- A frame crosses the hearth from gateway `g` to the one its route names: on the control loop, or on data bundles
(R253, R254). It waits at its gateway while the queue is full. -/
def relay (g : Nat) (f : Frame) (s : State) : State := relayNext g f.ctrl (keepFrame (.gwIn g) (gwEp g) f s)

/-- A relayed frame reaches its gateway. -/
def frameCrossed (g : Nat) (f : Frame) (s : State) : State :=
  if f.dst.toNat = s.fabNum then frameHere g f s else frameOut f s

end Sys2Proof.Machine
end

