-- ==== Sys2Proof/Machine/Hearth.lean ====
section
/-! DEFINITION. The hearth photonic fabric (R226–R245): source ports, multicasts, receive arbitration, the control loops
and the bridges. -/

namespace Sys2Proof.Machine

/-- Bridge directions a path from tile `a` to tile `b` crosses: the horizontal one first (R228). -/
def bridges (a b : Nat) : List Nat :=
  let mid := a / 2 * 2 + b % 2
  (if a = mid then [] else match a with | 0 => [0] | 1 => [1] | 2 => [2] | _ => [3]) ++
    (if mid = b then [] else match mid with | 0 => [4] | 2 => [5] | 1 => [6] | _ => [7])

/-! ### The source port (R172, R214, R240, R241) -/

/-- Status with which the source port completes a request, by the order of R183; 0 if it is sent. -/
def portStatus (s : State) (p : Pkt) : Nat :=
  let fenced := !isHearthMc p && s.epFenced (portDest s p)
  firstStatus
    ((if !s.fabValid || (!s.ownDst p && !routeValid s (dFab p.dst)) then [4] else []) ++
      (if 20 ≤ dEp p.dst || ((fenced || s.armed p.job.toNat) && extentBad p) then [5] else []) ++
      (if s.armed p.job.toNat then [9] else []) ++ (if fenced then [2] else []))

/-- Whether a request is for its own stack: it takes the billet crossbar and not the hearth (R160). -/
def ownStack (s : State) (e : Nat) (p : Pkt) : Bool := s.ownDst p && decide (reqEp p = e) && !isHearthMc p
/-- Whether the queue a packet would enter has room: its slice's credits, or the hearth port's queue (R164, R206,
R237). -/
def portRoom (s : State) (e : Nat) (p : Pkt) : Bool :=
  let l0 := decide ((s.pool.filter (fun i => decide (i.loc = .l0 e))).length < 16)
  let q (d : Nat) : Bool := decide (((portQueue s e d).filter (fun i => !isResp i.pkt)).length < 64)
  if ownStack s e p then portCredit s e p
  else decide (portStatus s p ≠ 0) ||
    (if isHearthMc p then (if onLoop p then l0 else (hearthMembers p).all (fun d => decide (d = e) || q d))
     else if onLoop p then l0 else q (portDest s p))

/-- A request comes to an endpoint over the hearth: to a die by its bundles, else to its home at once (R303). -/
def enterDie (e : Nat) (it : Item) (s : State) : State :=
  if onDie e then toWire (dieIn e it.no) it s else arriveHome e it s
/-- A new item, just added, comes to its endpoint. -/
def arriveNew (e : Nat) (s : State) : State :=
  match s.item (s.nextId - 1) with
  | some it => enterDie e { it with via := e } s
  | none => s

/-- The source port handles a hearth multicast (R214, R240). -/
def hearthMcast (e : Nat) (it : Item) (s : State) : State :=
  let sel := hearthMembers it.pkt
  let live := sel.filter (fun d => !s.epFenced d)
  if sel = [] then respondWith e it 0 0 false 0 [] s
  else if live = [] then respondWith e it 2 0 true 0 [] s
  else
    let cut := decide (live ≠ sel)
    let s := openMcast it live.length cut (if cut then [2] else []) (s.dropItem it.id)
    let s := if live.contains e then arriveNew e (addCopy it (.home e) (hearthPkt it.pkt e) it.id s) else s
    let away := live.filter (fun d => decide (d ≠ e))
    if away = [] then s
    else if onLoop it.pkt then
      addCopy it (.l0 e) { it.pkt with members := BitVec.ofNat 18 (away.foldl (fun n d => n + 2 ^ hearthBit it.pkt d) 0) } it.id s
    else away.foldl (fun t d => addCopy it (.port e) (hearthPkt it.pkt d) it.id t) s

/-- The source port examines a request and sends it, or completes it at once with those merged into it. -/
def portExamine (e : Nat) (it : Item) (s : State) : State :=
  let st := portStatus s it.pkt
  if st ≠ 0 then
    if st = 2 then fencedAtPort e it s
    else respondAll e it st (if st = 4 ∧ s.fabValid = true then reportDead (e / 5) it.pkt.job.toNat s else s)
  else if isHearthMc it.pkt then hearthMcast e it s
  else if portDest s it.pkt = e then enterDie e it s
  else if onLoop it.pkt then s.moveItem it (.l0 e)
  else s.moveItem it (.port e)

/-! ### Turns at a cluster hub (R160) -/

/-- Requester of a hub: one of its 16 down ports, which a response noted in `via`, or the bulk engine. -/
def hubPort (i : Item) : Nat :=
  let c := if isResp i.pkt then i.via else i.pkt.srcCore.toNat
  if !isResp i.pkt && decide (i.pkt.eng.toNat = 1) then 16 else c / 16 % 4 * 4 + c % 4
def hubKey (site cl : Nat) : Nat := 500000 + 16 * site + cl

/-- The packet a hub sends next: VC0 first, then one packet in turn from each requester that has one ready. (DESIGN CHOICE, log 18) -/
def hubNext (s : State) (site cl : Nat) : Option Item :=
  let here := s.pool.filter (fun i => decide (i.loc = .hub site cl) && !forCoreOf s site i.pkt &&
    (isResp i.pkt || portRoom s (siteEp site) i.pkt))
  match here.find? (fun i => decide (pktVc i.pkt = 0)) with
  | some i => some i
  | none =>
    let last := Tab.get 0 s.rr (hubKey site cl)
    ((List.range 17).map (fun k => (last + 1 + k) % 17)).findSome? (fun k => here.find? (fun i => decide (hubPort i = k)))

/-- A request goes on from its hub through the cluster port, from an agent of the tongs to the hearth, or is examined at
the source port of a gateway, if it is next there; a gateway that is not Online answers what it holds FENCED (R383). -/
def portRequest (id : Nat) (s : State) : State :=
  match s.item id with
  | none => s
  | some it =>
    match it.loc with
    | .hub site cl =>
      (match hubNext s site cl with
       | some i =>
         if i.id = id then
           toWire (upWire site cl) it (if pktVc it.pkt = 0 then s
             else { s with rr := Tab.put 0 s.rr (hubKey site cl) (hubPort it) })
         else s
       | none => s)
    | .engine =>
      if it.pkt.eng = 2#2 ∧ it.held = false ∧ portRoom s it.pkt.srcEp.toNat it.pkt = true then
        let e := it.pkt.srcEp.toNat
        if ownStack s e it.pkt then (if portStatus s it.pkt = 0 then arriveHome e it s else portExamine e it s)
        else if onDie e then toWire (dieOut e it.no) it s else portExamine e it s
      else s
    | .gwIn g =>
      (match it.frame with
       | some f => if toRelay s g it then relayNext g f.ctrl s else s
       | none =>
         if it.held || it.lead.isSome then s
         else if s.funcState 13 = 1 ∨ s.funcState 13 = 2 then respondAll (gwEp g) it (rankStatus s it.pkt 2) s
         else if portRoom s (gwEp g) it.pkt then
           portExamine (gwEp g) { it with tab := false } (s.modItem id (fun i => { i with tab := false }))
         else s)
    | _ => s

/-! ### Grants (R229–R235) -/

def grantKey (dst rb : Nat) : Nat := dst * 128 + rb
def State.grantAt (s : State) (dst rb : Nat) : Option Grant := Tab.get none s.grants (grantKey dst rb)
def burstLimit (s : State) (e : Nat) : Nat := s.rf (0x81000 + 0x40 * e) 0 6 + 1

/-- Whether a source holds a credit of a receive bundle (R205). -/
def hasCredit (s : State) (src dst rb : Nat) : Bool := decide (Tab.get 0 s.credUsed (credKey src dst rb) < 16)

/-- Whether an endpoint's links are under test: the tongs withhold its credits (R317). -/
def underTest (s : State) (e : Nat) : Bool := decide (s.rf (0x88020 + 4 * funcOfEp e) 17 1 = 1)
/-- The packets a bundle could send to a destination, of one kind: responses and forwarded frames need no credit (R205,
R253). -/
def sendable (s : State) (g dst : Nat) (resp : Bool) : List Item :=
  let e := ownerOf g
  (portQueue s e dst).filter (fun i => decide (isResp i.pkt = resp) &&
    (resp || i.frame.isSome || (hasCredit s e dst (rxOf g dst) && !underTest s dst)))

/-- A packet of the tongs' management requester, which alone may take a bundle from its holder (R234): agent 4 of E4, after
the Spasen agent and the guests. (DESIGN CHOICE, log 16) -/
def isMgmt (i : Item) : Bool :=
  !isResp i.pkt && i.frame.isNone && decide (i.pkt.eng.toNat = 2 ∧ i.pkt.srcEp.toNat = 4 ∧ i.pkt.srcCore.toNat = 4)

/-- Packets a bundle holds for resend (R306). -/
def heldBy (s : State) (g : Nat) : Nat :=
  (s.pool.filter (fun i => match i.loc with | .flight b _ => decide (b = g) | _ => false)).length

/-- Whether the path of a bundle to an endpoint runs at degraded width: either bundle does, or their maps use the spare for
different lanes (R314). -/
def pathHalf (s : State) (g dst : Nat) : Bool :=
  let tx := s.link (linkKey 2 g)
  let rx := s.link (linkKey 3 (128 * dst + rxOf g dst))
  let onSpare (x : Link) : List Nat := (List.range 8).filter (fun i => decide (physIn x.map i = 8))
  decide (tx.width = 1 ∨ rx.width = 1 ∨ (onSpare tx ≠ onSpare rx ∧ onSpare tx ≠ [] ∧ onSpare rx ≠ []))
/-- Whether a bundle cannot send a packet now: it has no light, or the packet would not end before its role's quiet gap
(R332, R333). A bundle carries 256 B in a tick, half of it at degraded width. -/
def bundleQuiet (s : State) (g dst : Nat) (p : Pkt) : Bool :=
  let b := if pathHalf s g dst then 128 else 256
  bundleDark s g || inGap s (ownerOf g / 5) (bundleRole g) ((64 * pktFlits p + b - 1) / b)
/-- The links of two endpoints have carried a unit (R317). -/
def noteCarried (a b : Nat) (s : State) : State :=
  { s with carried := Tab.put 0 (Tab.put 0 s.carried a (s.now + 1)) b (s.now + 1) }

/-- One more packet of a grant has left. -/
def countSent (dst rb : Nat) (x : Grant) (s : State) : State :=
  { s with grants := Tab.put none s.grants (grantKey dst rb) (some { x with sent := x.sent + 1 }) }
/-- A packet is counted as resent on both bundles of its path (R322). -/
def countResent (g dst : Nat) (s : State) : State :=
  [linkKey 2 g, linkKey 3 (128 * dst + rxOf g dst)].foldl (fun t k =>
    t.setLink k { t.link k with replay := min ((t.link k).replay + 1) (2 ^ 32 - 1) }) s

/-- Send packets of a train while the grant lasts, of those it is for: first those the endpoint discarded (R231, R232, R234,
R306). -/
def sendTrain (g dst : Nat) : Nat → State → State
  | 0, s => s
  | n + 1, s =>
    match s.grantAt dst (rxOf g dst) with
    | none => s
    | some x =>
      let rb := rxOf g dst
      let pick (i : Item) : Bool := !x.mgmt || isMgmt i
      if x.g ≠ g ∨ x.limit ≤ x.sent then s
      else
        match (lostBy s g dst x.resp).filter pick with
        | it :: _ =>
          if bundleQuiet s g dst it.pkt then s
          else
            sendTrain g dst n (noteCarried (ownerOf g) dst (countSent dst rb x (countResent g dst
              (s.modItem it.id (fun i => { i with held := false, since := s.now })))))
        | [] =>
          match (sendable s g dst x.resp).filter pick with
          | [] => s
          | it :: _ =>
            if bundleQuiet s g dst it.pkt ∨ 64 ≤ heldBy s g then s
            else
              let e := ownerOf g
              let k := credKey e dst rb
              let free := x.resp || it.frame.isSome
              let s := s.moveItem { it with cred := if free then none else some (e, rb), via := dst } (.flight g dst)
              sendTrain g dst n (noteCarried e dst (countSent dst rb x
                (if free then s else { s with credUsed := Tab.put 0 s.credUsed k (Tab.get 0 s.credUsed k + 1) })))

/-- Whether a bundle has something to send to a destination. -/
def hasTraffic (s : State) (g dst : Nat) (resp : Bool) : Bool :=
  !(lostBy s g dst resp).isEmpty || !(sendable s g dst resp).isEmpty
/-- Whether a bundle is free to turn to a destination: it has light, holds no grant and asks for none. -/
def bundleFree (s : State) (g : Nat) : Bool :=
  !bundleDark s g && !s.greqs.any (fun q => decide (q.g = g)) &&
    !s.grants.any (fun x => match x.2 with | some y => decide (y.g = g) | none => false)

/-- The bundle that takes the next packet of a kind to a destination: the next free one in index order (R231). -/
def nextBundle (s : State) (e dst : Nat) (resp : Bool) : Option Nat :=
  let n := bundlesOf e
  let last := Tab.get 0 s.rr (600000 + e)
  ((List.range n).map (fun i => firstBundle e + (last + i) % n)).find? (fun g =>
    bundleFree s g && !(sendable s g dst resp).isEmpty)

/-- Whether an endpoint's packets of a kind still have a train to a destination, which they prefer (R231). -/
def trainOpen (s : State) (e dst : Nat) (resp : Bool) : Bool :=
  s.grants.any (fun x => match x.2 with
    | some y => decide (x.1 / 128 = dst ∧ ownerOf y.g = e ∧ y.resp = resp ∧ y.sent < y.limit) && !bundleDark s y.g &&
        !(sendable s y.g dst resp).isEmpty
    | none => false)

/-- Whether a packet of a kind needs a bundle of its own: no train carries it, and fewer bundles ask than packets wait. -/
def needsBundle (s : State) (e dst : Nat) (resp : Bool) : Bool :=
  !trainOpen s e dst resp &&
    decide ((s.greqs.filter (fun q => decide (ownerOf q.g = e ∧ q.dst = dst ∧ q.resp = resp))).length <
      ((portQueue s e dst).filter (fun i => decide (isResp i.pkt = resp))).length)

/-- A bundle asks for its receive bundle, or a packet joins the train its grant still carries (R231, R233). -/
def grantRequest (g dst : Nat) (s : State) : State :=
  let e := ownerOf g
  let held := match s.grantAt dst (rxOf g dst) with | some x => decide (x.g = g) | none => false
  let asks (k : Bool) : Bool := (needsBundle s e dst k && decide (nextBundle s e dst k = some g)) ||
    (!(lostBy s g dst k).isEmpty && bundleFree s g)
  if e = dst ∨ s.epFenced dst = true then s
  else if held then withdraw (sendTrain g dst 64 s)
  else if asks true || asks false then
    { s with greqs := s.greqs ++ [⟨g, dst, s.now, asks true⟩]
             rr := Tab.put 0 s.rr (600000 + e) ((g - firstBundle e + 1) % bundlesOf e) }
  else s

/-- Grants in force over a bridge direction. -/
def overBridge (s : State) (k : Nat) : Nat :=
  (s.grants.filter (fun x => match x.2 with
    | some y => (bridges (ownerOf y.g / 5) (x.1 / 128 / 5)).contains k | none => false)).length
def bridgeOk (s : State) (g dst : Nat) : Bool :=
  (bridges (ownerOf g / 5) (dst / 5)).all (fun k =>
    let w := s.rf (0x80020 + 4 * k) 16 9
    decide (s.rf (0x80020 + 4 * k) 0 9 ≤ w) || decide (overBridge s k < w))

/-- Whether the last grant of a receive bundle was for a response. -/
def turnKey (dst rb : Nat) : Nat := 700000 + grantKey dst rb

/-- Whether a bundle's request can be granted now: its bridges allow it, it has light, and its packets still wait. -/
def grantable (s : State) (q : GrantReq) : Bool :=
  bridgeOk s q.g q.dst && !bundleDark s q.g && hasTraffic s q.g q.dst q.resp

/-- The next request of a kind at a receive bundle: in the order they came, so that none is granted twice while another
waits; one that a bridge holds back keeps its place (R229, R233). (DESIGN CHOICE, log 18) -/
def turnOf (s : State) (dst rb : Nat) (resp : Bool) : Option GrantReq :=
  s.greqs.find? (fun q => decide (q.dst = dst ∧ rxOf q.g dst = rb ∧ q.resp = resp) && grantable s q)

/-- The next request granted at a receive bundle: responses first, by turns with requests. (DESIGN CHOICE, log 18) -/
def nextHolder (s : State) (dst rb : Nat) : Option GrantReq :=
  match turnOf s dst rb true, turnOf s dst rb false with
  | some a, some b => if Tab.get 0 s.rr (turnKey dst rb) = 1 then some b else some a
  | some a, none => some a
  | none, b => b

/-- Whether the holder of a receive bundle may change now (R233). -/
def changeDue (s : State) (dst rb : Nat) : Bool :=
  let t := Tab.get 0 s.changed (grantKey dst rb)
  decide (t = 0) || decide (t - 1 + bundlesOf dst / 4 ≤ s.now)

/-- Grant a receive bundle: the train's packets leave (R232), and the registers of R245 count it. -/
def giveGrant (q : GrantReq) (limit : Nat) (mgmt : Bool) (s : State) : State :=
  let rb := rxOf q.g q.dst
  let b := 0x81000 + 0x40 * q.dst
  let s := (s.incRf (b + 4) 0 32 1).setRf (b + 8) 0 16 (max (s.rf (b + 8) 0 16) (min (4 * (s.now - q.since)) 65535))
  withdraw (sendTrain q.g q.dst 64 { s with
    greqs := s.greqs.filter (fun x => decide (x ≠ q))
    grants := Tab.put none s.grants (grantKey q.dst rb) (some ⟨q.g, 0, s.now, q.resp, limit, mgmt⟩)
    changed := Tab.put 0 s.changed (grantKey q.dst rb) (s.now + 1)
    rr := Tab.put 0 s.rr (turnKey q.dst rb) (if q.resp then 1 else 0) })

/-- A receive arbiter grants (R233); the tongs' management requester takes the bundle from its holder for one packet
(R234). -/
def grantNow (g dst : Nat) (s : State) : State :=
  let rb := rxOf g dst
  match s.greqs.find? (fun q => decide (q.g = g ∧ q.dst = dst)) with
  | none => s
  | some q =>
    if s.epFenced dst || !changeDue s dst rb then s
    else
      match s.grantAt dst rb with
      | some _ =>
        if !q.resp && grantable s q && (sendable s g dst false).any isMgmt then giveGrant q 1 true s else s
      | none => if nextHolder s dst rb = some q then giveGrant q (burstLimit s dst) false s else s

/-- A grant ends when its holder has nothing more to send or has carried its packets (R232), or its bundle has gone dark
(R333); a fenced endpoint's arbiters grant nothing (R241). -/
def grantEnd (dst rb : Nat) (s : State) : State :=
  match s.grantAt dst rb with
  | some x =>
    if x.limit ≤ x.sent ∨ s.epFenced dst = true ∨ bundleDark s x.g = true ∨ hasTraffic s x.g dst x.resp = false then
      { s with grants := Tab.put none s.grants (grantKey dst rb) none } else s
  | none => s

/-! ### Arrivals -/

/-- A response arrives at its requester's endpoint: a member's is added to its multicast (R240), a core's enters the
mesh through its hub, any other meets its agent. -/
def respArrive (it : Item) (s : State) : State :=
  match it.ctx with
  | some x => memberAnswer x 1 (compStatus it.pkt) (s.dropItem it.id)
  | none => s.moveItem it (ownLoc it)

/-- A packet arrives at an endpoint's hearth port: on its way to its home or its requester's side, or at a gateway. -/
def hearthArrive (e : Nat) (it : Item) (s : State) : State :=
  match it.frame with
  | some f => frameCrossed (e / 5) f (s.dropItem it.id)
  | none =>
    if isResp it.pkt then (if s.ownSrc it.pkt then respArrive it s else gwArrive (e / 5) it s)
    else if s.ownDst it.pkt then enterDie e it s
    else gwArrive (e / 5) { it with cred := none } (oweCredit it.id s)

/-- The receiving port acknowledges a packet, which the source no longer holds (R306). -/
def packetAck (id : Nat) (s : State) : State :=
  match s.item id with
  | some it =>
    (match it.loc with
     | .flight _ e => if it.held then s else hearthArrive e { it with fails := 0 } s
     | _ => s)
  | none => s

/-! ### Off the electrical bundles (R303–R308) -/

/-- Whether a response of a die waits whole to leave by its bundles. -/
def repliesWait (s : State) (e : Nat) : Bool :=
  s.pool.any (fun i => isResp i.pkt && decide (i.lines = 0) && (match i.loc with
    | .wire k => decide (linkEp (keyKind k) (keyIndex k) = e) &&
        (if keyKind k = 1 then decide (keyIndex k / 16 % 2 = 0) else decide (keyKind k = 0 ∧ keyIndex k / 32 % 2 = 1))
    | _ => false))
/-- Core whose store a request is for. -/
def storeOf (p : Pkt) : Option Nat := if isResp p then none else match reqTgt p with | .store c _ => some c | _ => none
/-- Whether what follows a bundle has room for a packet: a home takes a data request only when it has room to send the
response (R152), which its die has when none waits there. (DESIGN CHOICE, log 13) -/
def wireRoom (s : State) (k : Nat) (it : Item) : Bool :=
  let i := keyIndex k
  let answers := decide (pktVc it.pkt ≠ 1) || (storeOf it.pkt).isSome || !repliesWait s (linkEp (keyKind k) i)
  if keyKind k = 1 then
    if i / 16 % 2 = 1 then !ownStack s (siteEp (i / 32)) it.pkt || answers
    else if isResp it.pkt && decide (it.pkt.eng.toNat ≠ 0) then true
    else roomAt s ((storeOf it.pkt).getD (srcCoreIdx it.pkt)) 5 (pktVc it.pkt) (pktFlits it.pkt)
  else if i / 32 % 2 = 0 then answers
  else isResp it.pkt || portRoom s (i / 64) it.pkt
/-- A request has come to a stack's billet for the stack: it goes on to a core's store by that core's cluster port, or it is
at its home (R148, R160). -/
def intoStack (e : Nat) (it : Item) (s : State) : State :=
  match storeOf it.pkt with
  | some c => toWire (downWire (siteOfEp e) (clusterOf c)) it s
  | none => arriveHome e it s
/-- A packet has crossed a bundle: from an anvil to its billet, and on to its home, to a cluster or the hearth; from the
billet to a core's down port or a bulk engine; from a die to its hearth port; or from the hearth to the die (R148, R160, R172). -/
def wireArrive (k : Nat) (it : Item) (s : State) : State :=
  let i := keyIndex k
  let it := { it with lines := 0 }
  if keyKind k = 1 then
    let e := siteEp (i / 32)
    if i / 16 % 2 = 1 then
      (if isResp it.pkt then
         (if s.ownSrc it.pkt && decide (it.pkt.srcEp.toNat = e) then
            toWire (downWire (siteOfEp e) (clusterOf it.pkt.srcCore.toNat)) it s
          else toWire (dieOut e it.no) it s)
       else if ownStack s e it.pkt then intoStack e it s else toWire (dieOut e it.no) it s)
    else
      match storeOf it.pkt with
      | some c => s.moveItem it (.mesh c 5)
      | none => s.moveItem it (if it.pkt.eng.toNat = 0 then .mesh (srcCoreIdx it.pkt) 5 else .resp)
  else
    let e := i / 64
    if i / 32 % 2 = 1 then
      (if !isResp it.pkt then portExamine e it s
       else if s.epFenced (itemDest s it) then s.dropItem it.id else s.moveItem it (.port e))
    else if !isResp it.pkt then intoStack e it s
    else if isStack e then toWire (downWire (siteOfEp e) (clusterOf it.pkt.srcCore.toNat)) it s
    else s.moveItem it .resp
/-- The oldest packet of a channel leaves the receiver once every unit of it has come and there is room. -/
def wireDeliver (k : Nat) (s : State) : State :=
  (s.pool.filter (fun i => decide (i.loc = .wire k))).foldl (fun t i =>
    match t.pool.find? (fun j => decide (j.loc = .wire k ∧ chanOf j = chanOf i)) with
    | some j => if decide (j.id = i.id) && received t k j && wireRoom t k j then wireArrive k j (freeUnits k j t) else t
    | none => t) s
/-- One tick of every bundle that has something to carry; untrained links carry nothing. -/
def wiresPass (s : State) : State :=
  (if s.linksUp then busyWires s else []).foldl (fun t k => wireSlots k (wireRate t k) (wireDeliver k (passWindows k t))) s

/-- Whether a control loop works (R239). -/
def loopsOk (s : State) : Nat := s.rf 0x80000 0 2

/-- The packet at the head of an endpoint's L0 queue crosses the loop (R236, R237, R240), which needs the light of one of
two combs (R323). -/
def l0Send (e : Nat) (s : State) : State :=
  if loopsOk s = 0 ∨ loopsDark s e = true then s
  else
    match s.pool.find? (fun i => decide (i.loc = .l0 e)) with
    | none => s
    | some it =>
      let s := s.incRf (0x8100C + 0x40 * e) 0 32 1
      if isHearthMc it.pkt && it.frame.isNone then
        (hearthMembers it.pkt).foldl (fun t d => arriveNew d (addCopy it (.home d) (hearthPkt it.pkt d) (it.ctx.getD it.id) t))
          (s.dropItem it.id)
      else hearthArrive (itemDest s it) { it with via := itemDest s it } s

/-! ### Rows -/

/-- What a quenched device leaves undone: every block is powered down (R389). (DESIGN CHOICE, log 3) -/
def alive (f : State → State) (s : State) : Host.Outcome State Fault Refusal := .next (if s.quench then s else f s)

/-- HEARTH_PORT_REQUEST (R172). -/
def execHearthPortRequest (id : Nat) (s : State) : Host.Outcome State Fault Refusal := alive (portRequest id) s
/-- GRANT_REQUEST (R233). -/
def execGrantRequest (g : Fin 912) (dst : EpId) (s : State) : Host.Outcome State Fault Refusal :=
  alive (grantRequest g.val dst.val) s
/-- GRANT (R232). -/
def execGrant (g : Fin 912) (dst : EpId) (s : State) : Host.Outcome State Fault Refusal := alive (grantNow g.val dst.val) s
/-- GRANT_END (R232). -/
def execGrantEnd (dst : EpId) (rb : Fin 80) (s : State) : Host.Outcome State Fault Refusal :=
  alive (grantEnd dst.val rb.val) s
/-- L0_PACKET (R237). -/
def execL0Packet (e : EpId) (s : State) : Host.Outcome State Fault Refusal := alive (l0Send e.val) s
/-- L1_PACKET_ACKNOWLEDGEMENT (R306). -/
def execL1PacketAcknowledgement (id : Nat) (s : State) : Host.Outcome State Fault Refusal := alive (packetAck id) s

/-- CREDIT_RETURN (R235): a credit the home owes comes back. -/
def creditBack (src dst rb : Nat) (s : State) : State :=
  let k := credKey src dst rb
  if Tab.get 0 s.credOwed k = 0 then s
  else { s with credOwed := Tab.put 0 s.credOwed k (Tab.get 0 s.credOwed k - 1)
                credUsed := Tab.put 0 s.credUsed k (Tab.get 0 s.credUsed k - 1) }
def execCreditReturn (src dst : EpId) (rb : Fin 80) (s : State) : Host.Outcome State Fault Refusal :=
  alive (creditBack src.val dst.val rb.val) s

/-- LOOP_FAILURE (R239). -/
def loopFail (l1 : Bool) (s : State) : State :=
  let b := if l1 then 1 else 0
  if s.rf 0x80000 b 1 = 0 then s
  else
    let s := s.setRf 0x80000 b 1 0
    if loopsOk s = 0 then raiseEvent 3 24 0x061 0 s else raiseEvent 2 24 0x060 (BitVec.ofNat 32 b) s
def execLoopFailure (l1 : Bool) (s : State) : Host.Outcome State Fault Refusal := alive (loopFail l1) s

/-! ### Waveguides (R228, R229, R315) -/

/-- Whether a bundle can cross a bridge direction. -/
def crosses (k g : Nat) : Bool := (List.range 4).any (fun b => (bridges (ownerOf g / 5) b).contains k)
/-- Waveguides a direction needs. -/
def guidesNeeded (s : State) (k : Nat) : Nat := s.rf (0x80020 + 4 * k) 0 9
/-- Logical lane of a bundle in a bridge direction: R315 does not say which waveguide a bundle has; they go to its bundles
in index order, and where more bundles can cross than it needs waveguides for (R228), round again. (DESIGN CHOICE, log 23) -/
def guideLane (s : State) (k g : Nat) : Nat := ((List.range g).filter (crosses k)).length % max 1 (guidesNeeded s k)
/-- The waveguide of a logical lane, if it has one. -/
def guideOf (s : State) (k i : Nat) : Option Nat :=
  match (Tab.get [] s.guides k).find? (fun e => decide (e.1 = i)) with
  | some e => e.2
  | none => if i < guidesNeeded s k then some i else none
/-- The first of a direction's 256 waveguides that is good and not assigned. (DESIGN CHOICE, log 23) -/
def freeGuide (s : State) (k : Nat) : Option Nat :=
  (List.range 256).find? (fun w => !(Tab.get [] s.guideBad k).contains w &&
    !(List.range (guidesNeeded s k)).any (fun i => decide (guideOf s k i = some w)))
/-- A waveguide fails: what it carries moves to an unused one, and the packets over the bridge are sent again; with none
unused, Working has fallen below Required (R229, R315). In STANDBY no receiver hears it (R363). -/
def waveguideFail (k g : Nat) (s : State) : State :=
  let i := guideLane s k g
  match crosses k g && decide (s.devState ≠ 2), guideOf s k i with
  | true, some w =>
    let a := 0x80020 + 4 * k
    let was := s.rf a 16 9
    let mine (b e : Nat) : Bool := decide (guideLane s k b = i) && (bridges (ownerOf b / 5) (e / 5)).contains k
    let s := { s.setRf a 16 9 (was - 1) with
      guideBad := Tab.put [] s.guideBad k (setAdd (Tab.get [] s.guideBad k) w)
      pool := s.pool.map (fun x => match x.loc with
        | .flight b e => if mine b e then { x with held := true } else x
        | _ => x) }
    let q := freeGuide s k
    let s := { s with guides := Tab.put [] s.guides k ((Tab.get [] s.guides k).filter (fun e => decide (e.1 ≠ i)) ++ [(i, q)]) }
    let s := if q.isSome then raiseEvent 0 24 0x063 (BitVec.ofNat 32 k) s else s
    if was = s.rf a 0 9 then raiseEvent 2 24 0x062 (BitVec.ofNat 32 k) s else s
  | _, _ => s
def execWaveguideFailure (k : Fin 8) (g : Fin 912) (s : State) : Host.Outcome State Fault Refusal :=
  alive (waveguideFail k.val g.val) s

end Sys2Proof.Machine
end

