-- ==== Sys2Proof/Machine/Homes.lean ====
section
/-! DEFINITION. Homes at work: input queues and turns (R164, R165, R207, R275), ECC and scrub of the billets
(R166, R167), the application of a request with those merged into it (R211), the release of held requests, and
responses at their requester (R30, R32, R181). -/

namespace Sys2Proof.Machine

/-- Whether a request waits in the input queue of a home, admitted and not merged. -/
def inQueue (e : Nat) (i : Item) : Bool :=
  decide (i.loc = .home e) && !i.held && i.lead.isNone && !isResp i.pkt && !toGuest i.pkt
/-- Whether a request needs its home's memory: it is admitted, leads its entry, and no status stops it. -/
def wantsMem (s : State) (e : Nat) (i : Item) : Bool := inQueue e i && memOp i.pkt && decide (itemStatus s i = 0)
/-- Whether a full mirror keeps a request waiting (R440). -/
def mirrorBlocked (s : State) (e : Nat) (i : Item) : Bool := i.wr && mirrorFull s e (reqOff i.pkt)

/-- Whether a request reads memory: every read, atomic and reduction; and the epochs it sees. -/
def readsMem (p : Pkt) : Bool := decide (p.op.toNat = 1) || isFat p || isFred p
def viewOf (p : Pkt) : DWord := if p.op.toNat = 1 then p.p0 else 1

/-! ### Errors found in a billet (R166, R270) -/

/-- A word found uncorrectable is poisoned, counted and recorded (R166). -/
def billetUe (site off : Nat) (s : State) : State :=
  let b := siteBase site
  let s := markPoison (billetAddr site off) s
  let s := (s.incRf (b + 0x9014) 0 32 1).setReg (b + 0x9018) (BitVec.ofNat 32 (off % 2 ^ 28 / 8 * 8 + 1))
  raiseEvent 2 (8 + site) 0x021 (BitVec.ofNat 32 off) s

/-- Word of a line that holds an offset is found uncorrectable (R270). -/
def lineUe (l : SpecLine) (off : Nat) (s : State) : State :=
  raiseEvent 2 (epBlock l.ep.val) 0x024 (BitVec.ofNat 32 off)
    { s with spec := s.spec.map (fun x => if x = l then { x with poison := setAdd x.poison (off % 64 / 8) } else x) }
/-- A word of the speculation buffer is found uncorrectable by a request that reads it there: an OPEN line in its view,
or a line being committed (R266, R270). -/
def specUe (e : Nat) (view : DWord) (off : Nat) (s : State) : State :=
  match specSource s e view off with
  | none => s
  | some l => lineUe l off s

/-- ECC findings of a billet read of the bytes `lo` to `hi` − 1. (DESIGN CHOICE, log 17) -/
def billetEcc (site lo hi : Nat) (x : Ecc) (s : State) : State :=
  let inside (o : Nat) : Bool := decide (lo / 64 * 64 ≤ o ∧ o < (hi + 63) / 64 * 64)
  let s := (x.ce.filter inside).foldl (fun t o => raiseEvent 0 (8 + site) 0x020 (BitVec.ofNat 32 o)
    (t.incRf (siteBase site + 0x9010) 0 32 1)) s
  (x.ue.filter (fun o => inside o && !poisonedByte s (billetAddr site o))).foldl (fun t o => billetUe site o t) s
/-- What a bank finds at one line for a request: in the buffer's line, and in memory where the request reads it. -/
def lineEcc (site line : Nat) (reads : Bool) (view : DWord) (x : Ecc) (s : State) : State :=
  (x.spec.filter (fun o => decide (o / 64 = line / 64))).foldl (fun t o => specUe (siteEp site) view o t)
    (if reads then billetEcc site line (line + 64) x s else s)

/-! ### Accesses of the site's own cores -/

/-- The last line of a billet access of a core is served: a store is applied to committed data, a load takes it; a
poisoned byte gives the poison value (R83, R84, R146, R267, R440). (DEDUCED, log 16, log 53) -/
def serveBillet (c : Nat) (b : BilletOp) (s : State) : State :=
  let site := c / 256
  let e := siteEp site
  let a := billetAddr site b.off
  if b.store then
    let s := underOld b.old (fun s => mirrorWrite e b.off a b.bytes (memWrite a b.bytes b.data
      (settleLines e (b.off / 64) ((b.off + b.bytes - 1) / 64) s))) s
    s.modCore c (fun k => releasePause { k with billet := k.billet.filter (fun o => decide (o.no ≠ b.no)) })
  else
    let r := readBytes { s with epochs := b.old.getD s.epochs } e 1 (billetAddr site 0) b.off b.bytes
    let v := if r.2 then 2 ^ (8 * b.bytes) - 1 else r.1
    s.modCore c (fun k => { k with billet := k.billet.map (fun o =>
      if o.no = b.no then { o with data := v, served := true, lines := o.lines + 1 } else o) })

/-! ### Banks of a billet (R161–R168) -/

/-- What a requester of a bank has waiting there: 0–15 the cluster ports, 16 the hearth port, 17 the scrubber with the
drain of the speculation buffer (R164, R268). -/
inductive BankJob where
  | own (c : Nat) (b : BilletOp)
  | req (i : Item)
  | scrub
  | drain
  deriving DecidableEq, Repr

/-- Whether some of the lines an access has still to be served lie in a slice. -/
def inSlice (s : State) (site slice off n k : Nat) : Bool :=
  (linesFrom off n k).any (fun o => decide (sliceOf s site o = slice))
/-- Whether the next of its lines lies in a bank. -/
def nextAt (s : State) (site slice bank off n k : Nat) : Bool :=
  match linesFrom off n k with
  | o :: _ => decide (sliceOf s site o = slice ∧ bankOf o = bank)
  | [] => false

/-- Accesses of the cores of a cluster to a slice that are not served: those that have come to it, or those that wait for
a credit of it (R164). -/
def ownAt (s : State) (site slice r : Nat) (there : Bool) : List (Nat × BilletOp) :=
  ((List.range 16).map (clusterCore site r)).flatMap (fun c =>
    ((s.core c).billet.filter (fun b => !b.served && decide (b.there = there) && inSlice s site slice b.off b.bytes b.lines)).map
      (fun b => (c, b)))
/-- The one of a list of accesses that comes first in some order. -/
def firstOwn (key : BilletOp → Nat) (l : List (Nat × BilletOp)) : Option (Nat × BilletOp) :=
  l.foldl (fun best x => match best with | some y => if key x.2 < key y.2 then some x else best | none => some x) none
/-- The access of a cluster's cores that was issued first takes the next credit of a slice that its port has free, and comes
to the slice (R164). (DEDUCED, log 53) -/
def admitOwn (site slice r : Nat) : Nat → State → State
  | 0, s => s
  | n + 1, s =>
    if 8 ≤ portLoad s site slice r then s
    else
      match firstOwn BilletOp.no (ownAt s site slice r false) with
      | none => s
      | some (c, b) =>
        admitOwn site slice r n (s.modCore c (fun k => { k with billet := k.billet.map (fun y =>
          if y.no = b.no then { y with there := true, at' := s.now } else y) }))
def admitSlice (site slice : Nat) (s : State) : State := (List.range 16).foldl (fun t r => admitOwn site slice r 8 t) s

/-- The oldest access of a cluster port to a slice: its accesses to one slice are served in the order of their arrival
there, one that is part served first (R165). (DEDUCED, log 16, log 53) -/
def sliceHead (s : State) (site slice r : Nat) : Option BankJob :=
  let e := siteEp site
  let begun (b : BilletOp) : Nat := if b.lines ≠ 0 then 0 else b.at' + 1
  let own := firstOwn begun (ownAt s site slice r true)
  let reqs := s.pool.filter (fun i => wantsMem s e i && decide (bankPort s site i.pkt = r) &&
    inSlice s site slice (reqOff i.pkt) (reqBytes i.pkt) i.lines)
  let it := match reqs.find? (fun i => decide (i.lines ≠ 0)) with | some i => some i | none => reqs.head?
  match own, it with
  | some (c, b), some i => if b.lines = 0 ∧ (i.lines ≠ 0 ∨ i.since < b.at') then some (.req i) else some (.own c b)
  | some (c, b), none => some (.own c b)
  | none, some i => some (.req i)
  | none, none => none

/-- Key of a slice's scrubber, of its line and of the tick after its read began to wait; and of the tick its interval
began (R167). -/
def scrubKey (site slice : Nat) : Nat := 16 * site + slice
def scrubTimer (site slice : Nat) : Nat := 1000 + scrubKey site slice
/-- Offset of line `n` of a slice (R162). -/
def sliceOffset (s : State) (site slice n : Nat) : Nat :=
  if s.rf (siteBase site + 0x9000) 16 1 = 1 then slice * 2 ^ 24 + 64 * n
  else n / 64 * 2 ^ 16 + slice * 2 ^ 12 + n % 64 * 64
/-- Offset of the line the scrubber of a slice reads next. -/
def scrubLine (s : State) (site slice : Nat) : Nat :=
  sliceOffset s site slice (Tab.get 0 s.scrubAt (scrubKey site slice) % 262144)
/-- Whether a scrub read waits at a bank. -/
def scrubHere (s : State) (site slice bank : Nat) : Bool :=
  decide (Tab.get 0 s.scrubT (scrubKey site slice) ≠ 0) && decide (bankOf (scrubLine s site slice) = bank)

/-- Whether something in service at a home sees the states before an ECOMMIT (R265). -/
def oldSeen (s : State) (e : Nat) : Bool :=
  s.pool.any (fun i => i.old.isSome && !isResp i.pkt && decide (reqEp i.pkt = e)) ||
    (isStack e && (List.range 256).any (fun i => (s.core (256 * siteOfEp e + i)).billet.any (fun b => b.old.isSome && !b.served)))
/-- Whether a line of a committed epoch may be written back now: in order, with room in the mirror (R266, R440), and no
request in service that sees the states before the ECOMMIT (R265). -/
def mayDrain (s : State) (l : SpecLine) : Bool :=
  decide (s.epochSt l.ep.val l.epoch.toNat = .commit) && decide ((drainLines s l.ep.val l.line).head? = some l) &&
    !mirrorFull s l.ep.val (64 * l.line) && !oldSeen s l.ep.val
/-- Whether a line waits to be written back at a bank. -/
def drainHere (s : State) (site slice bank : Nat) : Bool :=
  s.spec.any (fun l => decide (l.ep.val = siteEp site ∧ sliceOf s site (64 * l.line) = slice ∧ bankOf (64 * l.line) = bank) &&
    mayDrain s l)

/-- Turn of a bank: the last requester it served; and whether the scrubber's turn last went to a drain. -/
def bankKey (site slice bank : Nat) : Nat := 900000 + (16 * site + slice) * 4 + bank
def shareKey (site slice bank : Nat) : Nat := 910000 + (16 * site + slice) * 4 + bank

/-- What a requester has next at a bank; the hearth port has 16 credits of a slice, which the first of its requests to come
there hold (R164). -/
def bankHead (s : State) (site slice bank r : Nat) : Option BankJob :=
  let e := siteEp site
  let ok (off n k : Nat) (w : Bool) : Bool := nextAt s site slice bank off n k && !(w && mirrorFull s e off)
  if r = 17 then
    (match scrubHere s site slice bank, drainHere s site slice bank with
     | true, true => if Tab.get 0 s.rr (shareKey site slice bank) = 1 then some .scrub else some .drain
     | true, false => some .scrub
     | false, true => some .drain
     | false, false => none)
  else if r = 16 then
    let credited := (s.pool.filter (fun i => wantsMem s e i && decide (bankPort s site i.pkt = 16) &&
      inSlice s site slice (reqOff i.pkt) (reqBytes i.pkt) i.lines)).take 16
    (nextOfHome s e (4 * slice + bank) (credited.filter (fun i =>
      ok (reqOff i.pkt) (reqBytes i.pkt) i.lines i.wr))).map .req
  else
    match sliceHead s site slice r with
    | some (.own c b) => if ok b.off b.bytes b.lines b.store then some (.own c b) else none
    | some (.req i) => if ok (reqOff i.pkt) (reqBytes i.pkt) i.lines i.wr then some (.req i) else none
    | _ => none

/-- The requester a bank serves next, in round-robin order, and its access; a scrub read that has waited 256 cycles of
2.0 GHz goes first (R164, R167). (DEDUCED, log 16, log 17) -/
def bankNext (s : State) (site slice bank : Nat) : Option (Nat × BankJob) :=
  let late := scrubHere s site slice bank && decide (Tab.get 0 s.scrubT (scrubKey site slice) - 1 + 32 ≤ s.now)
  let pick := if late then some 17
    else rotate 18 (Tab.get 17 s.rr (bankKey site slice bank)) (fun r => (bankHead s site slice bank r).isSome)
  pick.bind (fun r => (bankHead s site slice bank r).map (fun j => (r, j)))

/-- A bank's turn is taken. -/
def bankTook (site slice bank r : Nat) (drain : Bool) (s : State) : State :=
  let rr := Tab.put 17 s.rr (bankKey site slice bank) r
  { s with rr := if r = 17 then Tab.put 0 rr (shareKey site slice bank) (if drain then 1 else 0) else rr }

/-- Passes every slice of a site has completed. -/
def scrubPasses (s : State) (site : Nat) : Nat :=
  ((List.range 16).map (fun k => Tab.get 0 s.scrubAt (scrubKey site k) / 262144)).foldl min
    (Tab.get 0 s.scrubAt (scrubKey site 0) / 262144)
/-- The scrubber reads its next line of a slice (R167); BILLET_SCRUB_PASS stops at all ones. (DESIGN CHOICE, log 17) -/
def scrubServe (site slice : Nat) (x : Ecc) (s : State) : State :=
  let k := scrubKey site slice
  let o := scrubLine s site slice
  let was := scrubPasses s site
  let s := billetEcc site o (o + 64) x s
  let s := { s with scrubAt := Tab.put 0 s.scrubAt k (Tab.get 0 s.scrubAt k + 1), scrubT := Tab.put 0 s.scrubT k 0 }
  if was < scrubPasses s site then s.incRf (siteBase site + 0x901C) 0 32 1 else s

/-- One line of a request is served; with its last the home may apply it (R164, R205). -/
def reqServe (site slice bank r : Nat) (i : Item) (x : Ecc) (s : State) : State :=
  let e := siteEp site
  let s := oweCredit i.id (if r = 16 then tookTurn e (4 * slice + bank) i.pkt s else s)
  match linesFrom (reqOff i.pkt) (reqBytes i.pkt) i.lines with
  | [] => s
  | o :: rest =>
    lineEcc site o (readsMem i.pkt) (viewOf i.pkt) x
      (s.modItem i.id (fun j => { j with lines := j.lines + 1, loc := if rest = [] then .ready e else j.loc }))

/-- One line of a core's own access is served. -/
def ownServe (c : Nat) (b : BilletOp) (x : Ecc) (s : State) : State :=
  match linesFrom b.off b.bytes b.lines with
  | [] => s
  | o :: rest =>
    let s := lineEcc (c / 256) o (!b.store) 1 x s
    if rest = [] then serveBillet c b s
    else s.modCore c (fun k => { k with billet := k.billet.map (fun y => if y.no = b.no then { y with lines := y.lines + 1 } else y) })

/-- A bank serves the next requester in its round-robin order (R164); the drain's turn is COMMIT_DRAIN_WRITEBACK's.
(DEDUCED, log 16) -/
def bankServe (site slice bank : Nat) (x : Ecc) (s : State) : State :=
  if islandOnly s site || decide (s.devState ≠ 0) then s
  else
    let s := admitSlice site slice s
    match bankNext s site slice bank with
    | some (r, .own c b) => ownServe c b x (bankTook site slice bank r false s)
    | some (r, .req i) => reqServe site slice bank r i x (bankTook site slice bank r false s)
    | some (r, .scrub) => scrubServe site slice x (bankTook site slice bank r false s)
    | _ => s

/-- BILLET_REQUEST (R164). -/
def execBilletRequest (site : SiteId) (slice : Fin 16) (bank : Fin 4) (ecc : Ecc) (s : State) : Host.Outcome State Fault Refusal :=
  alive (bankServe site.val slice.val bank.val ecc) s

/-- The read of a slice begins to wait when ScrubInterval has passed since the one before began. -/
def scrubBegin (site now iv : Nat) (t : Tab Nat) (k : Nat) : Tab Nat :=
  if now < Tab.get 0 t (scrubTimer site k) + 250 * iv then t
  else
    let t := Tab.put 0 t (scrubTimer site k) now
    if Tab.get 0 t (scrubKey site k) = 0 then Tab.put 0 t (scrubKey site k) (now + 1) else t
/-- Every ScrubInterval microseconds a scrub read of each slice begins to wait for its bank (R167): now those of the
slices named, since the rule does not say that all begin at once. (DESIGN CHOICE, log 17) -/
def scrubNow (site : Nat) (slices : BitVec 16) (s : State) : State :=
  let iv := s.rf (siteBase site + 0x9000) 0 8
  if iv = 0 ∨ islandOnly s site = true ∨ s.devState ≠ 0 then s
  else { s with scrubT := ((List.range 16).filter (fun k => slices.getLsbD k)).foldl (scrubBegin site s.now iv) s.scrubT }
def execScrubRead (site : SiteId) (slices : BitVec 16) (s : State) : Host.Outcome State Fault Refusal :=
  alive (scrubNow site.val slices) s

/-- The offset that shows, after a change of SliceLocal, the byte another offset showed before: the bytes stay in their
slices (R162, R163). -/
def slicePlace (loc : Bool) (o : Nat) : Nat :=
  if loc then o / 2 ^ 12 % 16 * 2 ^ 24 + o / 2 ^ 16 * 2 ^ 12 + o % 2 ^ 12
  else o % 2 ^ 24 / 2 ^ 12 * 2 ^ 16 + o / 2 ^ 24 * 2 ^ 12 + o % 2 ^ 12
/-- A billet's bytes and poison marks under the other mapping of offsets. -/
def remapBillet (site : Nat) (loc : Bool) (s : State) : State :=
  let lo := billetAddr site 0
  let mine (a : Nat) : Bool := decide (lo ≤ a ∧ a < lo + 2 ^ 28)
  let place (a : Nat) : Nat := lo + slicePlace loc (a - lo)
  { s with
    mem := (s.mem.filter (fun x => mine x.1)).foldl (fun m x => Tab.put 0 m (place x.1) x.2) (s.mem.filter (fun x => !mine x.1))
    poison := (s.poison.filter mine).foldl (fun l a => setAdd l (place a)) (s.poison.filter (fun a => !mine a)) }

/-- A write of BILLET_CFG (R163). -/
def billetCfg (site : Nat) (v : Word) (s : State) : State :=
  let a := siteBase site + 0x9000
  let busy := (List.range 256).any (fun i =>
    let k := s.core (256 * site + i)
    !(decide (k.st = .idle ∨ k.st = .halted ∨ k.st = .trapped) && k.fe.isEmpty && k.bulk.isEmpty && k.billet.isEmpty))
  if fld v 16 1 = s.rf a 16 1 then s.plainWrite a v
  else if busy then s.setRf (a + 4) 0 1 1
  else remapBillet site (decide (fld v 16 1 = 1)) (s.plainWrite a v)
/-- BILLET_CFG_WRITE (R163). -/
def execBilletCfgWrite (site : SiteId) (val : Word) (s : State) : Host.Outcome State Fault Refusal :=
  alive (billetCfg site.val val) s

/-! ### Input queues (R207, R275) -/

/-- Endpoint of a place where a home applies requests. -/
def placeEp : Loc → Option Nat
  | .home e => some e
  | .ready e => some e
  | .store c => some (siteEp (c / 256))
  | _ => none

/-- Whether a billet under an internal reset makes a request wait: all but core-store requests, unless served (R387). -/
def islandHolds (s : State) (it : Item) : Bool :=
  match it.loc with
  | .home e => isStack e && islandOnly s (siteOfEp e) && (match reqTgt it.pkt with | .store _ _ => false | _ => true)
  | _ => false

/-- The ECOMMIT a home has in service. -/
def commitInService (s : State) (e : Nat) : Option Item :=
  s.pool.find? (fun i => decide (i.loc = .ready e) && decide (i.pkt.op = 0x1A#6) && !isResp i.pkt)

/-- Requests queued at a pseudo-channel. -/
def pcqLen (s : State) (k pc : Nat) : Nat := (s.pool.filter (fun i => decide (i.loc = .pcq k pc))).length

/-- Whether a home could take a request from its input queue now: it answers it, applies what needs no memory, or, at a
crucible, moves it into a queue with room (R264, R275). -/
def takeable (s : State) (e : Nat) (i : Item) : Bool :=
  if decide (itemStatus s i = 0) && memOp i.pkt then
    isCruc e && decide (s.devState = 0) && decide (pcqLen s (e / 5) (pcOf (reqOff i.pkt)) < 32) && !mirrorBlocked s e i
  else decide (itemStatus s i ≠ 0) ||
    (!lineBusy s 2 i && !(decide (i.pkt.op = 0x1A#6) && (commitInService s e).isSome))

/-- The request a home takes next from its input queue, by turns among sources (R207); at a crucible of each source only
its oldest: R275 does not say what the source is that a blocked request holds back, and the model takes the endpoint of
R207, and for a gateway each device it carries. (DESIGN CHOICE, log 18) -/
def nextTaken (s : State) (e : Nat) : Option Item :=
  let wait := s.pool.filter (fun i => inQueue e i && !islandHolds s i)
  let first (i : Item) : Bool :=
    match wait.find? (fun j => decide (srcPort s j.pkt = srcPort s i.pkt ∧ j.pkt.srcFab = i.pkt.srcFab)) with
    | some j => decide (j.id = i.id)
    | none => false
  nextOfHome s e 64 (wait.filter (fun i => takeable s e i && (!isCruc e || first i)))
/-- Whether it is a request's turn at its home: in its input queue, or at the banks of a core's store, where one that a
status stops needs none. -/
def homeTurn (s : State) (it : Item) : Bool :=
  match it.loc with
  | .home e => (match nextTaken s e with | some i => decide (i.id = it.id) | none => false)
  | .store c => (!underWay it && decide (itemStatus s it ≠ 0)) || (mustWake s it.pkt).isSome || decide (linesNow s c it ≠ 0)
  | _ => true
/-- A request is taken from its input queue. -/
def takeTurn (it : Item) (s : State) : State :=
  match it.loc with | .home e => tookTurn e 64 it.pkt s | .store c => tookBank c it s | _ => s

/-- The next request leaves the input queue of a crucible for its pseudo-channel's (R275): one that spans granules goes whole
to the queue, the bank and the row of its first, which R275 does not say. (DESIGN CHOICE, log 17) -/
def inputRelease (k : Nat) (s : State) : State :=
  let e := 5 * k + 2
  match nextTaken s e with
  | none => s
  | some i =>
    if wantsMem s e i then
      let s := oweCredit i.id (tookTurn e 64 i.pkt s)
      (match s.item i.id with
       | some j => s.moveItem j (.pcq k (pcOf (reqOff i.pkt)))
       | none => s)
    else s
/-- INPUT_QUEUE_RELEASE (R275). -/
def execInputQueueRelease (k : QuadId) (s : State) : Host.Outcome State Fault Refusal := alive (inputRelease k.val) s

/-! ### Applying a request and those merged into it (R204, R211) -/

/-- Requests held for a region that is being woken. -/
def heldFor (s : State) (r : Nat) : Nat := (s.pool.filter (fun i => i.held && decide (mustWake s i.pkt = some r))).length

/-- A home meets a request whose turn it is: it answers it with the status that stops it, wakes its region, waits, or
applies it by `f`, given the endpoint and the item; a store moves at most `n` lines. -/
def applyNow (n : Nat) (it : Item) (ok : Pkt → Bool) (f : Nat → Item → State → State) (s : State) : State :=
    match placeEp it.loc with
    | none => s
    | some e =>
      if it.held || it.lead.isSome || isResp it.pkt || toGuest it.pkt || !ok it.pkt || islandHolds s it then s
      else
        let st := if underWay it then 0 else itemStatus s it
        if st ≠ 0 then
          let s := match reqTgt it.pkt with
            | .store c _ => if st = 2 ∧ (s.core c).st = .fenced then countFenced c s else s
            | _ => s
          respondAll e it st (takeTurn it s)
        else
          match mustWake s it.pkt with
          | some r =>
            if s.regionState r = 2 ∧ 64 ≤ heldFor s r then respondAll e it 3 (takeTurn it s)
            else wakeRegion r (s.modItem it.id (fun i => { i with held := true }))
          | none =>
            if memOp it.pkt && !decide (it.loc = .ready e) then s
            else if memOp it.pkt && mirrorBlocked s e it then s
            else if lineBusy s n it then s
            else
              underOld it.old (f e it) (takeTurn it (if it.wr && decide (it.pkt.op.toNat < 0x18) then
                { s with wrLines := s.wrLines ++ lineKeys n it } else s))
/-- Lines of a core store an item at a home may move now. -/
def capOf (s : State) (it : Item) : Nat := match it.loc with | .store c => linesNow s c it | _ => 2
/-- A home meets a request in its turn, `f` being given the lines it may move. -/
def applyAt (id : Nat) (ok : Pkt → Bool) (f : Nat → Nat → Item → State → State) (s : State) : State :=
  match s.item id with
  | none => s
  | some it => if homeTurn s it then applyNow (capOf s it) it ok (f (capOf s it)) s else s

/-- Answer a request that was served. -/
def answer (e : Nat) (it : Item) (status : Nat) (val : Nat) (s : State) : State :=
  respondWith e it status (if isFred it.pkt then it.pkt.members.toNat else 1) false (BitVec.ofNat 64 val) [] s

/-- A read and those merged into it, which take the status of the entry (R211, R266). -/
def readHere (e : Nat) (it : Item) (s : State) : State :=
  let group := it :: s.merged it.id
  let st := firstStatus (group.map (fun m => (loadAt m.pkt s).1))
  group.foldl (fun t m =>
    let v := (loadAt m.pkt s).2
    respondWith e m st 1 false (if st = 0 then BitVec.ofNat 64 v else 0)
      (if m.pkt.var.toNat = 0 ∨ st ≠ 0 then [] else unpackNat v (reqBytes m.pkt / 64)) t) s
/-- A read of a core store takes at most `cap` lines at once (R25). -/
def readStore (cap : Nat) (e : Nat) (it : Item) (s : State) : State :=
  match reqTgt it.pkt with
  | .store c o =>
    let n := stepLines cap it
    if it.pkt.var.toNat ≤ 1 then readHere e it s
    else
      let data := it.pkt.data ++ (List.range n).map (fun i => storeLine s.mem c (o / 64 + it.lines + i))
      if it.lines + n = lastLine it.pkt + 1 - firstLine it.pkt then respondWith e it 0 1 false 0 data s
      else (oweCredit it.id s).modItem it.id (fun i =>
        { s.arriving i with lines := it.lines + n, since := i.since, pkt := { i.pkt with data := data } })
  | _ => readHere e it s

/-- A store to a core store writes at most `cap` lines at once; each counts as its data is in its bank (R25, R33). -/
def storeHere (cap : Nat) (e : Nat) (it : Item) (s : State) : State :=
  match reqTgt it.pkt with
  | .store c o =>
    let n := stepLines cap it
    if reqBytes it.pkt ≤ 64 ∨ n = 0 then (let r := storeAt it.pkt s; answer e it r.1 0 r.2)
    else
      let s := arrive c (o / 64 + it.lines) n 1
        { s with mem := Memory.write s.mem (storeAddr c (o + 64 * it.lines)) (64 * n) (packNat (it.pkt.data.drop it.lines)) }
      if it.lines + n = it.pkt.len.toNat then answer e it 0 0 s
      else (oweCredit it.id s).modItem it.id (fun i => { s.arriving i with lines := it.lines + n, since := i.since })
  | _ =>
    let r := storeAt it.pkt s
    answer e it r.1 0 r.2

/-- An atomic with those merged into it, answered as if applied one after another; in a core store each arrives (R33,
R203, R211). (DEDUCED, log 15) -/
def atomicHere (e : Nat) (it : Item) (s : State) : State :=
  let group := it :: s.merged it.id
  let n := reqBytes it.pkt
  let next (old : Nat) (m : Item) : Nat := fatVal m.pkt.var.toNat (8 * n) old m.pkt.p0.toNat m.pkt.p1.toNat
  match reqTgt it.pkt with
  | .store _ _ =>
    group.foldl (fun t m => let r := atomicAt m.pkt t; answer e m r.1 r.2.1 r.2.2) s
  | _ =>
    let s := settleLine e (firstLine it.pkt) s
    let a := memBase e + reqOff it.pkt
    if poisonedIn s a n then respondAll e it 8 s
    else
      let r := group.foldl (fun (acc : Nat × State) m => (next acc.1 m, answer e m 0 acc.1 (noteForeign e m.pkt acc.2)))
        (Memory.read s.mem a n, s)
      mirrorWrite e (reqOff it.pkt) a n (memWrite a n r.1 r.2)

/-- A reduction, whose merged contributions its entry already holds; every non-owner's is noted (R198, R211, R213). In a
core store it takes at most `cap` lines at once, each counted as it is in its bank (R25, R33). -/
def reduceHere (cap : Nat) (e : Nat) (it : Item) (s : State) : State :=
  match reqTgt it.pkt with
  | .store c o =>
    let n := stepLines cap it
    let a := storeAddr c (o + 64 * it.lines)
    let v := fredVal it.pkt.var.toNat (it.pkt.op.toNat - 0x10) (Memory.read s.mem a (64 * n)) (packNat (it.pkt.data.drop it.lines))
    let s := arrive c (o / 64 + it.lines) n it.pkt.members.toNat { s with mem := Memory.write s.mem a (64 * n) v }
    if firstLine it.pkt + it.lines + n = lastLine it.pkt + 1 then answer e it 0 0 s
    else (oweCredit it.id s).modItem it.id (fun i => { s.arriving i with lines := it.lines + n, since := i.since })
  | _ =>
  let r := reduceAt it.pkt it.pkt.members.toNat s
  if r.1 ≠ 0 then respondAll e it r.1 r.2
  else
    (r.2.merged it.id).foldl (fun t m =>
      respondWith e m 0 1 false 0 [] (if memOp it.pkt then noteForeign e m.pkt t else t)) (answer e it 0 0 r.2)

/-- FAT_AT_HOME (R203). -/
def execFatAtHome (id : Nat) (s : State) : Host.Outcome State Fault Refusal := alive (applyAt id isFat (fun _ => atomicHere)) s
/-- FRED_AT_HOME (R213). -/
def execFredAtHome (id : Nat) (s : State) : Host.Outcome State Fault Refusal := alive (applyAt id isFred reduceHere) s

/-- OWNX and OWNR (R197). -/
def ownHere (take : Bool) (e : Nat) (it : Item) (s : State) : State :=
  let r := ownRequest e take it.pkt s
  respond e it r.1 r.2
def execOwnxAtHome (id : Nat) (s : State) : Host.Outcome State Fault Refusal :=
  alive (applyAt id (fun p => decide (p.op = 0x18#6)) (fun _ => ownHere true)) s
def execOwnrAtHome (id : Nat) (s : State) : Host.Outcome State Fault Refusal :=
  alive (applyAt id (fun p => decide (p.op = 0x19#6)) (fun _ => ownHere false)) s

/-! ### Epochs (R264, R265, R268) -/

/-- A home takes an ECOMMIT into service, one at a time. -/
def commitHere (e : Nat) (it : Item) (s : State) : State :=
  if (commitInService s e).isSome then s
  else (oweCredit it.id s).modItem it.id (fun i => { i with loc := .ready e, since := s.now })
def execEcommitAtHome (id : Nat) (s : State) : Host.Outcome State Fault Refusal :=
  alive (applyAt id (fun p => decide (p.op = 0x1A#6)) (fun _ => commitHere)) s
/-- Whether a request is in service at a home: taken from its input queue and not yet applied (R265). -/
def inService (e : Nat) (i : Item) : Bool :=
  !isResp i.pkt && decide (i.pkt.op.toNat ≠ 0x1A) &&
    (match i.loc with | .ready x => decide (x = e) | .pcq k _ => decide (5 * k + 2 = e) | .home x => decide (x = e ∧ 0 < i.lines) | _ => false)
/-- What is in service keeps the states it found, and so does an access of a stack's own core that is part served (R265). -/
def keepOld (e : Nat) (s : State) : State :=
  let keep (b : BilletOp) : BilletOp :=
    if b.lines ≠ 0 ∧ b.served = false ∧ b.old.isNone = true then { b with old := some s.epochs } else b
  { s with
    pool := s.pool.map (fun i => if inService e i && i.old.isNone then { i with old := some s.epochs } else i)
    cores := if isStack e then s.cores.map (fun x =>
      if x.1 / 256 = siteOfEp e then (x.1, { x.2 with billet := x.2.billet.map keep }) else x) else s.cores }
/-- tEC after its service began, an ECOMMIT changes the states and completes OK (R264, R265). -/
def epochChange (e : Nat) (s : State) : State :=
  match commitInService s e with
  | some it =>
    if it.since + 2 ≤ s.now then
      respond e it 0 (changeEpochs e (it.pkt.p0 &&& ~~~1#64) (it.pkt.p1 &&& ~~~1#64) (keepOld e s))
    else s
  | none => s
def execEpochStateChange (e : EpId) (s : State) : Host.Outcome State Fault Refusal := alive (epochChange e.val) s

/-- The crucible's own request that writes a line back: an ordinary write in its pseudo-channel's queue (R268); `job` and
the other fields no rule of it names are 0. -/
def drainPkt (k : Nat) (l : SpecLine) : Pkt :=
  { dst := gfa 0 (5 * k + 2) (64 * l.line), cls := true, op := 3, var := 0, srcFab := 0, srcEp := BitVec.ofNat 5 (5 * k + 2)
    srcCore := 0, eng := 3, tag := 0, ord := 1, flag := false, job := 0, seq := 0, len := 1, redId := 0, mcKind := 0
    members := 0, epoch := l.epoch, p0 := 0, p1 := 0, comp := 0, data := [l.data] }
/-- Whether an item is a crucible's own access: a drain's write or a patrol scrub's read. -/
def ownAccess (i : Item) : Bool := decide (i.pkt.eng = 3#2)

/-- A line of a draining epoch is written back, in order, or freed (R266, R268, R270): in a billet in the bank's turn, in
a crucible as a write that its pseudo-channel serves. -/
def drainLine (e n line : Nat) (x : Ecc) (s : State) : State :=
  if isStack e && islandOnly s (siteOfEp e) then s
  else
    match specAt s e line n, s.epochSt e n with
    | some l, .commit =>
      if !mayDrain s l then s
      else if isStack e then
        let site := siteOfEp e
        let slice := sliceOf s site (64 * line)
        let bank := bankOf (64 * line)
        if bankNext s site slice bank = some (17, .drain) then
          let s := (x.spec.filter (fun o => decide (o / 64 = line))).foldl (fun t o =>
            match specAt t e line n with | some y => lineUe y o t | none => t) (bankTook site slice bank 17 true s)
          (match specAt s e line n with | some y => writeBack y s | none => s)
        else s
      else
        let k := e / 5
        let pc := pcOf (64 * line)
        if 32 ≤ pcqLen s k pc ∨
            s.pool.any (fun i => ownAccess i && decide (i.loc = .pcq k pc ∧ i.pkt.op = 3#6 ∧ reqOff i.pkt = 64 * line ∧ i.pkt.epoch = l.epoch)) = true then s
        else { s with pool := s.pool ++ [{ newReq (drainPkt k l) (.pcq k pc) e none s with pkt := drainPkt k l }]
                      nextId := s.nextId + 1 }
    | some l, .discard =>
      if oldSeen s e then s
      else { s with spec := s.spec.filter (fun x => decide (x ≠ l)) }
    | _, _ => s
def execCommitDrainWriteback (e : EpId) (epoch : BitVec 6) (line : DrainTurn) (s : State) : Host.Outcome State Fault Refusal :=
  alive (drainLine e.val epoch.toNat line.line line.ecc) s
/-- EPOCH_FREE (R268). -/
def execEpochFree (e : EpId) (epoch : BitVec 6) (s : State) : Host.Outcome State Fault Refusal :=
  alive (freeEpoch e.val epoch.toNat) s

/-! ### Held requests (R188, R237, R365) -/

/-- Whether a region a request waits for has come on. -/
def awake (s : State) (p : Pkt) : Bool := (mustWake s p).isNone
/-- A held request goes on: injected by its engine, released by its gateway in its stream's sequence, or admitted at its
home; one whose source's earlier Seq has not come in the time of R256 waits for it no longer (DESIGN CHOICE, log 24). -/
def releaseHeld (id : Nat) (flagged : Bool) (s : State) : State :=
  match s.item id with
  | none => s
  | some it =>
    if let .gwIn g := it.loc then
      (match it.frame with
       | some f => if flagged || toRelay s g it then s else releaseStream g f.src.toNat f.ctrl s
       | none => s)
    else if !it.held then s
    else
      let s := if seqMissing s it.pkt && waitedLong s it then passGap it.pkt s else s
      match it.loc with
      | .engine => if flagged || mustHold s it then s else s.modItem id (fun i => { i with held := false })
      | .home e =>
        if mustWait s it || decide (flagged ≠ (it.pkt.flag && it.chk.isNone)) || !awake s it.pkt then s else takeIn e id s
      | .store _ =>
        if mustWait s it || decide (flagged ≠ (it.pkt.flag && it.chk.isNone)) || !awake s it.pkt then s else checkItem id s
      | _ => s
/-- HELD_REQUEST_RELEASE (R188). -/
def execHeldRequestRelease (id : Nat) (s : State) : Host.Outcome State Fault Refusal := alive (releaseHeld id false) s
/-- FLAG_WRITE_RELEASE (R237). -/
def execFlagWriteRelease (id : Nat) (s : State) : Host.Outcome State Fault Refusal := alive (releaseHeld id true) s

/-! ### Ownership registers (R196, R199) -/

/-- Whether an endpoint has an ownership table: a stack or a crucible. -/
def hasHome (e : Nat) : Bool := isStack e || isCruc e
/-- OWN_CFG_WRITE (R196). -/
def execOwnCfgWrite (e : EpId) (val : Word) (s : State) : Host.Outcome State Fault Refusal :=
  if hasHome e.val then alive (writeOwnCfg e.val val) s else .refused .noSuchPart
/-- OWN_FORCE_REL_REGION (R199). -/
def execOwnForceRelRegion (e : EpId) (off : BitVec 53) (s : State) : Host.Outcome State Fault Refusal :=
  if hasHome e.val then alive (forceRelease e.val false off.toNat) s else .refused .noSuchPart
/-- OWN_FORCE_REL_ALL (R199). -/
def execOwnForceRelAll (e : EpId) (s : State) : Host.Outcome State Fault Refusal :=
  if hasHome e.val then alive (forceRelease e.val true 0) s else .refused .noSuchPart

/-! ### Responses at a core or a bulk engine (R30, R32, R181) -/

/-- What a response brings a destination: its data, or poison (R30, R146). -/
def respVal (d : Dest) (p : Pkt) : Nat :=
  if compStatus p ≠ 0 then 2 ^ 4096 - 1
  else match d with
    | .x _ => p.p0.toNat
    | _ => packNat p.data

/-- A response completes its entry in the fabric engine of its core: data, then the entry, then the count (R30, R32). A
block load's lines reach the core store as its banks take them, at most `cap` now, and it is counted after the last (R25,
R89). -/
def coreResp (cap : Nat) (it : Item) (s : State) : State :=
  let c := srcCoreIdx it.pkt
  let p := it.pkt
  match Tab.get none (s.core c).fe p.tag.toNat with
  | none => s.dropItem it.id
  | some n =>
    let finish (s : State) : State :=
      completeTally c n.tc.toNat (compCount p) (compStatus p)
        ((s.dropItem it.id).modCore c (fun k => { k with fe := Tab.put none k.fe p.tag.toNat none }))
    match n.dst with
    | .block a lines =>
      let m := min cap (lines - it.lines)
      if m = 0 ∧ it.lines ≠ lines then s
      else
      let s := tookBank c it s
      let s := { s with mem := Memory.write s.mem (storeAddr c (a + 64 * it.lines)) (64 * m) (respVal n.dst p / 2 ^ (512 * it.lines)) }
      if it.lines + m = lines then finish s
      else s.modItem it.id (fun i => { s.arriving i with lines := it.lines + m, since := i.since })
    | d => finish (s.modCore c (loadDest d (respVal d p)))

end Sys2Proof.Machine
end

