-- ==== Sys2Proof/Machine/Gateways.lean ====
section
/-! DEFINITION. Ports in training and service (R248–R251), link frames (R253, R254), retransmission and dead streams
(R255–R257). -/

namespace Sys2Proof.Machine

/-! ### State of a port -/

def halfCode : Half → Nat
  | .full => 0
  | .a => 1
  | .b => 2
/-- Keys of the tick a port's phase began, of its failed slots, of an identity exchange that is due (R250), and of the slot,
plus one, that its slot 31 carries (R249). -/
def portKey (g p : Nat) (h : Half) : Nat := (g * 12 + p) * 4 + halfCode h
def badKey (g p : Nat) : Nat := 10000 + g * 12 + p
def dueKey (g p : Nat) (h : Half) : Nat := 20000 + portKey g p h
def spareKey (g p : Nat) : Nat := 30000 + g * 12 + p
def setPortState (g p : Nat) (h : Half) (st : Nat) (s : State) : State :=
  { s.setRf (statAddr g p h) 29 3 st with portT := Tab.put 0 s.portT (portKey g p h) s.now }

/-- The ports a GW_PORT_CFG describes (R248). -/
def halvesOf (s : State) (g p : Nat) : List Half := if portSplit s g p then [.a, .b] else [.full]
def halfFits (s : State) (g p : Nat) (h : Half) : Bool := (halvesOf s g p).contains h
/-- Slots of a port or half: data, control, and its spare (R246). -/
def dataSlots : Half → List Nat
  | .full => List.range 30
  | .a => List.range 15
  | .b => (List.range 15).map (· + 15)
def ctrlSlot : Half → Nat
  | .b => 31
  | _ => 30
def minLanes : Half → Nat
  | .full => 15
  | _ => 8
/-- Mask of every slot of a port or half. -/
def slotMask (h : Half) : Nat := (dataSlots h).foldl (fun n i => n + 2 ^ i) (2 ^ ctrlSlot h + (if h = .full then 2 ^ 31 else 0))

/-- Working slots of a port (GW_PORT_LANES), and the ones of one half replaced. -/
def working (s : State) (g p : Nat) : Word := s.reg (portBase g p + 12)
def setWorking (g p : Nat) (h : Half) (m : Nat) (s : State) : State :=
  s.setReg (portBase g p + 12) ((working s g p &&& ~~~(BitVec.ofNat 32 (slotMask h))) ||| BitVec.ofNat 32 m)
/-- Working data lanes of a mask: on a full port the spare counts while the control slot works. -/
def dataLanes (h : Half) (m : Nat) : Nat :=
  ((dataSlots h).filter (fun i => Nat.testBit m i)).length +
    (if h = .full ∧ Nat.testBit m 30 = true ∧ Nat.testBit m 31 = true then 1 else 0)
def showLanes (g p : Nat) (h : Half) (s : State) : State :=
  s.setRf (statAddr g p h) 10 5 (dataLanes h (working s g p).toNat)

/-- A port or half loses its lanes. -/
def clearLanes (g p : Nat) (h : Half) (s : State) : State := showLanes g p h (setWorking g p h 0 s)

/-- Whether any port of the mirror link is UP, as PAIR_STATUS.LinkUp shows (R439). -/
def showMirror (s : State) : State :=
  if s.pins.pairEn then
    let up := (List.range 4).any (fun i =>
      (halvesOf s 3 (8 + i)).any (fun h => decide (portState s 3 (8 + i) h = 3)))
    let s := s.setRf 0x500004 26 1 (if up then 1 else 0)
    { s with mirDown := if up then none else some (s.mirDown.getD s.now) }
  else s

/-- After a change of a port's state. -/
def portMoved (s : State) : State := portsChanged (showMirror s)

/-- Training may begin: the own fabric number is valid, or the port belongs to the mirror link (R250, R439). -/
def mayTrain (s : State) (g p : Nat) : Bool := s.fabValid || mirrorPort s g p
def beginTraining (g p : Nat) (h : Half) (s : State) : State :=
  if mayTrain s g p then setPortState g p h 2 s else setPortState g p h 1 s

/-- A port or half goes DOWN, with event 0x043 if it leaves UP, and begins to train again at once (R250, R251). -/
def portDown (g p : Nat) (h : Half) (s : State) : State :=
  let up := decide (portState s g p h = 3)
  let s := clearLanes g p h (setPortState g p h 1 s)
  beginTraining g p h (portMoved (if up then raiseEvent 2 (20 + g) 0x043 (BitVec.ofNat 32 (12 * g + p)) s else s))

/-- Whether the peer that reported is the one expected (R250). -/
def peerOk (s : State) (g p : Nat) (h : Half) (fab : Nat) : Bool :=
  let c := s.reg (portBase g p)
  if h = .b then decide (fld c 22 1 = 0 ∨ fld c 16 6 = fab) else decide (fld c 29 1 = 0 ∨ fld c 23 6 = fab)

/-- A port goes UP (R250 step 6). -/
def portUpNow (g p : Nat) (h : Half) (s : State) : State := portMoved (setPortState g p h 3 s)

/-! ### Commands to and events of a port -/

/-- A write of GW_PORT_CFG (R248, R250): a port in MISMATCH repeats its identity exchange at once. (DESIGN CHOICE, log
20) -/
def portCfg (g p : Nat) (v : Word) (s : State) : State :=
  let b := portBase g p
  let old := s.reg b
  let was := halvesOf s g p
  let s1 := s.plainWrite b v
  let new := s1.reg b
  if fld new 31 1 = 0 then
    let s2 := [Half.full, .a, .b].foldl (fun t h => clearLanes g p h (setPortState g p h 0 t)) s1
    portMoved ((s2.setReg (b + 4) 0).setReg (b + 8) 0)
  else if fld old 31 1 = 0 then (halvesOf s1 g p).foldl (fun t h => beginTraining g p h t) s1
  else if fld old 30 1 ≠ fld new 30 1 then
    let s2 := was.foldl (fun t h => portDown g p h t) s1
    (halvesOf s2 g p).foldl (fun t h => beginTraining g p h t) ((s2.setReg (b + 4) 0).setReg (b + 8) 0)
  else
    (halvesOf s1 g p).foldl (fun t h =>
      if portState t g p h = 4 then { t with portT := Tab.put 0 t.portT (dueKey g p h) 1 } else t) s1
/-- GW_PORT_CFG_WRITE (R250). -/
def execGwPortCfgWrite (g : QuadId) (p : PortId) (val : Word) (s : State) : Host.Outcome State Fault Refusal :=
  alive (portCfg g.val p.val val) s

/-- The slots that carry traffic after training, from those found good: a bad data or control slot of a full port moves
to the spare (R249, R250 step 4). None when too few remain. -/
def trainedSlots (h : Half) (good : Nat) : Option Nat :=
  let m := (dataSlots h).foldl (fun n i => if Nat.testBit good i then n + 2 ^ i else n) 0
  let ctrl := Nat.testBit good (ctrlSlot h)
  let spare := decide (h = .full) && Nat.testBit good 31
  let need := decide (((dataSlots h).filter (fun i => Nat.testBit good i)).length < (dataSlots h).length)
  let r := if ctrl then m + 2 ^ ctrlSlot h + (if spare && need then 2 ^ 31 else 0) else if spare then m + 2 ^ 31 else 0
  if (ctrl || spare) && decide (minLanes h ≤ dataLanes h r) then some r else none

/-- Both members of a pair report one strap (R438). -/
def roleConflict (s : State) : State :=
  if s.rf 0x500004 27 1 = 1 then s else raiseEvent 2 28 0x1E3 0 (s.setRf 0x500004 27 1 1)

/-- Whether a port and its peer are of one kind: a half-port connects only to a half-port (R248). -/
def peerFits (h : Half) (x : Peer) : Bool := decide ((h = .full) ↔ (x.half = 0#2))

/-- The identity exchange of step 5 (R250), or of the mirror link (R438, R439). A full port that meets a half-port, or a
half-port a full one, does not finish its training. (DESIGN CHOICE, log 20) -/
def identity (g p : Nat) (h : Half) (x : Peer) (s : State) : State :=
  if mirrorPort s g p then portUpNow g p h (if x.role = s.pins.role then roleConflict s else s)
  else
    let a := statAddr g p h
    let same := decide (portState s g p h = 4 ∧ s.rf a 23 6 = x.fab.toNat)
    let s := ((s.setRf a 23 6 x.fab.toNat).setRf a 17 6 x.port.toNat).setRf a 15 2 x.half.toNat
    if !peerFits h x then clearLanes g p h (setPortState g p h 5 s)
    else if peerOk s g p h x.fab.toNat then portUpNow g p h s
    else
      let s := setPortState g p h 4 s
      if same then s else raiseEvent 2 (20 + g) 0x044 (BitVec.ofNat 32 (12 * g + p)) s

/-- The slot that slot 31 of a trained full port carries, plus one: the control wavelength, else the first data slot not
good; 0 if it carries nothing (R249). -/
def spareFor (m good : Nat) : Nat :=
  if Nat.testBit m 31 = false then 0
  else if Nat.testBit good 30 = false then 31
  else match (List.range 30).find? (fun i => !Nat.testBit good i) with | some i => i + 1 | none => 0
/-- A lane that was out returns, with event 0x0C0 (R328). -/
def laneReturns (k : Nat) (s : State) : State :=
  raiseEvent 0 25 0x0C0 (BitVec.ofNat 32 k) (setLane k { laneAt s k with out := false, lastRet := some s.now } s)
/-- The lanes of the slots found good return as their port trains (R249, R329). -/
def lanesTrained (g p good : Nat) (s : State) : State :=
  ((List.range 32).filter (Nat.testBit good)).foldl (fun t n =>
    [5, 6].foldl (fun u kind =>
      let k := olaneKey kind (12 * g + p) n
      if (laneAt u k).out then laneReturns k u else u) t) s

/-- An enabled port trains to its end (R250). -/
def train (g p : Nat) (h : Half) (x : Peer) (lanes : Word) (s : State) : State :=
  let st := portState s g p h
  if portEnabled s g p && halfFits s g p h && mayTrain s g p && decide (st = 1 ∨ st = 2) &&
      decide (s.now ≤ Tab.get 0 s.portT (portKey g p h) + 325000) then
    match (if roleDark s g (portRole p) then none else trainedSlots h lanes.toNat) with
    | none => setPortState g p h 5 s
    | some m =>
      let bad := slotMask h - (slotMask h &&& lanes.toNat)
      let keep := Tab.get 0 s.portT (badKey g p) &&& (2 ^ 32 - 1 - slotMask h)
      let spare := if h = .full then spareFor m lanes.toNat else 0
      let s := { s with portT := Tab.put 0 (Tab.put 0 s.portT (badKey g p) (keep ||| bad)) (spareKey g p) spare }
      let s := lanesTrained g p (lanes.toNat &&& slotMask h) s
      identity g p h x (showLanes g p h (setWorking g p h m s))
  else s
/-- PORT_TRAINING (R250). -/
def execPortTraining (g : QuadId) (p : PortId) (half : Half) (peer : Peer) (lanes : Word) (s : State) : Host.Outcome State Fault Refusal :=
  alive (train g.val p.val half peer lanes) s

/-- PORT_TRAINING_TIMEOUT (R250): the first step that can be late ends 200 µs after the trigger. (DESIGN CHOICE, log 48) -/
def trainLate (g p : Nat) (h : Half) (s : State) : State :=
  let st := portState s g p h
  if portEnabled s g p && halfFits s g p h && mayTrain s g p && decide (st = 1 ∨ st = 2) &&
      decide (Tab.get 0 s.portT (portKey g p h) + 50000 ≤ s.now) then clearLanes g p h (setPortState g p h 5 s) else s
def execPortTrainingTimeout (g : QuadId) (p : PortId) (half : Half) (s : State) : Host.Outcome State Fault Refusal :=
  alive (trainLate g.val p.val half) s

/-- PORT_TRAINING_RETRY (R250). -/
def trainAgain (g p : Nat) (h : Half) (s : State) : State :=
  if portEnabled s g p && halfFits s g p h && decide (portState s g p h = 5) &&
      decide (Tab.get 0 s.portT (portKey g p h) + 25000000 ≤ s.now) then beginTraining g p h s else s
def execPortTrainingRetry (g : QuadId) (p : PortId) (half : Half) (s : State) : Host.Outcome State Fault Refusal :=
  alive (trainAgain g.val p.val half) s

/-- MISMATCH_RECHECK (R250). -/
def recheck (g p : Nat) (h : Half) (x : Peer) (s : State) : State :=
  if halfFits s g p h && decide (portState s g p h = 4) &&
      (decide (Tab.get 0 s.portT (dueKey g p h) = 1) || decide (Tab.get 0 s.portT (portKey g p h) + 25000000 ≤ s.now)) then
    identity g p h x { s with portT := Tab.put 0 s.portT (dueKey g p h) 0 }
  else s
def execMismatchRecheck (g : QuadId) (p : PortId) (half : Half) (peer : Peer) (s : State) : Host.Outcome State Fault Refusal :=
  alive (recheck g.val p.val half peer) s

/-- The half of a port that a slot belongs to (R246). -/
def slotHalf (s : State) (g p n : Nat) : Half :=
  if portSplit s g p then (if n < 15 ∨ n = 30 then .a else .b) else .full

/-- A slot moves to slot 31, which carries what it carried; the gateway announces it first (R249). -/
def moveToSpare (g p n rest : Nat) (s : State) : State :=
  let s := { s with sent := s.sent ++ [⟨g, p, 0, .swap n⟩], portT := Tab.put 0 s.portT (spareKey g p) (n + 1) }
  raiseEvent 0 (20 + g) 0x041 (BitVec.ofNat 32 ((12 * g + p) * 32 + n)) (showLanes g p .full (setWorking g p .full (rest + 2 ^ 31) s))

/-- What slot 31 carries moves back to the slot it came from (R328). (DESIGN CHOICE, log 20) -/
def moveBack (g p n : Nat) (s : State) : State :=
  let bad := Tab.get 0 s.portT (badKey g p) &&& (2 ^ 32 - 1 - 2 ^ n)
  let s := { s with sent := s.sent ++ [⟨g, p, 0, .swap 31⟩]
                    portT := Tab.put 0 (Tab.put 0 s.portT (spareKey g p) 0) (badKey g p) bad }
  showLanes g p .full (setWorking g p .full (((working s g p).toNat &&& (2 ^ 31 - 1)) ||| 2 ^ n) s)

/-- What slot 31 carries after a slot of its port has failed for which it is not free (R249): nothing where it failed itself,
the control wavelength where slot 30 did. -/
def spareHolds (g p : Nat) (h : Half) (n : Nat) (s : State) : State :=
  if h = .full ∧ 30 ≤ n then
    let s := { s with portT := Tab.put 0 s.portT (spareKey g p) (if n = 30 then 31 else 0) }
    if n = 30 then { s with sent := s.sent ++ [⟨g, p, 0, .swap n⟩] } else s
  else s
/-- A slot of an UP port fails (R249): a spare that carries nothing is only marked. The control wavelength of a full port
moves to slot 31 even where that carries data. (DESIGN CHOICE, log 20) -/
def laneFails (g p n : Nat) (s : State) : State :=
  let h := slotHalf s g p n
  let w := (working s g p).toNat
  let bad := Tab.get 0 s.portT (badKey g p)
  let s := if portState s g p h = 3 then { s with portT := Tab.put 0 s.portT (badKey g p) (bad ||| 2 ^ n) } else s
  if portState s g p h ≠ 3 ∨ Nat.testBit w n = false then s
  else
    let rest := w &&& (2 ^ 32 - 1 - 2 ^ n) &&& slotMask h
    let spare := decide (h = .full) && !Nat.testBit w 31 && !Nat.testBit bad 31
    let ctrl := if h = .full then !Nat.testBit rest 30 && !Nat.testBit rest 31 && decide (30 ≤ n) else decide (n = ctrlSlot h)
    if spare then moveToSpare g p n rest s
    else if ctrl || decide (dataLanes h rest < minLanes h) then portDown g p h s
    else raiseEvent 2 (20 + g) 0x042 (BitVec.ofNat 32 ((12 * g + p) * 32 + n))
      (showLanes g p h (setWorking g p h rest (spareHolds g p h n s)))
/-- PORT_LANE_FAILURE (R249). -/
def execPortLaneFailure (g : QuadId) (p : PortId) (slot : Fin 32) (s : State) : Host.Outcome State Fault Refusal :=
  alive (laneFails g.val p.val slot.val) s

/-- PORT_DOWN (R251). -/
def execPortDown (g : QuadId) (p : PortId) (half : Half) (s : State) : Host.Outcome State Fault Refusal :=
  alive (fun s => if halfFits s g.val p.val half && decide (portState s g.val p.val half = 3 ∨ portState s g.val p.val half = 4) then
    portDown g.val p.val half s else s) s

/-! ### Frames -/

/-- Whether a port takes frames of the fabric: it is UP, and no port of the mirror link (R250, R439). -/
def takesFrames (s : State) (g p : Nat) (h : Half) : Bool :=
  portEnabled s g p && halfFits s g p h && decide (portState s g p h = 3) && !mirrorPort s g p

/-- A frame's way from the gateway that receives it (R253, R254): to the gateway the route names, here or across the
hearth; one for another device is counted and discarded for its hop count or want of a route. R254 does not say where a
frame of a device that has no Valid entry is released: at the gateway that receives it, unacknowledged. (DESIGN CHOICE,
log 20) -/
def frameRoute (g : Nat) (f : Frame) (s : State) : State :=
  let own := decide (f.dst.toNat = s.fabNum)
  let d := if own then f.src.toNat else f.dst.toNat
  let f' : Frame := if own then f else { f with hop := f.hop + 1 }
  if !own && (decide (f.hop = 3#2) || !routeValid s d) then s.incRf (gwBase g) 0 16 1
  else if routeValid s d && decide (routeGw s d ≠ g) then relay g f' s
  else frameCrossed g f' s

/-- A gateway receives a frame on a port: none while F13 is reset or offline (R258), none before the own number is loaded
(R17), none that FEC or the CRC discards (R247). (DESIGN CHOICE, log 20) -/
def frameIn (g p : Nat) (h : Half) (f : Frame) (x : Fec) (s : State) : State :=
  if s.funcState 13 ≠ 0 ∨ s.fabValid = false ∨ takesFrames s g p h = false then s
  else
    let s := if f.ctrl then s
      else (s.incRf (portBase g p + 0x10) 0 32 x.corrected).incRf (portBase g p + 0x14) 0 32 x.lost
    if (if f.ctrl then x.badCrc else decide (x.lost ≠ 0)) then s else frameRoute g f s
/-- LINK_FRAME (R254). -/
def execLinkFrame (g : QuadId) (f : FrameIn) (s : State) : Host.Outcome State Fault Refusal :=
  alive (frameIn g.val f.port.val f.half f.frame f.fec) s

/-- An acknowledgement frees the frames it covers and returns their credits, and frames of every stream of the gateway
that waited for room are sent (R255). -/
def frameAck (f : Nat) (ctrl : Bool) (seq : BitVec 24) (s : State) : State :=
  let x := s.stream f ctrl
  if x.unacked.any (fun u => decide (u.seq = seq)) then
    let rest := (x.unacked.dropWhile (fun u => decide (u.seq ≠ seq))).drop 1
    pumpAll (routeGw s f) (showUnacked f (s.setStream f ctrl { x with unacked := rest, retries := 0 }))
  else s
/-- E2E_ACK (R255). -/
def execE2eAck (f : FabId) (ctrl : Bool) (seq : BitVec 24) (s : State) : Host.Outcome State Fault Refusal :=
  alive (frameAck f.val ctrl seq) s

/-- A field of GW_E2E_CFG; 0 is taken as 1 (R261). -/
def e2e (s : State) (lo n : Nat) : Nat := max 1 (s.rf 0x94200 lo n)

/-- The oldest frame of a stream has waited RtoUs: it is sent again with those after it, or the path is given up
(R255, R256). (DESIGN CHOICE, log 48) -/
def rtoNow (f : Nat) (ctrl : Bool) (s : State) : State :=
  let x := s.stream f ctrl
  match x.unacked with
  | [] => s
  | u :: _ =>
    if peerState s f ≠ 1 ∨ streamQuiet s f = true ∨ s.now < u.at' + 250 * e2e s 0 8 then s
    else if e2e s 8 4 ≤ x.retries + 1 then failover f (s.setStream f ctrl { x with retries := 0 })
    else resend f ctrl (s.setStream f ctrl { x with retries := x.retries + 1 })
/-- RTO_EXPIRY (R255). -/
def execRtoExpiry (f : FabId) (ctrl : Bool) (s : State) : Host.Outcome State Fault Refusal := alive (rtoNow f.val ctrl) s

/-- DEAD_TIMEOUT (R256). (DESIGN CHOICE, log 48) -/
def deadNow (f : Nat) (s : State) : State :=
  if peerState s f = 2 ∧ (s.stream f false).lostAt + 250 * e2e s 16 16 ≤ s.now then enterDead f s else s
def execDeadTimeout (f : FabId) (s : State) : Host.Outcome State Fault Refusal := alive (deadNow f.val) s

/-- A write of GW_ROUTE_f (R257). What becomes of an Up stream when the write clears Valid the rule does not say: its queued
and unacknowledged frames still go by the entry's ports. (DESIGN CHOICE, log 20) -/
def routeWrite (f : Nat) (v : Word) (s : State) : State :=
  let s := s.plainWrite (0x94000 + 4 * f) v
  if peerState s f = 1 then
    (if priUp s f then s.setStream f false { s.stream f false with onAlt := false } else if usedUp s f then s else failover f s)
  else tryResume f s
/-- GW_ROUTE_WRITE (R257). -/
def execGwRouteWrite (f : FabId) (val : Word) (s : State) : Host.Outcome State Fault Refusal := alive (routeWrite f.val val) s

/-- A write of GW_PEER_f.Revive (R257): both streams of the device begin again, whatever their state here, for the other
gateway's may be Dead. (DESIGN CHOICE, log 20) -/
def reviveNow (f : Nat) (s : State) : State :=
  if s.rf 0x8F004 0 4 ≠ 0 then s.setRf (gwBase (routeGw s f)) 31 1 1
  else tryResume f (enterWaiting f (s.setStream f false { s.stream f false with sync := true }))
/-- REVIVE (R257). -/
def execRevive (f : FabId) (s : State) : Host.Outcome State Fault Refusal := alive (reviveNow f.val) s

/-- COMB_ENTRY_FREE (R212). -/
def execCombEntryFree (g : QuadId) (s : State) : Host.Outcome State Fault Refusal := alive (entryFree g.val) s
/-- GATEWAY_REDHOLD_EXPIRY (R212). -/
def execGatewayRedholdExpiry (g : QuadId) (id : Nat) (s : State) : Host.Outcome State Fault Refusal :=
  alive (gwRelease g.val id) s

/-! ### JOB_KILL (R62, R199, R223, R224) -/

/-- Place of an armed tag, and a free place. -/
def armedAt (s : State) (tag : Nat) : Option Nat :=
  (List.range 8).find? (fun k => decide (s.reg (0x8F010 + 4 * k) = BitVec.ofNat 32 (2 ^ 31 + tag)))
def armFree (s : State) : Option Nat := (List.range 8).find? (fun k => decide (s.rf (0x8F010 + 4 * k) 31 1 = 0))
def killRefused (s : State) : State := s.setRf 0x8F004 30 1 1
/-- Record JOBKILL_STATUS.Armed. -/
def showArmed (s : State) : State :=
  s.setRf 0x8F004 0 4 ((List.range 8).filter (fun k => decide (s.rf (0x8F010 + 4 * k) 31 1 = 1))).length

/-- Whether an item is a request of the tag that a queue, an engine or a table still holds. -/
def killable (tag : Nat) (s : State) (i : Item) : Bool :=
  !isResp i.pkt && i.frame.isNone && decide (i.pkt.job.toNat = tag) && !underWay i &&
    (match i.loc with
     | .engine => true
     | .port _ => true
     | .l0 _ => true
     | .home _ => true
     | .pcq _ _ => true
     | .gwIn _ => true
     | .hub _ _ => true
     | .hubParked _ _ => true
     | .parked _ => true
     | .store _ => true
     | .gwOut _ => i.tab || i.held || (s.stream (dFab i.pkt.dst) (onLoop i.pkt)).queue.contains i.pkt
     | _ => false)

/-- Whether an item keeps a kill from finishing: such a request, or one whose frame has still to be released. -/
def killWaits (tag : Nat) (s : State) (i : Item) : Bool :=
  killable tag s i || (!isResp i.pkt && decide (i.pkt.job.toNat = tag) && i.frame.any (fun f => decide (f.dst.toNat = s.fabNum)))
/-- Endpoint at which a killed request is answered. -/
def killEp (i : Item) : Nat :=
  match i.loc with
  | .port e => e
  | .l0 e => e
  | .home e => e
  | .pcq k _ => 5 * k + 2
  | .gwIn g => gwEp g
  | .gwOut g => gwEp g
  | .store c => siteEp (c / 256)
  | _ => i.pkt.srcEp.toNat

/-- The flush of step 3: the tag's requests complete JOB_KILLED, and its ownership entries are freed. -/
def killFlush (tag : Nat) (s : State) : State :=
  let l := s.pool.filter (killable tag s)
  let s := withdraw (l.foldl (fun t i => respond (killEp i) i (rankStatus s i.pkt 9) t) s)
  let keep (p : Pkt) : Bool := decide (p.job.toNat ≠ tag) || isResp p
  { s with
    streams := (s.streams.map (fun e => (e.1, { e.2 with queue := e.2.queue.filter keep }))).filter
      (fun e => decide (e.2 ≠ Stream.reset))
    own := (s.own.map (fun e => (e.1, e.2.filter (fun o => decide (o.job.toNat ≠ tag))))).filter (fun e => !e.2.isEmpty)
    cores := s.cores.map (fun e =>
      let k := e.2
      if k.jobTag.toNat ≠ tag then e
      else
        let kill (p : BulkPkt) : BulkPkt := if p.st = 0 then { p with st := 3, status := 9 } else p
        (e.1, { k with bulk := k.bulk.map (fun d => { d with pkts := d.pkts.map kill }) })) }

/-- Cores that run the tag stop (R62). (DEDUCED, log 22) -/
def killCores (tag : Nat) (k : Core) : Core :=
  if k.jobTag.toNat = tag ∧ (k.st = .running ∨ k.st = .stopping) then { stopCore .kill k with cause := .kill } else k

/-- JOBKILL_CTRL.Kill (R223), broadcast to every die. (DEDUCED, log 22) -/
def jobKill (tag : Nat) (s : State) : State :=
  if tag = 0 then killRefused s
  else
    let run (s : State) : State :=
      let s := toDies (s.setRf 0x8F000 0 12 tag)
      let s := (List.range 8).foldl (fun t site => t.modSiteCores site (killCores tag)) (s.setRf 0x8F004 31 1 1)
      killFlush tag s
    match armedAt s tag, armFree s with
    | some _, _ => run s
    | none, some k => run (showArmed (s.setReg (0x8F010 + 4 * k) (BitVec.ofNat 32 (2 ^ 31 + tag))))
    | none, none => killRefused s
/-- JOB_KILL (R223): a register that does not answer in recovery (R418). -/
def execJobKill (tag : BitVec 12) (s : State) : Host.Outcome State Fault Refusal := alive (fun s => if s.recovery then s else jobKill tag.toNat s) s
/-- JOB_KILL_DONE (R223): the kill finishes, once nothing holds a request of the tag. -/
def execJobKillDone (s : State) : Host.Outcome State Fault Refusal :=
  alive (fun s => if s.pool.any (killWaits (s.rf 0x8F000 0 12) s) then s else s.setRf 0x8F004 31 1 0) s

/-- JOBKILL_CTRL.Release (R224): the tag's dead-target reports may be raised again (R222). (DEDUCED, log 22) -/
def jobRelease (tag : Nat) (s : State) : State :=
  match armedAt s tag with
  | none => killRefused s
  | some k =>
    showArmed { (s.setRf 0x8F000 0 12 tag).setReg (0x8F010 + 4 * k) 0 with reported := s.reported.filter (fun r => decide (r % 4096 ≠ tag)) }
/-- JOB_KILL_RELEASE (R224). -/
def execJobKillRelease (tag : BitVec 12) (s : State) : Host.Outcome State Fault Refusal := alive (fun s => if s.recovery then s else jobRelease tag.toNat s) s

end Sys2Proof.Machine
end

