-- ==== Sys2Proof/Machine/Crucibles.lean ====
section
/-! DEFINITION. The crucibles behind their input queues (R274–R286): row grants and the age cap, refresh, temperature,
error correction, patrol scrub, failed pseudo-channels and initialisation. -/

namespace Sys2Proof.Machine

/-! ### Error correction (R280) -/

/-- A line of HBM is found uncorrectable: both its bursts are poisoned, and it is counted and recorded. -/
def hbmUe (k off : Nat) (s : State) : State :=
  let b := crucBase k
  let line := off / 64 * 64
  let s := markPoison (hbmAddr k line) (markPoison (hbmAddr k (line + 32)) s)
  let s := (s.incRf (b + 0x18) 0 32 1).setReg64 (b + 0x20) (BitVec.ofNat 64 (line % 2 ^ 38 + 1))
  raiseEvent 2 (16 + k) 0x081 (BitVec.ofNat 32 (line / 64)) s

/-- The granules of `n` bytes that a list of offsets names, each once. -/
def granulesOf (n : Nat) (l : List Nat) : List Nat := (l.map (fun o => o / n * n)).eraseDups
/-- Findings of the read of the bursts that `inside` names: corrected bursts, corrected lines, lines with a burst found
uncorrectable that is not poisoned already, and reports of on-die ECC by stack. (DESIGN CHOICE, log 17) -/
def hbmEcc (k : Nat) (inside : Nat → Bool) (x : Ecc) (s : State) : State :=
  let b := crucBase k
  let fix (reg : Nat) (t : State) (o : Nat) : State :=
    raiseEvent 0 (16 + k) 0x080 (BitVec.ofNat 32 (o / 64)) (t.incRf (b + reg) 0 32 1)
  let s := (granulesOf 32 (x.ce.filter inside)).foldl (fix 0x10) s
  let s := (granulesOf 64 (x.sym.filter inside)).foldl (fix 0x14) s
  let s := (granulesOf 64 (x.ue.filter (fun o => inside o && !poisonedByte s (hbmAddr k o)))).foldl (fun t o => hbmUe k o t) s
  (List.range 4).foldl (fun t i => t.incRf (b + 0x30 + 4 * i) 0 32 (x.die.getD i 0)) s

/-- Whether serving a request reads HBM: a read, an atomic, a reduction, or a write smaller than a burst (R277). -/
def readsHbm (p : Pkt) : Bool := readsMem p || decide (reqBytes p < 32 ∧ reqBytes p ≠ 0)
/-- Whether a line written back writes part of the burst of an offset only, which is read first (R277). -/
def partBurst (l : SpecLine) (o : Nat) : Bool :=
  decide (o / 64 = l.line) &&
    (let m := l.mask.toNat / 2 ^ (o % 64 / 32 * 32) % 2 ^ 32
     decide (m ≠ 0 ∧ m ≠ 2 ^ 32 - 1))

/-! ### Row grants (R276) -/

def pcKey (k pc : Nat) : Nat := k * 128 + pc
def hbmBank (k pc bank : Nat) : Nat := pcKey k pc * 48 + bank
def pcQueue (s : State) (k pc : Nat) : List Item := s.pool.filter (fun i => decide (i.loc = .pcq k pc))
def itemRow (i : Item) : Nat × Nat := bankRow (reqOff i.pkt)
def isAged (s : State) (i : Item) : Bool := setHas s.aged i.id

/-- Whether an older request of the queue that has aged goes before `i`: any, or those that aged before tick `t`. -/
def agedBefore (s : State) (q : List Item) (t : Option Nat) (i : Item) : Bool :=
  (q.takeWhile (fun a => decide (a.id ≠ i.id))).any (fun a =>
    isAged s a && (match t with | some t => decide (a.since + 250 ≤ t) | none => true))
/-- The request that chooses the next row of a bank: the oldest that waits for it, unless an older one has aged. -/
def rowChooser (s : State) (k pc bank : Nat) : Option Item :=
  let q := pcQueue s k pc
  match q.find? (fun i => decide ((itemRow i).1 = bank)) with
  | some c => if agedBefore s q none c then none else some c
  | none => none
/-- The next hit to a row in force: the oldest, but none younger than a request that aged before the row was granted. -/
def nextHit (s : State) (k pc bank : Nat) (r : RowGrant) : Option Item :=
  let q := pcQueue s k pc
  q.find? (fun i => decide (itemRow i = (bank, r.row)) && !agedBefore s q (some r.since) i)

/-- Time between two per-bank refreshes of a pseudo-channel, tREFI / 48, in eighths of a nanosecond (R278). -/
def refStep (s : State) (k pc : Nat) : Nat := if s.rf (crucBase k + 4) (4 + pc / 32) 1 = 1 then 325 else 650
/-- Refreshes a pseudo-channel has had, and when the next falls due. -/
def refAt (s : State) (k pc : Nat) : Nat × Nat :=
  (Tab.get none s.refNext (pcKey k pc)).getD (0, 32 * (Tab.get 0 s.refFrom k - 1) + refStep s k pc)
/-- Whether a bank's refresh has fallen due: the 48 of a pseudo-channel follow one another evenly, in the order of the
banks (R278). (DESIGN CHOICE, log 17) -/
def refreshDue (s : State) (k pc bank : Nat) : Bool :=
  decide (Tab.get 0 s.refFrom k ≠ 0 ∧ (refAt s k pc).1 % 48 = bank ∧ (refAt s k pc).2 ≤ 32 * s.now)

/-- Passes over all pseudo-channels that the patrol scrub of a crucible has completed (R282). -/
def patrolKey (k pc : Nat) : Nat := 4096 + pcKey k pc
def patrolPasses (s : State) (k : Nat) : Nat :=
  ((List.range 128).map (fun pc => Tab.get 0 s.scrubAt (patrolKey k pc) / 18874368)).foldl min
    (Tab.get 0 s.scrubAt (patrolKey k 0) / 18874368)
/-- A patrol scrub read has been served: its pseudo-channel goes on to the next line. -/
def patrolServed (k pc : Nat) (s : State) : State :=
  let was := patrolPasses s k
  let s := { s with scrubAt := Tab.put 0 s.scrubAt (patrolKey k pc) (Tab.get 0 s.scrubAt (patrolKey k pc) + 1) }
  if was < patrolPasses s k then s.incRf (crucBase k + 0x50) 0 32 1 else s

/-- An access of the crucible's own is served: a scrub read decodes its line; a drain's write decodes the bursts it
writes in part, and writes its line back, if a write to it has not done so (R267, R268, R280, R282). -/
def ownPcServe (k pc : Nat) (x : Ecc) (i : Item) (s : State) : State :=
  let line := reqOff i.pkt / 64
  let s := s.dropItem i.id
  if i.pkt.op = 1#6 then patrolServed k pc (hbmEcc k (fun o => decide (o / 64 = line)) x s)
  else
    let e := 5 * k + 2
    let n := i.pkt.epoch.toNat
    let s := (x.spec.filter (fun o => decide (o / 64 = line))).foldl (fun t o =>
      match specAt t e line n with | some l => lineUe l o t | none => t) s
    match specAt s e line n with
    | some l => if s.epochSt e n = .commit then writeBack l (hbmEcc k (partBurst l) x s) else s
    | none => s

/-- One request of a pseudo-channel is served: the home may apply it; the buffer's lines it reads, or settles, are decoded
(R267, R270). (DESIGN CHOICE, log 17) -/
def pcServe (k pc : Nat) (x : Ecc) (i : Item) (s : State) : State :=
  let s := { s with aged := setDel s.aged i.id }
  if ownAccess i then ownPcServe k pc x i s
  else
    let o := reqOff i.pkt
    let s := s.modItem i.id (fun j => { j with loc := .ready (5 * k + 2) })
    let inside (a : Nat) : Bool := decide (o / 64 * 64 ≤ a ∧ a / 64 ≤ (o + reqBytes i.pkt - 1) / 64)
    let s := if readsHbm i.pkt then hbmEcc k inside x s else s
    (x.spec.filter inside).foldl (fun t a => specUe (5 * k + 2) (viewOf i.pkt) a t) s

/-- An access is served under a grant, which ends when HitBurstLimit have been served or no further hit may be. -/
def grantServe (k pc bank : Nat) (r : RowGrant) (x : Ecc) (i : Item) (s : State) : State :=
  let s := pcServe k pc x i s
  let r := { r with served := r.served + 1 }
  let ends := decide (s.rf (crucBase k) 0 6 + 1 ≤ r.served) || (nextHit s k pc bank r).isNone
  { s with rows := Tab.put none s.rows (hbmBank k pc bank) (if ends then none else some r) }
/-- The arbiter's next access at a bank: it opens the row the next request chooses, or serves the next hit to the row in
force; a refresh that has fallen due goes before it (R276, R278). (DESIGN CHOICE, log 17) -/
def pcGrant (k pc bank : Nat) (x : Ecc) (s : State) : State :=
  if s.devState ≠ 0 ∨ refreshDue s k pc bank = true then s
  else
    match Tab.get none s.rows (hbmBank k pc bank) with
    | some r =>
      (match nextHit s k pc bank r with
       | some i => grantServe k pc bank r x i (s.incRf (crucBase k + 0x60) 0 32 1)
       | none => { s with rows := Tab.put none s.rows (hbmBank k pc bank) none })
    | none =>
      (match rowChooser s k pc bank with
       | some c => grantServe k pc bank ⟨(itemRow c).2, 0, s.now⟩ x c (s.incRf (crucBase k + 0x64) 0 32 1)
       | none => s)
/-- PC_ARBITER_GRANT (R276). -/
def execPcArbiterGrant (k : QuadId) (pc : Fin 128) (bank : Fin 48) (ecc : Ecc) (s : State) : Host.Outcome State Fault Refusal :=
  alive (pcGrant k.val pc.val bank.val ecc) s

/-- Requests that have waited 1 µs in a queue are aged (R276). -/
def ageNow (k pc : Nat) (s : State) : State :=
  ((pcQueue s k pc).filter (fun i => decide (i.since + 250 ≤ s.now))).foldl (fun t i => { t with aged := setAdd t.aged i.id }) s
/-- AGE_CAP (R276). -/
def execAgeCap (k : QuadId) (pc : Fin 128) (s : State) : Host.Outcome State Fault Refusal := alive (ageNow k.val pc.val) s

/-- A per-bank refresh is issued when it falls due and ends a grant in force; the next bank's falls due 1/48 of tREFI
later (R276, R278). -/
def refreshNow (k pc bank : Nat) (s : State) : State :=
  if refreshDue s k pc bank = false then s
  else
    let key := hbmBank k pc bank
    let s := { s with refNext := Tab.put none s.refNext (pcKey k pc) (some ((refAt s k pc).1 + 1, (refAt s k pc).2 + refStep s k pc)) }
    match Tab.get none s.rows key with
    | some _ => { s with rows := Tab.put none s.rows key none }.incRf (crucBase k + 0x68) 0 32 1
    | none => s
/-- REFRESH (R278). -/
def execRefresh (k : QuadId) (pc : Fin 128) (bank : Fin 48) (s : State) : Host.Outcome State Fault Refusal :=
  alive (refreshNow k.val pc.val bank.val) s

/-- A crucible's stacks leave per-bank refresh: its rows close, and all-bank refresh precedes self-refresh (R273). -/
def stopRefresh (k : Nat) (s : State) : State :=
  { s with refFrom := Tab.put 0 s.refFrom k 0
           refNext := Tab.restrict (fun n => !decide (n / 128 = k)) s.refNext
           rows := Tab.restrict (fun n => !decide (n / 6144 = k)) s.rows }
/-- Per-bank refresh begins anew, after initialisation or self-refresh (R273, R278, R283). -/
def startRefresh (k : Nat) (s : State) : State :=
  { stopRefresh k s with refFrom := Tab.put 0 s.refFrom k (s.now + 1) }

/-! ### Temperature (R278, R279) -/

/-- What a stack at `t` °C brings: its refresh rate, and the thresholds of 95, 90 and 105 °C. (DESIGN CHOICE, log 19) -/
def stackAt (k i t : Nat) (s : State) : State :=
  let b := crucBase k
  let s := if 85 < t then s.setRf (b + 4) (4 + i) 1 1 else if t ≤ 83 then s.setRf (b + 4) (4 + i) 1 0 else s
  let s := if 95 ≤ t then
      (if s.rf (b + 4) (8 + i) 1 = 1 then s
       else raiseEvent 2 (16 + k) 0x084 (BitVec.ofNat 32 i) (s.setRf (b + 4) (8 + i) 1 1))
    else if t ≤ 90 then s.setRf (b + 4) (8 + i) 1 0 else s
  if 105 ≤ t then raiseEvent 3 (16 + k) 0x085 (BitVec.ofNat 32 i) s else s
/-- A stack's reading, which CRUC_TEMP shows. -/
def stackTemp (k i t : Nat) (s : State) : State :=
  stackAt k i t { s.setRf (crucBase k + 8) (8 * i) 8 t with lastTemp := Tab.put 0 s.lastTemp (4 * k + i) (s.now + 1) }

/-- A stack that returns no reading: after 10 ms it is treated as at 105 °C. -/
def stackSilent (k i : Nat) (s : State) : State :=
  let l := Tab.get 0 s.lastTemp (4 * k + i)
  if l = 0 then { s with lastTemp := Tab.put 0 s.lastTemp (4 * k + i) (s.now + 1) }
  else if l - 1 + 2500000 ≤ s.now then stackAt k i 105 s else s

/-- Every 1 ms the crucible reads its stacks, in RUN (R363); one that returns nothing is silent. -/
def tempRead (k : Nat) (ts : List (Option (BitVec 8))) (s : State) : State :=
  let last := Tab.get 0 s.lastTemp (16 + k)
  if s.devState ≠ 0 ∨ (last ≠ 0 ∧ s.now < last - 1 + 250000) then s
  else
    (List.range 4).foldl (fun t i => match ts.getD i none with
      | some v => stackTemp k i v.toNat t
      | none => stackSilent k i t) { s with lastTemp := Tab.put 0 s.lastTemp (16 + k) (s.now + 1) }
/-- HBM_TEMP_READ (R279). -/
def execHbmTempRead (k : QuadId) (t0 t1 t2 t3 : Option (BitVec 8)) (s : State) : Host.Outcome State Fault Refusal :=
  alive (tempRead k.val [t0, t1, t2, t3]) s

/-! ### Scrub, failures, initialisation -/

/-- Offset of line `n` of a pseudo-channel (R274). -/
def pcLine (pc n : Nat) : Nat := (n / 4 * 128 + pc) * 256 + n % 4 * 64
/-- The patrol scrub's read of a line (R282). -/
def patrolPkt (k off : Nat) : Pkt :=
  { dst := gfa 0 (5 * k + 2) off, cls := false, op := 1, var := 1, srcFab := 0, srcEp := BitVec.ofNat 5 (5 * k + 2)
    srcCore := 0, eng := 3, tag := 0, ord := 1, flag := false, job := 0, seq := 0, len := 0, redId := 0, mcKind := 0
    members := 0, epoch := 0, p0 := 0, p1 := 0, comp := 0, data := [] }
/-- The next read of a pseudo-channel enters its queue: one at a time, and when there is room. -/
def patrolEnter (k pc : Nat) (s : State) : State :=
  let n := Tab.get 0 s.scrubAt (patrolKey k pc)
  if Tab.get 0 s.scrubAt (2000 + k) ≤ n ∨ 32 ≤ pcqLen s k pc ∨
      (pcQueue s k pc).any (fun i => ownAccess i && decide (i.pkt.op = 1#6)) = true then s
  else
    let p := patrolPkt k (pcLine pc (n % 18874368))
    { s with pool := s.pool ++ [{ newReq p (.pcq k pc) (5 * k + 2) none s with pkt := p }], nextId := s.nextId + 1 }
/-- Every ScrubInterval a patrol read of the next line of each pseudo-channel falls due, and enters its queue (R282): now
those of the pseudo-channels named, where there is room. (DESIGN CHOICE, log 17) -/
def patrol (k : Nat) (pcs : BitVec 128) (s : State) : State :=
  let iv := s.rf (crucBase k) 8 8
  if iv = 0 ∨ s.devState ≠ 0 ∨ s.rf (crucBase k + 4) 12 1 = 0 then s
  else
    let s := if s.now < Tab.get 0 s.scrubT (2000 + k) + 250 * iv then s
      else { s with scrubT := Tab.put 0 s.scrubT (2000 + k) s.now
                    scrubAt := Tab.put 0 s.scrubAt (2000 + k) (Tab.get 0 s.scrubAt (2000 + k) + 1) }
    ((List.range 128).filter (fun pc => pcs.getLsbD pc)).foldl (fun t pc => patrolEnter k pc t) s
/-- CRUC_SCRUB_READ (R282). -/
def execCrucScrubRead (k : QuadId) (pcs : BitVec 128) (s : State) : Host.Outcome State Fault Refusal :=
  alive (patrol k.val pcs) s

/-- A pseudo-channel fails (R284); a crucible without power raises no fault (R363). -/
def pcFails (k pc : Nat) (s : State) : State :=
  let a := crucBase k + 0x40 + 4 * (pc / 32)
  if s.rf a (pc % 32) 1 = 1 ∨ s.devState ≠ 0 then s
  else raiseEvent 2 (16 + k) 0x083 (BitVec.ofNat 32 pc) ((s.setRf a (pc % 32) 1 1).setRf (crucBase k + 4) (pc / 32) 1 1)
/-- PC_FAILED (R284). -/
def execPcFailed (k : QuadId) (pc : Fin 128) (s : State) : Host.Outcome State Fault Refusal := alive (pcFails k.val pc.val) s

/-- The contents of a crucible's HBM are lost; unlisted bytes read as zero (R285, R416). -/
def loseHbm (k : Nat) (s : State) : State :=
  { s with mem := Memory.clear s.mem (hbmAddr k 0) (hbmAddr (k + 1) 0)
           poison := s.poison.filter (fun g => !decide (hbmAddr k 0 ≤ g ∧ g < hbmAddr (k + 1) 0)) }

/-- PcFailed of a crucible shows the stacks that have a failed pseudo-channel (R287). -/
def showFailed (k : Nat) (s : State) : State :=
  (List.range 4).foldl (fun t i =>
    t.setRf (crucBase k + 4) i 1 (if s.reg (crucBase k + 0x40 + 4 * i) = 0#32 then 0 else 1)) s
/-- A crucible runs its initialisation in full (R283): a stack that fails a step takes the function offline at once, and
the steps after it are not run; step 5 starts refresh. (DESIGN CHOICE, log 19) -/
def initHbm (k : Nat) (failed : Bool) (s : State) : State :=
  let s := loseHbm k { stopRefresh k s with hbmGood := Tab.put false s.hbmGood k (!failed) }
  if failed then raiseEvent 1 (16 + k) 0x086 (BitVec.ofNat 32 (9 + k)) (s.setRf (crucBase k + 4) 12 1 0)
  else showFailed k (startRefresh k (s.setRf (crucBase k + 4) 12 1 1))
/-- The initialisation of a cold start: of a crucible that is not initialised and has not failed. (DESIGN CHOICE, log 19) -/
def coldInit (k : Nat) (failed : Bool) (s : State) : State :=
  if s.rf (crucBase k + 4) 12 1 = 1 ∨ s.funcState (9 + k) = 2 ∨ s.funcState (9 + k) = 3 then s else initHbm k failed s
/-- HBM_INIT (R283). -/
def execHbmInit (k : QuadId) (failStep : Option (Fin 7)) (s : State) : Host.Outcome State Fault Refusal :=
  alive (coldInit k.val failStep.isSome) s

end Sys2Proof.Machine
end

