-- ==== Sys2Proof/Machine/Links.lean ====
section
/-! DEFINITION. Die links (R303–R322): lanes, spares and widths, replay and resend, the lane monitor, swaps, records and
retraining, and the field self-test. -/

namespace Sys2Proof.Machine

/-! ### Spares and widths -/

/-- Replace the map of a logical lane. -/
def mapLane (m : List (Nat × Nat)) (i p : Nat) : List (Nat × Nat) :=
  m.filter (fun e => decide (e.1 ≠ i)) ++ (if i = p then [] else [(i, p)])

/-- Spares go to failing lanes in ascending logical-lane order (R310, R312). -/
def assignSpares (kind : Nat) (x : Link) : Link :=
  (List.range (linkData kind)).foldl (fun y i =>
    if y.failed.contains (physIn y.map i) then
      (match freeSpares kind y with
       | p :: _ => { y with map := mapLane y.map i p }
       | [] => y)
    else y) x

/-- The lanes that come first by their CRC mismatches, fewest first (R305). -/
def fewestCrc (kind : Nat) (x : Link) : List Nat :=
  let c (i : Nat) : Nat := Tab.get 0 x.crc (physIn x.map i)
  let put (i : Nat) (l : List Nat) : List Nat := l.takeWhile (fun j => decide (c j ≤ c i)) ++ [i] ++ l.dropWhile (fun j => decide (c j ≤ c i))
  (goodLogical kind x).foldl (fun l i => put i l) []

/-- A link at degraded width on its first good lanes, or offline when they are too few (R316). -/
def halfWidth (kind : Nat) (x : Link) : Link :=
  let g := goodLogical kind x
  if linkHalf kind ≤ g.length then { x with width := 1, picked := g.take (linkHalf kind) } else { x with width := 2, picked := [] }
/-- The width a link reaches on its good lanes, with the lanes picked where it is not full. -/
def settleWidth (kind : Nat) (x : Link) : Link :=
  if (goodLogical kind x).length = linkData kind then { x with width := 0, picked := [] } else halfWidth kind x

/-- The result of a test of every lane from the fused map (R310). -/
def testLink (kind : Nat) (fails : List Nat) (x : Link) : Link :=
  settleWidth kind (assignSpares kind { x with map := x.fused, failed := fails, low := [], swap := none, failing := [], outs := []
                                               temp := none, short := false })

/-! ### Events of a link (R321) -/

/-- A link below degraded width takes its function offline, or quenches the device (R316). -/
def linkOffline (k : Nat) (s : State) : State :=
  let f := linkFunc (keyKind k) (keyIndex k)
  if f = 0 then raiseEvent 3 29 0x0A5 (BitVec.ofNat 32 k) s else raiseEvent 1 29 0x0A2 (BitVec.ofNat 32 f) s
/-- Lanes replaced since cold start. -/
def spared (n : Nat) (s : State) : State := s.incRf 0x88060 0 16 n
/-- A lane is replaced by a spare. -/
def laneSpared (k : Nat) (x : Link) (s : State) : State := raiseEvent 0 29 0x0A0 (BitVec.ofNat 32 k) (spared 1 (s.setLink k x))
/-- A link takes a width below full, with the event of it. -/
def linkLess (k : Nat) (x : Link) (s : State) : State :=
  if x.width = 2 then linkOffline k (s.setLink k x) else raiseEvent 2 29 0x0A1 (BitVec.ofNat 32 k) (s.setLink k x)

/-! ### A lane that fails (R312–R316) -/

/-- The logical lane a physical lane carries. -/
def laneOn (kind : Nat) (x : Link) (p : Nat) : Option Nat := (List.range (linkData kind)).find? (fun i => decide (physIn x.map i = p))
/-- Whether a physical lane carries traffic. -/
def laneUsed (kind : Nat) (x : Link) (p : Nat) : Bool :=
  match laneOn kind x p with | some i => laneActive kind x i | none => false
/-- Whether a link is trained and not offline. -/
def linkRuns (s : State) (k : Nat) : Bool := s.linksUp && decide ((s.link k).width ≤ 1)

/-- Whether a comb gone dark feeds the lanes of a link: none of them is declared failing (R333). -/
def darkLink (s : State) (k : Nat) : Bool := laneDark s (keyKind k) (keyIndex k)
/-- A link with one lane more failed. -/
def withFail (x : Link) (p : Nat) : Link := { x with failed := setAdd x.failed p, outs := x.outs.filter (fun q => decide (q ≠ p)) }
/-- A lane of a link fails for good (R312, R314, R316): one that holds the spare stays on it; a free spare or, at degraded
width, a lane not in use replaces it; a spare that another lane holds for a time leaves the bundle degraded until that lane
returns, and for good where that lane fails too. A lane without light is not failing (R333). -/
def failLane (k p : Nat) (s : State) : State :=
  let kind := keyKind k
  let x := s.link k
  if badLane x p || decide (linkTotal kind ≤ p) || !linkRuns s k || darkLink s k then s
  else
    let y := withFail x p
    match laneOn kind x p with
    | none =>
      if x.temp.any (fun e => decide (e.2 = p)) then
        let s := laneSpared k { y with temp := none } s
        if x.short && y.outs.isEmpty then linkLess k { halfWidth kind { y with temp := none } with short := false } s else s
      else s.setLink k y
    | some i =>
      if x.width = 0 then
        match freeSpares kind y, x.temp with
        | q :: _, _ => laneSpared k { y with map := mapLane y.map i q } s
        | [], none => linkLess k (halfWidth kind y) s
        | [], some _ =>
          let z := { halfWidth kind y with short := true }
          if z.width = 2 then linkOffline k (s.setLink k z) else s.setLink k z
      else if x.short && y.outs.isEmpty then linkLess k { halfWidth kind y with short := false } s
      else if !x.picked.contains i then s.setLink k y
      else
        match (goodLogical kind y).filter (fun j => !y.picked.contains j), freeSpares kind y with
        | j :: _, _ => laneSpared k { y with picked := y.picked.filter (fun n => decide (n ≠ i)) ++ [j] } s
        | [], q :: _ => laneSpared k { y with map := mapLane y.map i q } s
        | [], [] => linkOffline k (s.setLink k { y with width := 2, picked := [] })

/-- Several lanes fail at once: all are known to be bad before spares go to them in ascending logical-lane order (R312). -/
def failLanes (k : Nat) (ps : List Nat) (s : State) : State :=
  let kind := keyKind k
  let x := s.link k
  let ps := ps.filter (fun p => !badLane x p && decide (p < linkTotal kind))
  let idle := ps.filter (fun p => (laneOn kind x p).isNone)
  let used := (List.range (linkData kind)).filterMap (fun i => if ps.contains (physIn x.map i) then some (physIn x.map i) else none)
  if ps = [] ∨ linkRuns s k = false ∨ darkLink s k = true then s
  else (idle ++ used).foldl (fun t p => failLane k p t) (s.setLink k { x with outs := used.foldl setAdd x.outs })

/-- Whether a failing lane finds a replacement: a free spare, or a good lane a degraded bundle does not use. -/
def hasSpare (kind : Nat) (x : Link) (p : Nat) : Bool :=
  let y := withFail x p
  match x.width with
  | 0 => !(freeSpares kind y).isEmpty
  | _ => (goodLogical kind y).any (fun j => !y.picked.contains j) || !(freeSpares kind y).isEmpty

/-- A lane is found failing in service (R311): its swap begins, or waits for the one in progress (R312, R313); a lane that
carries nothing is only marked. -/
def foundFailing (k p : Nat) (s : State) : State :=
  let kind := keyKind k
  let x := s.link k
  if badLane x p || decide (linkTotal kind ≤ p) || !linkRuns s k || darkLink s k || x.outs.contains p || x.failing.contains p ||
      decide (x.swap = some p) then s
  else if !laneUsed kind x p then failLane k p s
  else
    match x.swap with
    | none => s.setLink k { x with swap := some p }
    | some _ => s.setLink k { x with failing := x.failing ++ [p] }
/-- The swap in progress ends with its lane's failure, and the waiting lane of the lowest logical number is next. -/
def swapDone (k p : Nat) (s : State) : State :=
  let kind := keyKind k
  let s := failLane k p (s.setLink k { s.link k with swap := none })
  let x := s.link k
  match (List.range (linkData kind)).find? (fun i => x.failing.contains (physIn x.map i)) with
  | some i => s.setLink k { x with swap := some (physIn x.map i), failing := x.failing.filter (fun q => decide (q ≠ physIn x.map i)) }
  | none => s.setLink k { x with failing := [] }
/-- The swaps in progress on the links of a function are abandoned: one of their sides is reset (R313). -/
def abandonSwaps (f : Nat) (s : State) : State :=
  { s with links := s.links.map (fun e => if linkFunc (keyKind e.1) (keyIndex e.1) = f then (e.1, { e.2 with swap := none, failing := [] }) else e) }

/-! ### Lanes out for a time (R314, R329) -/

/-- An optical lane goes out while it is recovered: its traffic moves to the spare if that is free, else the bundle runs at
degraded width; neither raises an event. -/
def laneOut (k p : Nat) (s : State) : State :=
  let kind := keyKind k
  let x := s.link k
  if badLane x p || decide (linkTotal kind ≤ p) || !linkRuns s k || x.outs.contains p then s
  else
    let y := { x with outs := setAdd x.outs p }
    match laneOn kind x p with
    | none => s.setLink k y
    | some i =>
      if !laneActive kind x i then s.setLink k y
      else match x.width, x.temp, freeSpares kind y with
      | _, none, q :: _ => s.setLink k { y with map := mapLane y.map i q, temp := some (i, p) }
      | n, _, _ =>
        let z := { halfWidth kind y with short := x.short || decide (n = 0) }
        if z.width = 2 then linkOffline k (s.setLink k z) else s.setLink k z
/-- A lane that was out returns: the spare it held is free again for a lane that failed meanwhile, and a bundle that was
degraded for its sake is full again if its lanes allow. -/
def laneBack (k p : Nat) (s : State) : State :=
  let kind := keyKind k
  let x := s.link k
  if !x.outs.contains p then s
  else
    let y := { x with outs := x.outs.filter (fun q => decide (q ≠ p)) }
    let y := match x.temp with
      | some (i, q) => if q = p then { y with map := mapLane y.map i q, temp := none } else y
      | none => y
    if !x.short then s.setLink k y
    else
      let z := assignSpares kind y
      let s := if z.map = y.map then s else raiseEvent 0 29 0x0A0 (BitVec.ofNat 32 k) (spared 1 s)
      if (goodLogical kind z).length = linkData kind then s.setLink k { z with width := 0, picked := [], short := false }
      else if z.outs.isEmpty then linkLess k { halfWidth kind z with short := false } s
      else s.setLink k (halfWidth kind z)

/-! ### Errors in service (R305, R306, R311) -/

/-- A bundle drops to degraded width on the lanes with the fewest CRC errors (R305, R306). -/
def dropWidth (k : Nat) (s : State) : State :=
  let kind := keyKind k
  let x := s.link k
  if x.width ≠ 0 then s
  else raiseEvent 2 29 0x0A1 (BitVec.ofNat 32 k) (s.setLink k { x with width := 1, picked := (fewestCrc kind x).take (linkHalf kind) })

/-- A CRC mismatch of a lane that carries traffic; one with CrcLimit of them in one millisecond is failing (R311). -/
def crcMiss (k p : Nat) (s : State) : State :=
  let x := s.link k
  let ms := s.now / 250000
  let w := Tab.get (0, 0) x.crcMs p
  let n := (if w.1 = ms then w.2 else 0) + 1
  if !linkRuns s k || !laneUsed (keyKind k) x p then s
  else
    let s := s.setLink k { x with crc := Tab.put 0 x.crc p (min (Tab.get 0 x.crc p + 1) 65535), crcMs := Tab.put (0, 0) x.crcMs p (ms, n) }
    if s.rf 0x88000 0 8 ≤ n then foundFailing k p s else s

/-- An electrical bundle replays a failed window; the eighth failure of one window in succession degrades it (R305). -/
def replayWin (k p : Nat) (s : State) : State :=
  if !linkRuns s k then s
  else
    let s := discardWindow k (crcMiss k p s)
    let s := s.setLink k { s.link k with replay := min ((s.link k).replay + 1) (2 ^ 32 - 1) }
    if 8 ≤ (s.wire k).again then dropWidth k (s.setWire k { s.wire k with again := 0 }) else s

/-- A row about a link that must exist. -/
def onLink (l : LinkId) (lane : Nat) (f : Nat → State → State) (s : State) : Host.Outcome State Fault Refusal :=
  if linkExists l.kind.toNat l.index.toNat && decide (lane < linkTotal l.kind.toNat) then
    alive (f (linkKey l.kind.toNat l.index.toNat)) s
  else .refused .noSuchPart

/-- REPLAY (R305): of an electrical bundle. -/
def execReplay (l : LinkId) (lane : BitVec 9) (s : State) : Host.Outcome State Fault Refusal :=
  onLink l lane.toNat (fun k s => if l.kind.toNat ≤ 1 then replayWin k lane.toNat s else s) s

/-- OPTICAL_WINDOW_FAIL (R306): the receiving port discards the packet, which its source sends again under its grant; the
eighth discard in succession degrades the pair of bundles it used. -/
def windowFail (id lane : Nat) (s : State) : State :=
  match s.item id with
  | some it =>
    (match it.loc with
     | .flight g e =>
       if it.held then s
       else
         let rx := linkKey 3 (128 * e + rxOf g e)
         let s := crcMiss rx (lane % 9) s
         let s := refence e (s.modItem id (fun i => { i with fails := if i.fails = 7 then 0 else i.fails + 1, held := true }))
         if it.fails = 7 then dropWidth (linkKey 2 g) (dropWidth rx s) else s
     | _ => s)
  | none => s
def execOpticalWindowFail (id : Nat) (lane : BitVec 9) (s : State) : Host.Outcome State Fault Refusal :=
  alive (windowFail id lane.toNat) s

/-- LANE_MONITOR_PROBE (R311): 8 consecutive probes below MarginMin, or no transition for 1 µs where there is no reading,
mark the lane failing. (DESIGN CHOICE, log 23) -/
def probe (k p : Nat) (m : Option (BitVec 10)) (s : State) : State :=
  match m with
  | none => foundFailing k p s
  | some m =>
    let x := s.link k
    let n := if m.toNat < s.rf 0x88004 0 10 then Tab.get 0 x.low p + 1 else 0
    let s := s.setLink k { x with margin := Tab.put 0 x.margin p m.toNat, low := Tab.put 0 x.low p (if 8 ≤ n then 0 else n) }
    if 8 ≤ n then foundFailing k p s else s
def execLaneMonitorProbe (l : LinkId) (lane : BitVec 9) (margin : Option (BitVec 10)) (s : State) : Host.Outcome State Fault Refusal :=
  onLink l lane.toNat (fun k s => if linkRuns s k then probe k lane.toNat margin s else s) s

/-- SPARE_SWAP (R312): the swap in progress of a failing lane that finds a replacement. -/
def execSpareSwap (l : LinkId) (lane : BitVec 9) (s : State) : Host.Outcome State Fault Refusal :=
  onLink l lane.toNat (fun k s =>
    if (s.link k).swap = some lane.toNat ∧ hasSpare l.kind.toNat (s.link k) lane.toNat = true then swapDone k lane.toNat s else s) s
/-- LINK_DEGRADE (R316): a failing lane that finds none. -/
def execLinkDegrade (l : LinkId) (lane : BitVec 9) (s : State) : Host.Outcome State Fault Refusal :=
  onLink l lane.toNat (fun k s =>
    if (s.link k).swap = some lane.toNat ∧ hasSpare l.kind.toNat (s.link k) lane.toNat = false then swapDone k lane.toNat s else s) s

/-! ### Tests and records (R310, R317–R319) -/

/-- Whether a lane fails the test: any bit error, or a margin below MarginMin (R310). -/
def testFails (s : State) (x : LaneTest) : Bool := x.err || decide (x.margin.toNat < s.rf 0x88004 0 10)
/-- The lanes of a link that fail their tests, and the margins the monitor samplers measured. -/
def failsIn (s : State) (k : Nat) (l : List LaneTest) : List Nat :=
  (l.filter (fun x => testFails s x && decide (x.lane.toNat < linkTotal (keyKind k)))).foldl (fun t x => setAdd t x.lane.toNat) []
def noteMargins (k : Nat) (l : List LaneTest) (s : State) : State :=
  s.setLink k { s.link k with margin := (l.filter (fun x => decide (x.lane.toNat < linkTotal (keyKind k)))).foldl (fun t x =>
    Tab.put 0 t x.lane.toNat x.margin.toNat) (s.link k).margin }
/-- The results of one link, and the links that results name. -/
def testsOf (l : List (LinkId × LaneTest)) (k : Nat) : List LaneTest :=
  (l.filter (fun e => decide (linkKey e.1.kind.toNat e.1.index.toNat = k))).map (fun e => e.2)
def linksOf (l : List (LinkId × LaneTest)) : List Nat :=
  l.foldl (fun t e => if linkExists e.1.kind.toNat e.1.index.toNat then setAdd t (linkKey e.1.kind.toNat e.1.index.toNat) else t) []

/-- FULL_RETRAIN (R319): every lane is tested, spares are assigned afresh, and the record is written. -/
def retrain (k : Nat) (l : List LaneTest) (s : State) : State :=
  if (s.link k).width ≠ 1 ∨ s.linksUp = false ∨ darkLink s k = true then s
  else
    let s := noteMargins k l s
    let y : Link := { testLink (keyKind k) (failsIn s k l) (s.link k) with gen := (s.link k).gen + 1 }
    if y.width = 0 then raiseEvent 0 29 0x0A3 (BitVec.ofNat 32 k) (s.setLink k y) else linkLess k y s
def execFullRetrain (l : LinkId) (lanes : List LaneTest) (s : State) : Host.Outcome State Fault Refusal :=
  onLink l 0 (fun k s => retrain k lanes s) s

/-- The lane map that assembly fused for a link (R309). -/
def fusedMap (s : State) (k : Nat) : List (Nat × Nat) :=
  (s.fuses.lanes.filter (fun e => decide (linkKey e.1.kind.toNat e.1.index.toNat = k ∧
    e.2.1.toNat < linkData (keyKind k) ∧ e.2.2.toNat < linkTotal (keyKind k)))).map (fun e => (e.2.1.toNat, e.2.2.toNat))
/-- The start test of every link (R310): fused maps are loaded, and each link's record is written. -/
def startLinks (l : List (LinkId × LaneTest)) (s : State) : State :=
  let ks := (s.fuses.lanes.foldl (fun t e => setAdd t (linkKey e.1.kind.toNat e.1.index.toNat)) (linksOf l)).filter (fun k =>
    linkExists (keyKind k) (keyIndex k))
  ks.foldl (fun t k =>
    let t := noteMargins k (testsOf l k) t
    let y := testLink (keyKind k) (failsIn t k (testsOf l k)) { t.link k with fused := fusedMap t k }
    if y.width = 0 then t.setLink k y else linkLess k y t) { s with
      links := [], wires := [], linksUp := true, testFrom := (List.range 16).foldl (fun t f => Tab.put 0 t f s.now) s.testFrom }

/-- RECORD_COMPARE (R318): the fresh test of a link whose side was reset is compared with its record. A record of a link
offline, like too few lanes good to both, takes it offline again (R316). (DEDUCED, log 23) -/
def compareLink (k : Nat) (l : List LaneTest) (s : State) : State :=
  let kind := keyKind k
  let s := noteMargins k l s
  let fails := failsIn s k l
  let x := s.link k
  let y := { x with failed := fails.foldl setAdd x.failed, swap := none, failing := [] }
  let used := ((List.range (linkData kind)).filter (laneActive kind x)).map (physIn x.map)
  if x.width = 2 then linkOffline k (s.setLink k y)
  else if !used.any (fun p => fails.contains p) then s.setLink k y
  else
    let y := if (goodLogical kind y).length < linkHalf kind then assignSpares kind y else y
    let y := halfWidth kind y
    if y.width = 2 then linkOffline k (s.setLink k y) else s.setLink k y
/-- The comparison for every link of a function, which is a test of them (R317). -/
def compareFunc (f : Nat) (l : List (LinkId × LaneTest)) (s : State) : State :=
  if !s.linksUp then s
  else
    ((s.links.foldl (fun t e => setAdd t e.1) (linksOf l)).filter (fun k => decide (linkFunc (keyKind k) (keyIndex k) = f))).foldl
      (fun t k => compareLink k (testsOf l k) t) { s with testFrom := Tab.put 0 s.testFrom f s.now }

/-- Endpoints whose links a function's test covers; of F0 the tongs'. -/
def linkEps (f : Nat) : List Nat := if f = 0 then [4] else epsOfFunc f
/-- Whether a function's links have carried no Memory or Ownership unit for IdleUs (R317). -/
def linksIdle (s : State) (f : Nat) : Bool :=
  (linkEps f).all (fun e =>
    let t := Tab.get 0 s.carried e
    decide (t = 0 ∨ t - 1 + 250 * s.rf 0x88000 12 12 ≤ s.now))
/-- Minutes since a function's last test (R322). -/
def minutesSince (s : State) (f : Nat) : Nat := (s.now - Tab.get 0 s.testFrom f) / 15000000000

/-- A field self-test begins: the function's credits are withheld from then on. -/
def testBegin (f : Nat) (forced : Bool) (s : State) : State :=
  let s := { (s.setRf (0x88020 + 4 * f) 16 1 (if forced then 1 else 0)).setRf (0x88020 + 4 * f) 17 1 1 with
    testFrom := Tab.put 0 s.testFrom f s.now }
  if forced then raiseEvent 0 29 0x0A4 (BitVec.ofNat 32 f) s else s
/-- It ends: what it found failing is replaced, and widths and records follow (R312, R316, R318). -/
def testEnd (f : Nat) (l : List (LinkId × LaneTest)) (s : State) : State :=
  let s := s.setRf (0x88020 + 4 * f) 17 1 0
  if s.funcState f ≠ 0 ∨ s.devState ≠ 0 then s
  else ((linksOf l).filter (fun k => decide (linkFunc (keyKind k) (keyIndex k) = f))).foldl (fun t k =>
    failLanes k (failsIn t k (testsOf l k)) (noteMargins k (testsOf l k) t)) s
/-- FIELD_SELF_TEST (R317): ten minutes after the last, in an idle window, or forced after ForceAfterMin more, a test
begins; the next such command brings its results. (DESIGN CHOICE, log 23) -/
def fieldTest (f : Nat) (l : List (LinkId × LaneTest)) (s : State) : State :=
  let m := minutesSince s f
  let force := s.rf 0x88000 24 8
  if s.rf (0x88020 + 4 * f) 17 1 = 1 then testEnd f l s
  else if s.funcState f ≠ 0 ∨ s.devState ≠ 0 ∨ m < 10 ∨ s.linksUp = false then s
  else if linksIdle s f then testBegin f false s
  else if force = 0 ∨ m < 10 + force then s
  else testBegin f true s
def execFieldSelfTest (f : FuncId) (lanes : List (LinkId × LaneTest)) (s : State) : Host.Outcome State Fault Refusal :=
  alive (fieldTest f.val lanes) s

end Sys2Proof.Machine
end

