-- ==== Sys2Proof/Machine/Optics.lean ====
section
/-! DEFINITION. Optical control (R323–R340): ring locks, wrong lines, laser drive, spare combs, dark combs, periodic
calibration and the calibration image. -/

namespace Sys2Proof.Machine

/-! ### Lanes that fail (R314, R325, R336) -/

/-- A row about an optical lane that must exist; in STANDBY every lane is off (R359). -/
def onLane (l : OLane) (f : State → State) (s : State) : Host.Outcome State Fault Refusal :=
  if olaneOk l.kind.toNat l.index.toNat l.lane.toNat then alive (fun s => if s.devState = 2 then s else f s) s
  else .refused .noSuchPart

/-- The die link that a lane of a hearth bundle belongs to, and the gateway and port of a port's lane. -/
def laneLink (l : OLane) : Option Nat :=
  if l.kind.toNat = 2 ∨ l.kind.toNat = 3 then some (linkKey l.kind.toNat l.index.toNat) else none
def lanePort (l : OLane) : Option (Nat × Nat) :=
  if l.kind.toNat = 5 ∨ l.kind.toNat = 6 then some (l.index.toNat / 12, l.index.toNat % 12) else none
/-- Whether slot 31 of a port carries a slot, and whether a slot is marked bad (R249). -/
def onSpare (s : State) (g p n : Nat) : Bool := decide (Tab.get 0 s.portT (spareKey g p) = n + 1)
def slotBad (s : State) (g p n : Nat) : Bool := Nat.testBit (Tab.get 0 s.portT (badKey g p)) n

/-- Whether a lane has failed for good (R329, R336). -/
def laneGone (s : State) (l : OLane) : Bool :=
  match laneLink l, lanePort l with
  | some k, _ => (s.link k).failed.contains l.lane.toNat
  | none, some (g, p) => slotBad s g p l.lane.toNat && !(laneAt s (laneKey l)).out
  | none, none => (laneAt s (laneKey l)).gone
/-- State field of OPT_LANE_RING (R340): 0 locked, 1 recovering, 2 on the spare for good, 3 failed, 4 dark. -/
def laneState (s : State) (l : OLane) : Nat :=
  let n := l.lane.toNat
  if laneDark s l.kind.toNat l.index.toNat then 4
  else if (laneAt s (laneKey l)).out then 1
  else if !laneGone s l then 0
  else
    match laneLink l, lanePort l with
    | some k, _ =>
      let x := s.link k
      let kind := l.kind.toNat
      if (List.range (linkData kind)).any (fun i => decide (physIn x.fused i = n ∧ physIn x.map i ≠ n) && !x.failed.contains (physIn x.map i))
      then 2 else 3
    | none, some (g, p) => if onSpare s g p n then 2 else 3
    | none, none => 3
/-- A lane is found failing in service (R311, R249, R336). -/
def laneFailing (l : OLane) (s : State) : State :=
  match laneLink l, lanePort l with
  | some k, _ => foundFailing k l.lane.toNat s
  | none, some (g, p) => laneFails g p l.lane.toNat s
  | none, none => s

/-! ### Ring locks (R324–R327) -/

/-- What is done to a lane under a lane swap: its traffic is on the spare meanwhile and returns to it, or its bundle runs at
degraded width (R312, R314, R325); a lane that nothing stands in for is changed in place. (DESIGN CHOICE, log 21) -/
def underSwap (l : OLane) (f : State → State) (s : State) : State :=
  let n := l.lane.toNat
  match laneLink l, lanePort l with
  | some k, _ =>
    let x := s.link k
    if x.outs.contains n || decide (x.width ≠ 0 ∧ freeSpares (keyKind k) x = []) then f s else laneBack k n (f (laneOut k n s))
  | none, some (g, p) =>
    let w := (working s g p).toNat
    if slotHalf s g p n = .full ∧ n < 31 ∧ portState s g p .full = 3 ∧ Nat.testBit w n = true ∧ Nat.testBit w 31 = false ∧
        slotBad s g p 31 = false then moveBack g p n (f (laneFails g p n s))
    else f s
  | none, none => f s
/-- A lane moves to its alternate ring, whose DAC has every spare, under a lane swap (R325). (DEDUCED, log 21) -/
def toAlternate (l : OLane) (x : OptLane) (s : State) : State :=
  let h := 0x080 + (Config.calibrated s.optics.runs (laneKey l) 9).toNat % (0xF80 + 1 - 0x080)
  underSwap l (fun s => raiseEvent 0 25 0x0C2 (BitVec.ofNat 32 (laneKey l)) (setLane (laneKey l) { x with
    alt := true, heater := BitVec.ofNat 12 h, segs := 0, sub := false, dead := 0, fails := 0 } s)) s

/-- The highest code a DAC reaches: each segment lost takes 64 codes (R324). (DESIGN CHOICE, log 21) -/
def dacTop (x : OptLane) : Nat := 4095 - 64 * x.dead
/-- A heater code after a move of at most 4 codes (R327). -/
def moveHeater (top : Nat) (h : BitVec 12) (d : BitVec 4) : BitVec 12 :=
  let m := min (max d.toInt (-4)) 4
  BitVec.ofInt 12 (min (max (Int.ofNat h.toNat + m) 0) (Int.ofNat top))
/-- A code trimmed by one. -/
def trimCode (v : BitVec 8) (up : Bool) : BitVec 8 :=
  if up then (if v.toNat = 255 then v else v + 1) else (if v.toNat = 0 then v else v - 1)

/-- A DAC segment, or the sub-DAC, has failed its check: a spare replaces it; with none left the lane moves to its alternate
ring, and that one's DAC works on at reduced range (R324, R325). -/
def dacFails (l : OLane) (subDac : Bool) (x : OptLane) (s : State) : State :=
  if (if subDac then x.sub = false else x.segs < 4) then
    let y := if subDac then { x with sub := true } else { x with segs := x.segs + 1 }
    raiseEvent 0 25 0x0C2 (BitVec.ofNat 32 (laneKey l)) (setLane (laneKey l) y s)
  else if !x.alt then toAlternate l x s
  else
    let y := { x with dead := min (x.dead + 1) 63 }
    setLane (laneKey l) { y with heater := moveHeater (dacTop y) y.heater 0 } s
/-- LOCK_UPDATE (R324, R325, R327): `fail` names the failed part of the DAC, a segment or the sub-DAC. -/
def lockUpdate (l : OLane) (d : BitVec 4) (trim : Option (Fin 3 × Bool)) (fail : Option Bool) (s : State) : State :=
  let x := laneAt s (laneKey l)
  let x := { x with heater := moveHeater (dacTop x) x.heater d }
  let x : OptLane := match trim with
    | some (0, up) => { x with bias := trimCode x.bias up }
    | some (1, up) => { x with depth := trimCode x.depth up }
    | some (_, up) => { x with thresh := trimCode x.thresh up }
    | none => x
  match fail with
  | some sub => dacFails l sub x s
  | none => if !heaterOk x.heater && !x.alt then toAlternate l x s else setLane (laneKey l) x s
def execLockUpdate (l : OLane) (delta : BitVec 4) (trim : Option (Fin 3 × Bool)) (fail : Option Bool) (s : State) : Host.Outcome State Fault Refusal :=
  onLane l (lockUpdate l delta trim fail) s

/-! ### Wrong lines (R328, R329) -/

/-- The traffic of a lane leaves it: to the spare for a time, or the port narrows (steps 1 and 2 of R328). -/
def recoveryBegins (l : OLane) (s : State) : State :=
  let s := setLane (laneKey l) { laneAt s (laneKey l) with out := true } s
  match laneLink l, lanePort l with
  | some k, _ => laneOut k l.lane.toNat s
  | none, some (g, p) => laneFails g p l.lane.toNat s
  | none, none => s
/-- The lane is locked on its own line again, and returns; one that its port dropped for want of a spare stays out until the
port trains again (R328, R329). -/
def recoveryEnds (l : OLane) (s : State) : State :=
  let n := l.lane.toNat
  match laneLink l, lanePort l with
  | some k, _ => laneBack k n (laneReturns (laneKey l) s)
  | none, some (g, p) =>
    if onSpare s g p n && decide (portState s g p .full = 3 ∨ portState s g p .full = 4) then laneReturns (laneKey l) (moveBack g p n s)
    else if slotBad s g p n then s else laneReturns (laneKey l) s
  | none, none => laneReturns (laneKey l) s
/-- The lane is not returned: what was its recovery is its failure (R329, R314). -/
def recoveryFails (l : OLane) (s : State) : State :=
  let n := l.lane.toNat
  let s := setLane (laneKey l) { laneAt s (laneKey l) with out := false } s
  raiseEvent 2 25 0x0C1 (BitVec.ofNat 32 (laneKey l)) (match laneLink l, lanePort l with
    | some k, _ => failLane k n s
    | none, some (g, p) => { s with portT := Tab.put 0 s.portT (badKey g p) (Tab.get 0 s.portT (badKey g p) ||| 2 ^ n) }
    | none, none => setLane (laneKey l) { laneAt s (laneKey l) with gone := true } s)
/-- WRONG_LINE_LOCK (R328, R329): detected on a lane in service, it takes the lane out; on a lane that is out it brings the
outcome. A lane that needs it again within 1 s of its return fails for good. (DESIGN CHOICE, log 21) -/
def wrongLine (l : OLane) (relocked : Bool) (s : State) : State :=
  let x := laneAt s (laneKey l)
  if laneGone s l || laneDark s l.kind.toNat l.index.toNat then s
  else if x.out then (if relocked then recoveryEnds l s else recoveryFails l s)
  else
    let soon := match x.lastRet with | some t => decide (s.now ≤ t + 250000000) | none => false
    let s := setLane (laneKey l) { x with relocks := min (x.relocks + 1) 15 } (s.incRf 0xA0000 0 16 1)
    let s := recoveryBegins l s
    if soon then recoveryFails l s else s
def execWrongLineLock (l : OLane) (relocked : Bool) (s : State) : Host.Outcome State Fault Refusal :=
  onLane l (wrongLine l relocked) s

/-! ### Combs (R330–R333) -/

def swapState (s : State) (t : Nat) : Nat := s.rf (0xA1004 + 0x100 * t) 16 2
def setSwap (t st : Nat) (s : State) : State := s.setRf (0xA1004 + 0x100 * t) 16 2 st
/-- Spare positions ready, and BELLOWS_STATUS_t.SparesReady. -/
def sparePos (s : State) (t : Nat) : List Nat := (List.range 10).filter (fun p => decide (combState s t p = 1))
def showSpares (t : Nat) (s : State) : State := s.setRf (0xA1004 + 0x100 * t) 12 4 (sparePos s t).length
/-- A position takes a state and a drive current. -/
def setComb (t p st drive : Nat) (s : State) : State :=
  showSpares t ((s.setRf (combPos t p) 29 3 st).setRf (combPos t p) 17 9 drive)
def combDrive (s : State) (t p : Nat) : Nat := s.rf (combPos t p) 17 9
/-- Whether an active comb is lit: in STANDBY, and in recovery, T0's of role 7 alone is (R359, R418). -/
def combLit (s : State) (t p : Nat) : Bool := decide (t = 0 ∧ combRole s t p = 7) || (decide (s.devState ≠ 2) && !s.recovery)
/-- The combs of the start: each active one at its nominal drive (R330, R334). -/
def warmCombs (s : State) : State :=
  (List.range 40).foldl (fun t i =>
    if combState t (i / 10) (i % 10) = 0 ∧ combDrive t (i / 10) (i % 10) = 0 then t.setRf (combPos (i / 10) (i % 10)) 17 9 250 else t) s

/-- The position that serves a role. -/
def rolePos (s : State) (t role : Nat) : Option Nat :=
  (List.range 10).find? (fun p => decide (combState s t p = 0 ∧ combRole s t p = role))
def swapOf (s : State) (t : Nat) : Option Swap := Tab.get none s.swaps t
def putSwap (t : Nat) (w : Option Swap) (s : State) : State := { s with swaps := Tab.put none s.swaps t w }

/-- The first spare ready begins to warm for a role; with none, event 0x0E1 for a role that is lit (R331, R333). (DESIGN CHOICE, log 21) -/
def beginSwap (t role : Nat) (dark : Bool) (s : State) : State :=
  match sparePos s t with
  | [] => if dark then s else raiseEvent 2 26 0x0E1 (BitVec.ofNat 32 (8 * t + role)) s
  | p :: _ => setComb t p 2 250 (setSwap t 1 (putSwap t (some ⟨role, p, dark, none⟩) s))
/-- A role needs a spare: its swap begins, or waits for one that runs, a dark role first (R331, R333). (DESIGN CHOICE, log 21) -/
def needSpare (t role : Nat) (dark : Bool) (s : State) : State :=
  let rest := s.swapWait.filter (fun w => decide (w.1 ≠ t ∨ w.2.1 ≠ role))
  match swapOf s t with
  | none => beginSwap t role dark s
  | some w =>
    if w.role = role then (if dark then putSwap t (some { w with dark := true }) s else s)
    else if sparePos s t = [] ∧ dark = false then raiseEvent 2 26 0x0E1 (BitVec.ofNat 32 (8 * t + role)) s
    else if dark then { s with swapWait := (t, role, true) :: rest }
    else if s.swapWait.any (fun w => decide (w.1 = t ∧ w.2.1 = role)) then s
    else { s with swapWait := s.swapWait ++ [(t, role, false)] }

/-- Of the roles that wait on a tile, each in its turn asks for a spare until one begins to warm (R331). -/
def nextSwap (t : Nat) : List (Nat × Nat × Bool) → State → State
  | [], s => s
  | w :: r, s =>
    let s := beginSwap t w.2.1 w.2.2 { s with swapWait := s.swapWait.filter (fun x => decide (x ≠ w)) }
    if (swapOf s t).isSome then s else nextSwap t r s
/-- A tile's swap is over: the roles that wait for a spare are next (R331). -/
def swapOver (t : Nat) (s : State) : State :=
  let s := setSwap t 0 (putSwap t none s)
  nextSwap t (s.swapWait.filter (fun w => decide (w.1 = t))) s

/-- Ports fed by a role (R323). -/
def rolePorts (role : Nat) : List Nat := if role = 6 then List.range 6 else if role = 7 then (List.range 6).map (· + 6) else []
/-- The enabled ports of a role begin to train (R333, R250). -/
def trainRole (t role : Nat) (s : State) : State :=
  (rolePorts role).foldl (fun x p => if portEnabled x t p then (halvesOf x t p).foldl (fun y h =>
    if portState y t p h = 3 then y else beginTraining t p h y) x else x) s

/-- The distribution tree switches a role to its spare, and the old comb, if it still shone, is turned off and retired
(R332, R333). -/
def switchComb (t : Nat) (w : Swap) (s : State) : State :=
  let s := match rolePos s t w.role with | some o => setComb t o 3 0 s | none => s
  let s := (setComb t w.pos 0 250 s).setRf (combPos t w.pos) 26 3 w.role
  let s := swapOver t (if w.dark then s else raiseEvent 0 26 0x0E0 (BitVec.ofNat 32 (8 * t + w.role)) s)
  if w.dark then trainRole t w.role s else pumpAll t (sendTakeovers s)

/-- A warmed spare takes over: a dark role's at once, any other in the quiet gap that the tongs broadcast, 10 ticks ahead
(R332, R333). (DESIGN CHOICE, log 21) -/
def spareReady (t : Nat) (w : Swap) (s : State) : State :=
  if w.dark then switchComb t w s else setSwap t 2 (toDies (putSwap t (some { w with gap := some (s.now + 10) }) s))
/-- A spare that failed its warming or matching is turned off and ready no more. (DESIGN CHOICE, log 21) -/
def spareFails (t p : Nat) (s : State) : State := setComb t p 3 0 s

/-- Steps 2–5 of R332 on a tile whose swap has begun: the spare is warmed and matched, or the other one is. (DESIGN CHOICE, log 21) -/
def combSwap (t role : Nat) (ok1 ok2 : Bool) (s : State) : State :=
  let fail (s : State) : State := swapOver t (raiseEvent 2 26 0x0E1 (BitVec.ofNat 32 (8 * t + role)) s)
  match swapOf s t with
  | some w =>
    if w.role ≠ role ∨ w.gap.isSome = true then s
    else if ok1 then spareReady t w s
    else
      let s := spareFails t w.pos s
      (match sparePos s t with
       | [] => fail s
       | q :: _ => if ok2 then spareReady t { w with pos := q } (setComb t q 2 250 s) else fail (spareFails t q s))
  | none => s
/-- COMB_SWAP (R332). -/
def execCombSwap (t : QuadId) (role : Fin 8) (okFirst okSecond : Bool) (s : State) : Host.Outcome State Fault Refusal :=
  alive (combSwap t.val role.val okFirst okSecond) s

/-- QUIET_GAP (R332): once the 16 ticks from N are over, the role has its new comb. -/
def quietGap (t : Nat) (s : State) : State :=
  match swapOf s t with
  | some w =>
    (match w.gap with
     | some n => if s.now < n + 16 then s else switchComb t w s
     | none => s)
  | none => s
def execQuietGap (t : QuadId) (s : State) : Host.Outcome State Fault Refusal := alive (quietGap t.val) s

/-- Drive after one comparison (R330): 2 mA up to 400, or down to 250. -/
def nextDrive (d : Nat) (diff : Int) : Nat := if diff < -30 then min (d + 2) 400 else if 30 < diff then max (d - 2) 250 else d
/-- Since when a role's least margin has been below SpareMargin: 0 if it is not, as a saturated reading shows of none, 1 once
it has called a spare (R331, R340). (DESIGN CHOICE, log 21) -/
def lowSince (s : State) (k : Nat) (margin : BitVec 9) : Nat :=
  if 5 * s.rf 0xA0004 8 8 ≤ margin.toNat ∨ margin = BitVec.allOnes 9 then 0
  else if Tab.get 0 s.lowFrom k = 0 then s.now + 2 else Tab.get 0 s.lowFrom k
/-- LASER_DRIVE_UPDATE (R330, R331), once every 10 ms for an active comb: `diff` is the received power less its target in
0.01 dB, `x` what is read of its position. -/
def laserUpdate (t p : Nat) (diff : BitVec 16) (x : CombReading) (s : State) : State :=
  let k := 10 * t + p
  let last := Tab.get 0 s.laserAt k
  if combState s t p ≠ 0 ∨ combLit s t p = false ∨ (last ≠ 0 ∧ s.now < last - 1 + 2500000) then s
  else
    let d := combDrive s t p
    let n := nextDrive d diff.toInt
    let low := lowSince s k x.margin
    let called := decide (1 < low ∧ low - 2 + 25000000 ≤ s.now)
    let s := { ((s.setRf (combPos t p) 17 9 n).setRf (combPos t p) 9 8 x.temp.toNat).setRf (combPos t p) 0 9 x.margin.toNat with
      laserAt := Tab.put 0 s.laserAt k (s.now + 1), lowFrom := Tab.put 0 s.lowFrom k (if called then 1 else low) }
    if (d < 370 ∧ 370 ≤ n) ∨ called = true then needSpare t (combRole s t p) false s else s
def execLaserDriveUpdate (t : QuadId) (p : Fin 10) (diff : BitVec 16) (reading : CombReading) (s : State) : Host.Outcome State Fault Refusal :=
  alive (laserUpdate t.val p.val diff reading) s

/-- A write of BELLOWS_CTRL_t (R340): ForceSwap starts a swap for Role, and is ignored while one runs. -/
def bellowsWrite (t : Nat) (v : Word) (s : State) : State :=
  let s := s.plainWrite (0xA1000 + 0x100 * t) v
  if fld v 0 1 = 1 ∧ swapState s t = 0 then needSpare t (fld v 1 3) false s else s
/-- FORCE_SWAP (R340, R332). -/
def execForceSwap (t : QuadId) (role : BitVec 3) (okFirst okSecond : Bool) (s : State) : Host.Outcome State Fault Refusal :=
  alive (fun s => if swapState s t.val ≠ 0 ∨ s.recovery = true then s
    else combSwap t.val role.toNat okFirst okSecond (bellowsWrite t.val (BitVec.ofNat 32 (role.toNat * 2 + 1)) s)) s

/-! ### A comb goes dark (R333) -/

/-- Whether a Spasen port is UP; its laser is dark in quench (R389). -/
def spsPortUp (s : State) (dn : Bool) : Bool := !s.quench && decide (s.rf 0x60000 (if dn then 2 else 0) 2 = 2)
def chainBelow (s : State) : Nat := s.rf 0x10 8 6
/-- A Spasen port goes DOWN (R397). (DEDUCED, log 40) -/
def spsDownPort (dn : Bool) (s : State) : State :=
  if !spsPortUp s dn then s
  else
    let s := s.setRf 0x60000 (if dn then 2 else 0) 2 1
    if dn then (if chainBelow s = 0 then s else raiseEvent 2 5 0x161 0 s) else raiseEvent 2 5 0x160 0 s

/-- What a dark bundle carried goes back to its hearth port, to leave by another, and its requests for grants are withdrawn
(R333, R231, R306); for an endpoint fenced meanwhile it is answered or discarded there (R241). -/
def giveUpBundle (g : Nat) (s : State) : State :=
  (List.range 20).foldl (fun t d => refence d t)
  ((s.pool.filter (fun i => match i.loc with | .flight b _ => decide (b = g) | _ => false)).foldl (fun t i =>
    let t := match i.cred, i.loc with
      | some (e, rb), .flight _ d =>
        let k := credKey e d rb
        { t with credUsed := Tab.put 0 t.credUsed k (Tab.get 0 t.credUsed k - 1) }
      | _, _ => t
    t.modItem i.id (fun x => { x with loc := .port (ownerOf g), cred := none, held := false, since := t.now }))
    { s with greqs := s.greqs.filter (fun q => decide (q.g ≠ g)) })

/-- COMB_DARK (R333): the transmitters its role feeds lose their light, and a spare is brought in at once. -/
def combDark (t p : Nat) (s : State) : State :=
  if combState s t p ≠ 0 ∨ combLit s t p = false then s
  else
    let role := combRole s t p
    let s := setComb t p 4 0 s
    let s := ((List.range 912).filter (fun g => decide (ownerOf g / 5 = t ∧ bundleRole g = role))).foldl (fun x g =>
      if x.pool.any (fun i => match i.loc with | .flight b _ => decide (b = g) | _ => false) || x.greqs.any (fun q => decide (q.g = g))
      then giveUpBundle g x else x) s
    let s := (rolePorts role).foldl (fun x q => (halvesOf x t q).foldl (fun y h =>
      if portState y t q h = 3 ∨ portState y t q h = 4 then portDown t q h y else y) x) s
    let s := if t = 0 ∧ role = 7 then spsDownPort true (spsDownPort false s) else s
    let s := raiseEvent 2 26 0x0E2 (BitVec.ofNat 32 (8 * t + role)) s
    match swapOf s t with
    | some w => if w.role = role ∧ w.gap.isSome = true then switchComb t { w with dark := true } s else needSpare t role true s
    | none => needSpare t role true s
def execCombDark (t : QuadId) (p : Fin 10) (s : State) : Host.Outcome State Fault Refusal := alive (combDark t.val p.val) s

/-! ### Calibration results (R334–R336) -/

/-- The row of R335 that a result fails, 1–5; 0 when it is plausible. Of a periodic result `u` is the heater code in use. -/
def calReason (u : Option (BitVec 12)) (c : Cal) : Nat :=
  let h := c.heater.toNat
  let near := match u with | some v => decide (h ≤ v.toNat + 0x100 ∧ v.toNat ≤ h + 0x100) | none => true
  if !(heaterOk c.heater && near) then 1
  else if !(codeOk c.bias && codeOk c.depth && codeOk c.threshold) then 2
  else if !decide (100 ≤ c.eyeWidth.toNat ∧ c.eyeWidth.toNat ≤ 1000) then 3
  else if !decide (20 ≤ c.eyeHeight.toNat ∧ c.eyeHeight.toNat ≤ 1000) then 4
  else if !c.berOk then 5 else 0
/-- A plausible result is applied. -/
def applyCal (c : Cal) (x : OptLane) : OptLane :=
  { x with heater := c.heater, bias := c.bias, depth := c.depth, thresh := c.threshold, eyeW := c.eyeWidth, eyeH := c.eyeHeight
           ber := c.berExp, fails := 0 }
/-- CRC mismatches that a hearth lane's link has counted, of another lane none. -/
def laneCrc (s : State) (l : OLane) : Nat :=
  match laneLink l with | some k => Tab.get 0 (s.link k).crc l.lane.toNat | none => 0
/-- Whether an estimate 10^−e lies within 2 decades of a rate of `n` mismatches in so many bits. -/
def berNear (n bits e : Nat) : Bool := decide (n = 0 ∨ (bits ≤ n * 10 ^ (e + 2) ∧ n * 10 ^ e ≤ 100 * bits))
/-- A result with its BER estimate judged (R335): of a hearth lane against the mismatches that its link has counted since its
last result was applied, at 256 bits a tick (R226, R341); of another lane, whose mismatches no register counts, as the
controller judged it. (DESIGN CHOICE, log 21) -/
def judged (l : OLane) (x : OptLane) (c : Cal) (s : State) : Cal :=
  match laneLink l with
  | some _ => { c with berOk := berNear (laneCrc s l - x.calCrc) (256 * (s.now - x.calAt)) c.berExp.toNat }
  | none => c
/-- A plausible result is applied, and the interval of the next begins. -/
def takeCal (l : OLane) (c : Cal) (x : OptLane) (s : State) : State :=
  setLane (laneKey l) { applyCal c x with calAt := s.now, calCrc := laneCrc s l } s

/-- An implausible attempt is recorded in OPT_LOG, with event 0x0C3 (R336). -/
def logCal (l : OLane) (reason : Nat) (s : State) : State :=
  let n := min (s.rf 0xA0030 0 8 + 1) 255
  let s := s.setReg 0xA0030 (BitVec.ofNat 32 (l.kind.toNat * 2 ^ 29 + l.index.toNat * 2 ^ 16 + l.lane.toNat * 2 ^ 11 + reason * 2 ^ 8 + n))
  raiseEvent 0 25 0x0C3 (BitVec.ofNat 32 (laneKey l)) s
/-- After such an attempt the lane keeps its values; the third in succession takes it to its alternate ring (R325), or where
that is in use fails it (R336). (DEDUCED, log 21) -/
def implausible (l : OLane) (reason : Nat) (s : State) : State :=
  let s := logCal l reason s
  let x := laneAt s (laneKey l)
  if x.fails < 2 then setLane (laneKey l) { x with fails := x.fails + 1 } s
  else if !x.alt && !laneGone s l then toAlternate l { x with fails := 0 } s
  else laneFailing l (setLane (laneKey l) { x with fails := 0 } s)

/-- PERIODIC_CALIBRATION (R335, R336). -/
def periodicCal (l : OLane) (c : Cal) (s : State) : State :=
  let x := laneAt s (laneKey l)
  let r := calReason (some x.heater) (judged l x c s)
  if r ≠ 0 then implausible l r s else takeCal l c x s
def execPeriodicCalibration (l : OLane) (cal : Cal) (s : State) : Host.Outcome State Fault Refusal :=
  onLane l (periodicCal l cal) s

/-- The values fused at assembly for a lane (R336). -/
def factoryLane (k : Nat) (x : OptLane) : OptLane :=
  { x with heater := (Config.factoryCal k 0).setWidth 12, eyeW := (Config.factoryCal k 1).setWidth 10
           eyeH := (Config.factoryCal k 2).setWidth 10, ber := (Config.factoryCal k 3).setWidth 5
           bias := (Config.factoryCal k 6).setWidth 8, depth := (Config.factoryCal k 7).setWidth 8
           thresh := (Config.factoryCal k 8).setWidth 8 }
/-- The result of a start for one lane: that of its primary rings, else that of its alternate ones; where neither is
plausible the lane keeps its previous values `prev`, at a cold start the factory's (R325, R335, R336). (DEDUCED, log 21) -/
def startCal (prev : Nat → OptLane) (x : OLane × Cal × Option Cal) (s : State) : State :=
  let l := x.1
  if !olaneOk l.kind.toNat l.index.toNat l.lane.toNat then s
  else
    let y := prev (laneKey l)
    let s := setLane (laneKey l) y s
    let r := calReason none x.2.1
    if r = 0 then takeCal l x.2.1 y s
    else
      let s := setLane (laneKey l) { y with fails := min (y.fails + 1) 2 } (logCal l r s)
      match x.2.2 with
      | none => s
      | some c =>
        let q := calReason none c
        if q = 0 then takeCal l c { y with alt := true, segs := 0, sub := false, dead := 0 }
          (raiseEvent 0 25 0x0C2 (BitVec.ofNat 32 (laneKey l)) s)
        else setLane (laneKey l) { y with fails := 2 } (logCal l q s)
/-- The hearth lanes that lock on neither ring: each has failed, as the link test finds (R325, R311). -/
def unlocked (l : List (OLane × Cal × Option Cal)) : List (LinkId × LaneTest) :=
  (l.filter (fun x => decide (calReason none x.2.1 ≠ 0) && x.2.2.isNone && (laneLink x.1).isSome)).map (fun x =>
    (⟨x.1.kind, x.1.index.setWidth 12⟩, ⟨x.1.lane.setWidth 9, true, 0⟩))

/-! ### The image (R337, R338) -/

/-- Mean reading of the working hearth sensors (R368); open where none has converted. (DESIGN CHOICE, log 21) -/
def hearthTemp (s : State) : BitVec 12 :=
  let l := (List.range 48).filterMap (fun i =>
    let x := Tab.get Sensor.reset s.sensors (256 + i)
    if x.conv ≠ 0 && !x.fail then some x.temp.toInt else none)
  if l = [] then (Config.freeWord s.free).setWidth 12 else BitVec.ofInt 12 (l.foldl (· + ·) 0 / l.length)
/-- A snapshot of the calibration state is taken. -/
def takeSnapshot (s : State) : State :=
  { s with free := s.free + 1, images := s.images + 1, image := some ⟨s.images + 1, hearthTemp s, s.optics⟩ }

/-- A write of OPT_IMG_ADDR: writing 0 takes a snapshot (R337). -/
def imageAddr (v : Word) (s : State) : State :=
  let s := s.plainWrite 0xA0020 v
  if fld v 0 16 = 0 then takeSnapshot s else s
/-- IMAGE_SNAPSHOT (R337). -/
def execImageSnapshot (s : State) : Host.Outcome State Fault Refusal := alive (imageAddr 0) s

/-- A read of OPT_IMG_DATA: the word at Word of the last snapshot, which then advances (R337). Before any snapshot the
words are open. (DESIGN CHOICE, log 21) -/
def imageNext (s : State) : Word × State :=
  let w := s.rf 0xA0020 0 16
  let v := match s.image with
    | none => Config.imageWord w
    | some m => imageAt m s.fuses.serial (if w = 6 then imageCrc m s.fuses.serial else 0) w
  (v, s.setRf 0xA0020 0 16 (w + 1))

/-- Whether a restored image passes R338: its length, CRC, identity, and a temperature within 10 °C. -/
def imageOk (l : List Word) (serial : DWord) (temp : BitVec 12) : Bool :=
  decide (l.length = imageWords ∧ l.getD 0 0 = 1#32 ∧ l.getD 5 0 = BitVec.ofNat 32 imageWords) &&
    decide (l.getD 6 0 = Config.crc32 (l.set 6 0)) && decide (l.getD 2 0 ++ l.getD 1 0 = serial) &&
    decide ((l.getD 4 0).toInt ≤ temp.toInt + 80 ∧ temp.toInt ≤ (l.getD 4 0).toInt + 80)

end Sys2Proof.Machine
end

