-- ==== Sys2Proof/Machine/Power.lean ====
section
/-! DEFINITION. Clocking and power (R341–R367): step changes, droop, loss of reference, the damper's grants,
over-current, and the power states of the device and its regions. -/

namespace Sys2Proof.Machine

/-! ### What requesters ask for (R39, R355) -/

/-- The highest StepHint among a region's running cores. -/
def regionHint (s : State) (r : Nat) : Option Nat :=
  s.cores.foldl (fun b e =>
    if e.2.st = .running ∧ regionOf e.1 = r then some (max (b.getD 0) e.2.hint.toNat) else b) none
/-- The step a requester asks for as its cores or queues stand; out of service it asks for its floor step. -/
def askOf (s : State) (q : Nat) : Nat :=
  if q < 32 then
    if s.funcState (1 + q / 4) ≠ 0 then s.floorStep q else (regionHint s q).getD (s.floorStep q)
  else if q < 36 then
    if s.funcState (9 + (q - 32)) = 0 ∧ s.pool.any (fun i => match i.loc with | .pcq k _ => decide (k = q - 32) | _ => false) = true
    then 3 else s.floorStep q
  else 0

/-! ### Grants (R356) -/

/-- The step a requester has asked for. -/
def asked (s : State) (q : Nat) : Nat := ((Tab.get Req.reset s.reqs q).asked).getD (s.granted q)
def waits (s : State) (q : Nat) : Bool := decide (s.granted q < asked s q)

/-- Take in what a requester asks for; a lower step is granted at once, since it drops boost. (DESIGN CHOICE, log 28) -/
def takeAsk (s : State) (q : Nat) : State :=
  let a := askOf s q
  let r := Tab.get Req.reset s.reqs q
  let s := { s with reqs := Tab.put Req.reset s.reqs q { r with asked := if a = s.floorStep q ∧ a = s.granted q then none else some a } }
  if a < s.granted q then setGrant q a s else s
/-- Drop from a requester's list those that have been granted what they asked for or have lowered their request. -/
def pruneBehind (s : State) (q : Nat) : State :=
  let r := Tab.get Req.reset s.reqs q
  { s with reqs := Tab.put Req.reset s.reqs q { r with behind := r.behind.filter (fun w => decide (s.granted w.1 < w.2 ∧ w.2 ≤ asked s w.1)) } }

/-- Further quanta a requester would be charged at a step. -/
def extra (s : State) (q n : Nat) : Nat := s.needOf q n - s.heldBoost q
def extras (s : State) (l : List Nat) (n : Nat) : Nat := l.foldl (fun t q => t + extra s q (max n (s.granted q))) 0
/-- The highest step up to `n` at which all of a list fit in the free pool. (DESIGN CHOICE, log 28) -/
def fitStep (s : State) (l : List Nat) : Nat → Nat
  | 0 => 0
  | n + 1 => if extras s l (n + 1) ≤ s.freeBoost then n + 1 else fitStep s l n
def grantAll (l : List Nat) (n : Nat) (s : State) : State := l.foldl (fun t q => setGrant q (max n (t.granted q)) t) s

/-- No requester that asks for more is held below its floor step (R356). -/
def toFloor (s : State) (q : Nat) : State :=
  let n := min (asked s q) (s.floorStep q)
  if s.granted q < n then setGrant q n s else s
/-- Grants under the policy of R356: all that wait where all fit; else crucibles first, then regions by the step they
ask for, lowest first, those that ask for the same step alike. Requesters behind others after a burst come in only
when no other waits. (DESIGN CHOICE, log 28) -/
def damper (s : State) : State :=
  let s := (List.range 36).foldl takeAsk s
  let s := (List.range 36).foldl pruneBehind s
  let s := (List.range 36).foldl toFloor s
  let w := (List.range 36).filter (waits s)
  let s :=
    if s.rf 0x20004 31 1 = 1 ∨ s.pins.ocAlertN = false then s
    else if w.foldl (fun t q => t + extra s q (asked s q)) 0 ≤ s.freeBoost then
      w.foldl (fun t q => setGrant q (asked s q) t) s
    else
      let e := w.filter (fun q => (Tab.get Req.reset s.reqs q).behind.isEmpty)
      let e := if e.isEmpty then w else e
      let s := (e.filter (fun q => decide (32 ≤ q))).foldl (fun t q => grantAll [q] (fitStep t [q] (asked t q)) t) s
      (List.range 16).foldl (fun t a =>
        let l := e.filter (fun q => decide (q < 32 ∧ asked s q = a))
        grantAll l (fitStep t l a) t) s
  syncSteps (showPool ((List.range 36).foldl showWaiting s))

/-- BOOST_REQUEST (R356): what a requester asks for has changed. -/
def execBoostRequest (q : ReqId) (s : State) : Host.Outcome State Fault Refusal :=
  alive (fun s => if q.val < 36 ∧ s.devState = 0 ∧ (askOf s q.val ≠ s.granted q.val ∨ askOf s q.val ≠ asked s q.val) then damper s else s) s

/-- A burst ends: the boost goes, those that wait come first, and the damper grants afresh (R356). (DESIGN CHOICE, log 28, log 48) -/
def burstEnd (q : Nat) (s : State) : State :=
  let r := Tab.get Req.reset s.reqs q
  match r.endsAt with
  | some t =>
    if s.now < t then s
    else
      let w := ((List.range 36).filter (fun i => decide (i ≠ q) && waits s i)).map (fun i => (i, asked s i))
      let s := setGrant q (s.floorStep q) s
      damper { s with reqs := Tab.put Req.reset s.reqs q { r with endsAt := none, behind := w } }
  | none => s
/-- BURST_EXPIRY (R356). -/
def execBurstExpiry (q : ReqId) (s : State) : Host.Outcome State Fault Refusal := alive (burstEnd q.val) s

/-! ### Step changes (R345, R346) -/

/-- Whether a broadcast's tick has come: `N` lies at most 2^23 ticks after it. (DESIGN CHOICE, log 27) -/
def stepDue (s : State) (n : BitVec 24) : Bool := decide ((s.tick.toNat + 2 ^ 24 - n.toNat) % 2 ^ 24 < 2 ^ 23)

/-- Of the step a region misses and one it missed before, the one charged more: no change has succeeded since (R346). -/
def missedStep (s : State) (r target : Nat) : Nat :=
  let m := Tab.get 0 s.missed r
  if m ≠ 0 ∧ s.needOf r target < s.needOf r (m - 1) then m - 1 else target
/-- A region switches to its target, or keeps its step where its PLL has not locked (R346, R372). -/
def regionSwitch (r target : Nat) (fails : Bool) (s : State) : State :=
  let a := 0x40200 + 4 * r
  let s := s.setRf a 12 1 0
  if fails ∧ s.regionState r = 0 then
    let s := if s.rf (0x30100 + 4 * r) 31 1 = 1 then
        { s with swallow := Tab.put 0 s.swallow r (s.rf (0x40100 + 4 * s.capOf r) 0 5) } else s
    raiseEvent 2 3 0x104 (BitVec.ofNat 32 r) { s.setRf a 31 1 1 with missed := Tab.put 0 s.missed r (missedStep s r target + 1) }
  else
    let s := { s.setRf a 0 4 target with missed := Tab.put 0 s.missed r 0 }
    if s.aim r < target then s else { s with swallow := Tab.put 0 s.swallow r 0 }

/-- The members of a broadcast switch, and the anvils' voltages follow where steps fell (R357). -/
def stepMembers (e : StepPend) (fails : Word) (s : State) : State :=
  if e.crucible then
    (List.range 4).foldl (fun t k => if e.mask.getLsbD k then t.setRf 0x40010 (2 * k) 2 e.target.toNat else t) s
  else
    let s := (List.range 32).foldl (fun t r => if e.mask.getLsbD r then regionSwitch r e.target.toNat (fails.getLsbD r) t else t) s
    (List.range 8).foldl (fun t a =>
      if t.avs.any (fun x => decide (x.1 / 4 = a)) then t else setVcore a (t.vNeed a false) t) s

/-- The changes whose tick `n` has come take effect, and the damper gives out what they free. -/
def stepSwitch (n : BitVec 24) (fails : Word) (s : State) : State :=
  let l := s.steps.filter (fun e => decide (e.n = n))
  if stepDue s n = false ∨ l = [] then s
  else damper (l.foldl (fun t e => stepMembers e fails t) { s with steps := s.steps.filter (fun e => decide (e.n ≠ n)) })
/-- STEP_SWITCH (R345): `lockFail` names the regions whose idle PLL has not locked. -/
def execStepSwitch (n : BitVec 24) (lockFail : Word) (s : State) : Host.Outcome State Fault Refusal :=
  alive (stepSwitch n lockFail) s

/-! ### Voltage (R357) -/

/-- The regulator reports: every rise of the anvil is broadcast. -/
def regulatorReport (a : Nat) (s : State) : State :=
  if s.avs.any (fun e => decide (e.1 / 4 = a)) then
    let s := { s with avs := s.avs.filter (fun e => decide (e.1 / 4 ≠ a)) }
    (List.range 4).foldl (fun t q =>
      let r := 4 * a + q
      if t.coming r < t.aim r ∧ t.abandoned r = false then stepBroadcast false r (t.aim r) t else t) s
  else s
/-- REGULATOR_REPORT (R357). -/
def execRegulatorReport (anvil : SiteId) (s : State) : Host.Outcome State Fault Refusal := alive (regulatorReport anvil.val) s

/-- 100 µs without a report: the rises that have waited so long are abandoned, and their regions keep their steps; a grant
lasts until its own end (R356). (DESIGN CHOICE, log 28, log 48) -/
def avsTimeout (a : Nat) (s : State) : State :=
  let late (e : Nat × Nat × Nat) : Bool := decide (e.1 / 4 = a ∧ e.2.1 + 25000 ≤ s.now)
  if !s.avs.any late then s
  else
    let s := { s with
      avs := s.avs.filter (fun e => !late e)
      reqs := (s.avs.filter late).foldl (fun t e =>
        Tab.put Req.reset t e.1 { Tab.get Req.reset t e.1 with gaveUp := some e.2.2 }) s.reqs }
    raiseEvent 2 1 0x121 (BitVec.ofNat 32 a)
      (setVcore a (s.vNeed a (s.avs.any (fun e => decide (e.1 / 4 = a)))) s)
/-- AVS_TIMEOUT (R357). -/
def execAvsTimeout (anvil : SiteId) (s : State) : Host.Outcome State Fault Refusal := alive (avsTimeout anvil.val) s

/-! ### Over-current (R358) -/

/-- OC_ALERT_N falls: pulses swallowed, crucibles at their floor rate, every boost revoked, floor steps broadcast. (DESIGN CHOICE, log 29) -/
def ocAlert (s : State) : State :=
  let s := { (s.setRf 0x20004 31 1 1).incRf 0x20008 0 32 1 with
    ocSince := some s.now, pins := { s.pins with ocAlertN := false } }
  let s := (List.range 32).foldl (fun t r =>
    let f := min (t.floorStep r) (t.capOf r)
    if t.floorStep r < t.inForce r then { t with swallow := Tab.put 0 t.swallow r (t.rf (0x40100 + 4 * f) 0 5) } else t) s
  let s := (List.range 4).foldl (fun t k => t.setRf 0x40010 (2 * k) 2 (min (t.inForce (32 + k)) (t.floorStep (32 + k)))) s
  let s := (List.range 36).foldl (fun t q => if t.granted q ≤ t.floorStep q then t else setGrant q (t.floorStep q) t) s
  let s := { s with reqs := (s.reqs.map (fun e => (e.1, { e.2 with endsAt := none }))).filter (fun e => decide (e.2 ≠ Req.reset)) }
  syncSteps (showPool ((List.range 36).foldl showWaiting (raiseEvent 2 1 0x120 0 s)))
/-- OC_ALERT (R358): OC_ALERT_N is sampled low, an input read while VIO18 is on (R299). A pulse shorter than tOCW that is
missed is none (R456). (DESIGN CHOICE, log 29) -/
def execOcAlert (s : State) : Host.Outcome State Fault Refusal :=
  alive (fun s => if s.pins.vio = false then s else ocAlert s) s

/-- 100 µs after OC_ALERT_N has risen boosts may be granted again. (DESIGN CHOICE, log 29) -/
def ocHoldEnd (s : State) : State :=
  match s.ocSince with
  | some t =>
    if s.now < t + 25000 then s
    else damper { s.setRf 0x20004 31 1 0 with ocSince := none, pins := { s.pins with ocAlertN := true } }
  | none => s
/-- OC_HOLD_EXPIRY (R358). -/
def execOcHoldExpiry (s : State) : Host.Outcome State Fault Refusal := alive ocHoldEnd s

/-! ### Droop and loss of reference (R347, R349, R350) -/

/-- A region's next cycle is stretched, by an open part of at most half its period; more than 1 % of the last millisecond's
cycles, or a rail that has stayed below VminMv − 50 mV for 1 ms (R451), raises event 0x106. (DEDUCED, log 33) -/
def droopStretch (r : Nat) (lowRail : Bool) (s : State) : State :=
  if s.rf 0x40004 0 1 = 0 ∨ s.regionState r ≠ 0 ∨ s.devState ≠ 0 then s
  else
    let longer := 1 + (Config.freeWord s.free).toNat % 32768
    let l := (Tab.get [] s.stretch r).filter (fun e => decide (s.now < e.1 + 250000)) ++ [(s.now, longer)]
    let many := decide (regionMHz s r * 10 < l.length)
    let s' := { s.incRf (0x40300 + 4 * r) 0 32 1 with
      free := s.free + 1
      stretch := Tab.put [] s.stretch r l
      droopy := if many then setAdd s.droopy r else s.droopy.filter (fun i => decide (i ≠ r))
      lag := Tab.put 0 s.lag r (Tab.get 0 s.lag r + longer) }
    if (many && !s.droopy.contains r) || lowRail then raiseEvent 0 3 0x106 (BitVec.ofNat 32 r) s' else s'
/-- DROOP_STRETCH (R347). -/
def execDroopStretch (r : RegionId) (lowRail : Bool) (s : State) : Host.Outcome State Fault Refusal :=
  alive (droopStretch r.val lowRail) s

/-- REFCLK is declared lost: holdover. Not while C0 itself runs from the reference (R350). -/
def refclkLoss (s : State) : State :=
  if s.holdover.isSome ∨ s.rf 0x40000 30 1 = 1 then s
  else raiseEvent 2 3 0x100 0 { (s.setRf 0x40000 31 1 1).setRf 0x40000 0 20 0 with holdover := some s.now }
/-- REFCLK_LOSS (R349). -/
def execRefclkLoss (s : State) : Host.Outcome State Fault Refusal := alive refclkLoss s

/-- Microseconds of holdover since a tick. -/
def holdUs (s : State) (t : Nat) : Nat := min ((s.now - t) / 250) (2 ^ 20 - 1)
/-- REFCLK returns within 1 s. -/
def refclkRestored (s : State) : State :=
  match s.holdover with
  | some t =>
    if t + 250000000 < s.now then s
    else raiseEvent 0 3 0x101 0 { (s.setRf 0x40000 31 1 0).setRf 0x40000 0 20 (holdUs s t) with holdover := none }
  | none => s
/-- REFCLK_RESTORED (R349). -/
def execRefclkRestored (s : State) : Host.Outcome State Fault Refusal := alive refclkRestored s

/-- Holdover exceeds 1 s. -/
def holdoverTimeout (s : State) : State :=
  match s.holdover with
  | some t => if s.now ≤ t + 250000000 then s else raiseEvent 3 3 0x102 0 (s.setRf 0x40000 0 20 (holdUs s t))
  | none => s
/-- HOLDOVER_TIMEOUT (R349). -/
def execHoldoverTimeout (s : State) : Host.Outcome State Fault Refusal := alive holdoverTimeout s

/-- REFERENCE_LOSS (R350): at a die of F1–F13 that has power (R359, R363). -/
def execReferenceLoss (f : FuncId) (s : State) : Host.Outcome State Fault Refusal :=
  alive (fun s => if 1 ≤ f.val ∧ f.val ≤ 13 ∧ s.devState < (if f.val = 13 then 2 else 1) then raiseEvent 1 3 0x103 (BitVec.ofNat 32 f.val) s else s) s

/-- XTAL_LOSS (R350). -/
def execXtalLoss (s : State) : Host.Outcome State Fault Refusal :=
  alive (fun s => if s.rf 0x40000 30 1 = 1 then s else raiseEvent 2 3 0x105 0 (s.setRf 0x40000 30 1 1)) s

/-! ### The entry handshake (R360, R362) -/

/-- Whether a core keeps its region or the device from leaving ON (R360, R361). -/
def coreBusy (k : Core) : Bool := decide (k.st = .running ∨ k.st = .stopping) || !k.fe.isEmpty || !k.bulk.isEmpty
def regionBusy (s : State) (r : Nat) : Bool := s.cores.any (fun e => decide (regionOf e.1 = r) && coreBusy e.2)

/-- The reason an endpoint's blocks refuse a device entry; 0 for none. -/
def epRefuses (s : State) (standby : Bool) (e : Nat) : Nat :=
  if isStack e && s.cores.any (fun c => decide (siteEp (c.1 / 256) = e) && coreBusy c.2) then 1
  else if s.spec.any (fun l => decide (l.ep.val = e)) then 2
  else if standby && !(Tab.get [] s.own e).isEmpty then 3
  else 0
/-- The first refusal of a device entry: reason and source block. (DEDUCED, log 30) -/
def devRefusal (s : State) (standby : Bool) : Option (Nat × Nat) :=
  let eps := ((List.range 8).map siteEp) ++ [2, 7, 12, 17]
  match eps.find? (fun e => decide (epRefuses s standby e ≠ 0)) with
  | some e => some (epRefuses s standby e, epBlock e)
  | none =>
    if s.rf 0x8F004 31 1 = 1 then some (4, 0)
    else if s.steps ≠ [] then some (5, 1)
    else if (List.range 15).any (fun f => decide (s.rf (0x88020 + 4 * f) 17 1 = 1)) then some (6, 29)
    else if s.fOpen.isSome then some (7, 6)
    else none

/-- An entry is abandoned: the refusal is recorded, with event 0x123. -/
def refuseEntry (key reason blk : Nat) (s : State) : State :=
  let s := { s with entries := s.entries.filter (fun e => decide (e.1 ≠ key)) }
  let s := if 100 ≤ key then s.setRf (0x50100 + 4 * ((key - 100) / 4)) 28 4 reason
    else ((s.setRf 0x50004 28 4 reason).setRf 0x50004 23 5 blk).setRf 0x50004 2 1 0
  raiseEvent 0 1 0x123 (BitVec.ofNat 32 key) s

/-- A crucible with requests queued at its command generators answers DELAY: a power action ends no grant of a row (R276).
(DESIGN CHOICE, log 30) -/
def crucDelay (s : State) : Option (BitVec 5) :=
  ((List.range 4).find? (fun k => s.pool.any (fun i => match i.loc with | .pcq j _ => decide (j = k) | _ => false))).map
    (fun k => BitVec.ofNat 5 (16 + k))
/-- The tongs ask the blocks of an entry: a refusal ends it, a DELAY leaves it to be asked again and counts as a refusal
the fifth time, and otherwise the entry is made. (DEDUCED, log 30) -/
def askEntry (key : Nat) (delay : Option (BitVec 5)) (accept : State → State) (s : State) : State :=
  match s.entries.find? (fun e => decide (e.1 = key)) with
  | none => s
  | some (_, n, _) =>
    let no := if 100 ≤ key then (if regionBusy s ((key - 100) / 4) then some (1, 8 + (key - 100) / 16) else none)
      else devRefusal s (decide (key = 2))
    match no, (if 100 ≤ key then delay else delay.or (crucDelay s)) with
    | some (r, b), _ => refuseEntry key r b s
    | none, some b =>
      if n = 4 then refuseEntry key 8 b.toNat s
      else { s with entries := s.entries.map (fun e => if e.1 = key then (e.1, e.2.1 + 1, b.toNat) else e) }
    | none, none => accept { s with entries := s.entries.filter (fun e => decide (e.1 ≠ key)) }

/-- Begin an entry unless it is under way. -/
def beginEntry (key : Nat) (s : State) : State :=
  if s.entries.any (fun e => decide (e.1 = key)) then s else { s with entries := s.entries ++ [(key, 0, 0)] }

/-! ### Device states (R359) -/

/-- A write of PWR_DEV_CTRL.Target (R359): NAP and STANDBY begin an entry from a higher state, RUN begins a wake. An entry to another
state that the blocks are still asked about is given up. (DESIGN CHOICE, log 30) -/
def devTarget (t : Nat) (s : State) : State :=
  let s := s.setRf 0x50000 0 2 t
  let s := { s with entries := s.entries.filter (fun e => decide (e.1 = t ∨ 100 ≤ e.1)) }
  if t = 0 then s.setRf 0x50004 2 1 (if s.devState = 0 then 0 else 1)
  else if t = 3 ∨ t ≤ s.devState then s.setRf 0x50004 2 1 0
  else (beginEntry t s).setRf 0x50004 2 1 1

/-- Every block has accepted NAP: memories and regions in retention, the crucibles' stacks in self-refresh. -/
def enterNap (s : State) : State :=
  (List.range 4).foldl (fun t k => stopRefresh k t) ((s.setRf 0x50004 2 1 0).setRf 0x50004 0 2 1)
/-- NAP_ENTRY (R359). -/
def execNapEntry (delay : Option (BitVec 5)) (s : State) : Host.Outcome State Fault Refusal :=
  alive (fun s => if 1 ≤ s.devState then s else askEntry 1 delay enterNap (devTarget 1 s)) s

/-! ### Region states (R361) -/

/-- The cores of a region that is powered off lose everything; fenced cores stay fenced (R64). (DEDUCED, log 30) -/
def loseRegion (r : Nat) (s : State) : State :=
  let mine (c : Nat) : Bool := decide (regionOf c = r)
  { s with
    cores := s.cores.filterMap (fun e =>
      if mine e.1 then (if e.2.st = .fenced then some (e.1, { Core.reset with st := .fenced }) else none) else some e)
    mem := Tab.restrict (fun a => !(decide (a < 2 ^ 29) && mine (a / 2 ^ 18))) s.mem
    poison := s.poison.filter (fun a => !(decide (a < 2 ^ 29) && mine (a / 2 ^ 18))) }

/-- A region takes a state below ON, or one above that it leaves without a core to run. (DEDUCED, log 30) -/
def enterRegion (r t : Nat) (s : State) : State :=
  let s := if t = 3 then loseRegion r s else s
  damper { s.setRf (0x50100 + 4 * r) 0 2 t with waking := Tab.put 0 s.waking r 0 }

/-- Whether a wake goes on whatever the Target: a core's start or a request began it (R66, R365). -/
def wakeStays (s : State) (r : Nat) : Bool :=
  regionBusy s r || s.pool.any (fun i => match i.loc with | .store c => decide (regionOf c = r) | _ => false)
/-- A write of PWR_REGION_r.Target (R361): it acts only where it changes the value. What was begun for the old Target, an
entry or a wake, is given up. (DESIGN CHOICE, log 30) -/
def regionTarget (r t : Nat) (s : State) : State :=
  let a := 0x50100 + 4 * r
  if s.rf a 4 2 = t then s
  else
    let s := s.setRf a 4 2 t
    let s := { s with entries := s.entries.filter (fun e => !(decide (100 + 4 * r ≤ e.1 ∧ e.1 < 104 + 4 * r))) }
    let c := s.regionState r
    let wake := if t = 0 ∧ c ≠ 0 then s.now + 1 else if wakeStays s r then Tab.get 0 s.waking r else 0
    let s := { s with waking := Tab.put 0 s.waking r wake }
    if t = c ∨ t = 0 then s
    else if c < t then beginEntry (100 + 4 * r + t) s
    else s.setRf a 0 2 t

/-- A region row: the write of its Target, and the answer of its blocks. -/
def regionEntry (r t : Nat) (delay : Bool) (s : State) : State :=
  if s.devState ≠ 0 then s
  else askEntry (100 + 4 * r + t) (if delay then some (BitVec.ofNat 5 (8 + r / 4)) else none) (enterRegion r t) (regionTarget r t s)
/-- REGION_GATED_CLOCK (R361). -/
def execRegionGatedClock (r : RegionId) (delay : Bool) (s : State) : Host.Outcome State Fault Refusal :=
  alive (regionEntry r.val 1 delay) s
/-- REGION_RETAIN (R361). -/
def execRegionRetain (r : RegionId) (delay : Bool) (s : State) : Host.Outcome State Fault Refusal :=
  alive (regionEntry r.val 2 delay) s
/-- REGION_OFF (R361). -/
def execRegionOff (r : RegionId) (delay : Bool) (s : State) : Host.Outcome State Fault Refusal :=
  alive (regionEntry r.val 3 delay) s
/-- REGION_ON (R361): the wake begins. -/
def execRegionOn (r : RegionId) (s : State) : Host.Outcome State Fault Refusal :=
  alive (fun s => if s.devState ≠ 0 then s else regionTarget r.val 0 s) s

/-- A woken region reaches ON (R66, R361): what waited for it is served from now on. -/
def wakeDone (r : Nat) (s : State) : State :=
  if Tab.get 0 s.waking r = 0 ∨ s.devState ≠ 0 then s
  else damper { s.setRf (0x50100 + 4 * r) 0 2 0 with
    waking := Tab.put 0 s.waking r 0, idleAt := Tab.put 0 s.idleAt r s.now }
/-- REGION_WAKE_DONE (R66). -/
def execRegionWakeDone (r : RegionId) (s : State) : Host.Outcome State Fault Refusal := alive (wakeDone r.val) s

/-- An ON region with Auto set whose cores have been out of RUNNING for AutoIdleUs is gated (R361). -/
def autoIdle (r : Nat) (s : State) : State :=
  let a := 0x50100 + 4 * r
  if s.devState ≠ 0 ∨ s.regionState r ≠ 0 ∨ s.rf a 26 1 = 0 ∨ regionBusy s r = true ∨
    s.now < Tab.get 0 s.idleAt r + 250 * s.rf a 16 10 then s
  else enterRegion r 1 s
/-- AUTO_IDLE (R361). -/
def execAutoIdle (r : RegionId) (s : State) : Host.Outcome State Fault Refusal := alive (autoIdle r.val) s

/-- A write of PWR_REGION_r (R361, R367): clearing Auto while Target is ON returns an auto-gated region to ON. -/
def regionWrite (r : Nat) (v : Word) (s : State) : State :=
  let a := 0x50100 + 4 * r
  let s := (s.setRf a 16 10 (fld v 16 10)).setRf a 27 1 (fld v 27 1)
  let cleared := decide (s.rf a 26 1 = 1 ∧ fld v 26 1 = 0)
  let s := s.setRf a 26 1 (fld v 26 1)
  let s := regionTarget r (fld v 4 2) s
  if cleared && decide (s.rf a 4 2 = 0 ∧ s.regionState r = 1) && decide (Tab.get 0 s.waking r = 0) then
    { s with waking := Tab.put 0 s.waking r (s.now + 1) } else s

end Sys2Proof.Machine
end

