-- ==== Sys2Proof/Machine/Thermal.lean ====
section
/-! DEFINITION. Thermal sensing and protection (R368–R378): sensors, throttle units, caps, trips and the billet
estimate. Temperatures are in units of 0.125 °C. -/

namespace Sys2Proof.Machine

/-! ### Sensors and units (R368) -/

def State.sensor (s : State) (n : Nat) : Sensor := Tab.get Sensor.reset s.sensors n

/-- Throttle units of a sensor: region r, or 32 + crucible. -/
def unitsOf (n : Nat) : List Nat :=
  let tile (t : Nat) : List Nat := (List.range 8).map (fun i => 8 * t + i) ++ [32 + t]
  if n < 128 then [4 * (n / 16) + n % 16 / 4]
  else if n < 256 then [regionOf (clusterCore ((n - 128) / 16) ((n - 128) % 16) 0)]
  else if n < 304 then tile ((n - 256) / 12)
  else if n < 320 then [32 + (n - 304) / 4]
  else if n < 324 then []
  else tile ((n - 324) / 10)
def sensorsOf (u : Nat) : List Nat := (List.range 364).filter (fun n => (unitsOf n).contains u)

/-- A sensor that has converted and works. -/
def Sensor.works (x : Sensor) : Bool := !x.fail && decide (x.conv ≠ 0)
/-- A reading for the thresholds: they are 6 °C lower for a sensor without valid calibration (R369). -/
def Sensor.eff (x : Sensor) : Int := x.temp.toInt + (if x.uncal then 48 else 0)

/-- The highest of a list. -/
def maxInt : List Int → Option Int
  | [] => none
  | x :: l => match maxInt l with | some y => some (max x y) | none => some x
/-- Values of the working sensors of a list. -/
def readings (s : State) (f : Sensor → Int) (l : List Nat) : List Int :=
  l.filterMap (fun n => let x := s.sensor n; if x.works then some (f x) else none)

/-- The billet estimate counts as a reading of the stack's regions once its sensors are implausible (R374). -/
def estReading (s : State) (u : Nat) : List Int :=
  if u < 32 ∧ s.rf 0x30000 (u / 4) 1 = 1 then [((s.reg (0x30200 + 4 * (u / 4))).extractLsb' 0 12).toInt] else []
/-- A unit's temperature, and the one its thresholds see. -/
def unitTemp (s : State) (u : Nat) : Option Int := maxInt (estReading s u ++ readings s (fun x => x.temp.toInt) (sensorsOf u))
def unitEff (s : State) (u : Nat) : Option Int := maxInt (estReading s u ++ readings s Sensor.eff (sensorsOf u))

/-! ### Caps (R371, R372) -/

def capReg (u : Nat) : Nat := 0x30100 + 4 * u
/-- The highest step of a unit. -/
def topStep (u : Nat) : Nat := if u < 32 then 15 else 3
/-- Whether the cap for a unit whose every sensor has failed holds: no cap changes any more (R370). -/
def allFailed (s : State) (u : Nat) : Bool := decide (s.rf (capReg u) 29 1 = 1)
/-- Set a unit's thermal cap; at the highest step none remains. -/
def setCap (u n : Nat) (s : State) : State :=
  if topStep u ≤ n then (s.setRf (capReg u) 31 1 0).setRf (capReg u) 12 4 15
  else (s.setRf (capReg u) 31 1 1).setRf (capReg u) 12 4 n

/-- The range a temperature is in: 2 at 105 °C or above, 1 from 100 °C, 0 below. -/
def heat (t : Int) : Nat := if 840 ≤ t then 2 else if 800 ≤ t then 1 else 0

/-- The rules of 105 °C and 115 °C for a unit: each time it comes to 105 °C its cap falls below the step in force, a cap still
standing too, and the event marks a first one; at 115 °C a region swallows pulses and a crucible drops to its floor command
rate, as step 2 of R358 has it, until step 0 is in force (R371). (DEDUCED, log 33) -/
def unitRule (u : Nat) (t : Int) (s : State) : State :=
  let again := decide (840 ≤ t) && (decide ((Tab.get (0, 0) s.capAt u).1 ≠ 2) || decide (s.rf (capReg u) 31 1 = 0))
  let s := if (Tab.get (0, 0) s.capAt u).1 = heat t then s else { s with capAt := Tab.put (0, 0) s.capAt u (heat t, s.now) }
  let s := if !again then s
    else
      let t := { setCap u (min (s.capOf u) (s.inForce u - 1)) s with capAt := Tab.put (0, 0) s.capAt u (2, s.now) }
      if s.rf (capReg u) 31 1 = 0 then raiseEvent 2 2 0x140 (BitVec.ofNat 32 u) t else t
  if 920 ≤ t ∧ s.rf (capReg u) 30 1 = 0 then
    let s := setCap u 0 (s.setRf (capReg u) 30 1 1)
    let s :=
      if 32 ≤ u then s.setRf 0x40010 (2 * (u - 32)) 2 (min (s.inForce u) (s.floorStep u))
      else if s.inForce u ≠ 0 then { s with swallow := Tab.put 0 s.swallow u 5 } else s
    raiseEvent 2 2 0x141 (BitVec.ofNat 32 u) s
  else if t < 880 then s.setRf (capReg u) 30 1 0
  else s

/-- A confirmed reading of 125 °C or above: quench; THERM_TRIP_N goes low even if another event began the quench
(R373). -/
def trip (u : Nat) (s : State) : State :=
  drive (fun p => { p with tripN := false }) (raiseEvent 3 2 0x142 (BitVec.ofNat 32 u) s)

/-- Conversion number `n` of a part read `t`: 125 °C or above at two conversions in succession trips. (DEDUCED, log 33) -/
def tripRule (key n : Nat) (t : Int) (s : State) : State :=
  if t < 1000 then s
  else
    let last := Tab.get 0 s.hotAt key
    let s := { s with hotAt := Tab.put 0 s.hotAt key n }
    if last + 1 = n ∧ last ≠ 0 then trip key s else s

/-- A unit takes in its temperature after a conversion. -/
def unitUpdate (s : State) (u : Nat) : State :=
  match unitTemp s u, unitEff s u with
  | some t, some e =>
    let s := s.setRf (capReg u) 0 12 (BitVec.ofInt 12 t).toNat
    if allFailed s u || s.quench then s else unitRule u e s
  | _, _ => s

/-- A unit whose every sensor has failed is capped at step 8, a crucible at command rate 1, until a cold reset; with a
thermal cap in force the lower holds (R370). -/
def unitFails (s : State) (u : Nat) : State :=
  if allFailed s u || (sensorsOf u).any (fun n => !(s.sensor n).fail) then s
  else
    let c := min (s.capOf u) (if u < 32 then 8 else 1)
    raiseEvent 2 2 0x145 (BitVec.ofNat 32 u) ((s.setRf (capReg u) 29 1 1).setRf (capReg u) 12 4 c)

/-- A tongs sensor: events 0x140 and 0x141 once per episode, and no step (R371). -/
def tongsRule (i : Nat) (t : Int) (s : State) : State :=
  let was := (Tab.get (0, 0) s.capAt (36 + i)).1
  let now' := if 920 ≤ t ∨ (was = 2 ∧ 880 ≤ t) then 2 else if 840 ≤ t ∨ (1 ≤ was ∧ 800 ≤ t) then 1 else 0
  let s := { s with capAt := Tab.put (0, 0) s.capAt (36 + i) (now', 0) }
  let s := if was = 0 ∧ now' ≠ 0 then raiseEvent 2 2 0x140 (BitVec.ofNat 32 (36 + i)) s else s
  if was ≤ 1 ∧ now' = 2 then raiseEvent 2 2 0x141 (BitVec.ofNat 32 (36 + i)) s else s

/-! ### The billet estimate (R374) -/

/-- Hearth sensors under a stack: of each tile's 12, the first four under its first stack, the next under its second. (PRESUMED, log 32) -/
def underStack (site : Nat) : List Nat := (List.range 4).map (fun i => 256 + 12 * (site / 2) + 4 * (site % 2) + i)
def sumInt (l : List Int) : Int := l.foldl (· + ·) 0
/-- Round a quotient to the register's unit: which way is open. (PRESUMED, log 32) -/
def estRound (num den : Int) : Int := num / den + (if num % den ≠ 0 ∧ Config.estimateUp num.toNat = true then 1 else 0)

/-- T_est of a stack in the register's unit, from the working sensors; none while a mean has no sensor. -/
def estimate (s : State) (site : Nat) : Option Int :=
  let a := readings s (fun x => x.temp.toInt) ((List.range 16).map (fun i => 16 * site + i))
  let h := readings s (fun x => x.temp.toInt) (underStack site)
  if a = [] ∨ h = [] then none
  else
    let na : Int := a.length
    let nh : Int := h.length
    let q : Int := (List.range 4).foldl (fun n i => n + s.chargeOf (4 * site + i)) 0
    let kb : Int := s.rf 0x30004 0 16
    let pct : Int := s.rf 0x30004 16 8
    -- (Σa/na + Σh/nh) / 2 + 8 · (kb / 1000) · (q / 4 · 0.25 · pct / 100), all over 200,000 · na · nh
    some (estRound (100000 * (sumInt a * nh + sumInt h * na) + kb * q * pct * na * nh) (200000 * na * nh))

/-- Sensors a stack's estimate is computed from and compared with. -/
def estSensors (site : Nat) : List Nat :=
  (List.range 16).map (fun i => 16 * site + i) ++ (List.range 16).map (fun i => 128 + 16 * site + i) ++ underStack site
/-- Compute a stack's estimate once conversion `n` of all its sensors is in, and mark when it rose 8 °C above the
billet's readings. -/
def estimateUpdate (site n : Nat) (s : State) : State :=
  match estimate s site with
  | none => s
  | some t =>
    if (estSensors site).any (fun i => (s.sensor i).works && decide ((s.sensor i).conv < n)) then s else
    let s := s.setReg (0x30200 + 4 * site) ((BitVec.ofInt 12 t).setWidth 32)
    let high := match maxInt (readings s (fun x => x.temp.toInt) ((List.range 16).map (fun i => 128 + 16 * site + i))) with
      | some b => decide (b + 64 < t)
      | none => false
    let s := if high then
        (if Tab.get 0 s.estHigh site = 0 then { s with estHigh := Tab.put 0 s.estHigh site (s.now + 1) } else s)
      else { s with estHigh := Tab.put 0 s.estHigh site 0 }
    if s.rf 0x30000 site 1 = 1 then (List.range 4).foldl (fun x q => tripRule (4 * site + q) n t (unitUpdate x (4 * site + q))) s
    else s

/-- Stacks whose estimate a sensor enters. -/
def stacksOf (n : Nat) : List Nat :=
  if n < 256 then [n % 128 / 16] else if n < 304 then [2 * ((n - 256) / 12), 2 * ((n - 256) / 12) + 1] else []

/-! ### The commands -/

/-- Whether a sensor converts: in quench until its block is powered down 1 ms after the trigger, in STANDBY only the tongs'
(R359, R373, R389). -/
def converts (s : State) (n : Nat) : Bool :=
  decide (320 ≤ n ∧ n < 324) || (decide (s.devState ≠ 2) && (!s.quench || decide (s.now ≤ s.quenchAt + 250000)))

/-- A conversion of one sensor. -/
def convert (n : Nat) (reading : BitVec 12) (stopped : Bool) (s : State) : State :=
  let x := s.sensor n
  let bad := stopped || decide (reading.toInt < -320 ∨ 1200 < reading.toInt)
  let y : Sensor := { x with temp := if stopped then x.temp else reading, conv := x.conv + 1, fail := x.fail || bad }
  let s := { s with sensors := Tab.put Sensor.reset s.sensors n y }
  let s := if bad && !x.fail then
      let s := raiseEvent 0 2 0x144 (BitVec.ofNat 32 n) (s.incRf 0x30000 9 8 1)
      (unitsOf n).foldl unitFails s
    else s
  if (s.sensor n).fail then syncSteps s
  else
    let e := (s.sensor n).eff
    let s := (unitsOf n).foldl (fun t u => tripRule u (x.conv + 1) e (unitUpdate t u)) s
    let s := (stacksOf n).foldl (fun t i => estimateUpdate i (x.conv + 1) t) s
    let s := if 320 ≤ n ∧ n < 324 then
        tripRule (n - 320 + 36) (x.conv + 1) e (if s.quench then s else tongsRule (n - 320) e s)
      else s
    syncSteps s
/-- SENSOR_CONVERSION (R371). -/
def execSensorConversion (n : SensorId) (reading : BitVec 12) (stopped : Bool) (s : State) : Host.Outcome State Fault Refusal :=
  .next (if converts s n.val then convert n.val reading stopped s else s)

/-- Every 100 µs at or above 105 °C a cap falls one step further. (DESIGN CHOICE, log 48) -/
def capFalls (u : Nat) (s : State) : State :=
  let w := Tab.get (0, 0) s.capAt u
  if s.rf (capReg u) 31 1 = 0 ∨ allFailed s u = true ∨ w.1 ≠ 2 ∨ s.now < w.2 + 25000 ∨ s.capOf u = 0 then s
  else syncSteps (setCap u (s.capOf u - 1) { s with capAt := Tab.put (0, 0) s.capAt u (2, s.now) })
/-- THERMAL_CAP_STEP (R371). -/
def execThermalCapStep (u : UnitId) (s : State) : Host.Outcome State Fault Refusal := alive (capFalls u.val) s

/-- Every 1 ms below 100 °C a cap rises one step, until none remains. -/
def capRises (u : Nat) (s : State) : State :=
  let w := Tab.get (0, 0) s.capAt u
  if s.rf (capReg u) 31 1 = 0 ∨ allFailed s u = true ∨ w.1 ≠ 0 ∨ s.now < w.2 + 250000 then s
  else syncSteps (setCap u (s.capOf u + 1) { s with capAt := Tab.put (0, 0) s.capAt u (0, s.now) })
/-- CAP_LIFT (R371). -/
def execCapLift (u : UnitId) (s : State) : Host.Outcome State Fault Refusal := alive (capRises u.val) s

/-- An estimate 8 °C above the readings for 10 ms: the sensors are implausible, and the estimate counts (R374). -/
def implausibleNow (site : Nat) (s : State) : State :=
  let t := Tab.get 0 s.estHigh site
  if t = 0 ∨ s.now < t - 1 + 2500000 ∨ s.rf 0x30000 site 1 = 1 then s
  else
    let s := raiseEvent 2 2 0x143 (BitVec.ofNat 32 site) (s.setRf 0x30000 site 1 1)
    syncSteps ((List.range 4).foldl (fun t q => unitUpdate t (4 * site + q)) s)
/-- BILLET_IMPLAUSIBLE (R374). -/
def execBilletImplausible (site : SiteId) (s : State) : Host.Outcome State Fault Refusal := alive (implausibleNow site.val) s

/-- The index of the hottest working sensor and its reading (R378); of equals the lowest index. (DESIGN CHOICE, log 33) -/
def hottest (s : State) : Option (Nat × BitVec 12) :=
  s.sensors.foldl (fun b e =>
    if e.2.works then
      (match b with
       | some (_, t) => if t.toInt < e.2.temp.toInt then some (e.1, e.2.temp) else b
       | none => some (e.1, e.2.temp))
    else b) none

end Sys2Proof.Machine
end

