-- ==== Sys2Proof/Machine/Faults.lean ====
section
/-! DEFINITION. Faults, resets and health (R379–R392): events, the collector, per-function and billet-internal resets,
F0 restarts, the heartbeat, quench release and cold reset. -/

namespace Sys2Proof.Machine

/-! ### Events and the collector (R380, R381, R388) -/

/-- FAULT_EVENT (R380): the collector works in quench too (R389); reserved block codes are never sent (R379). -/
def execFaultEvent (code : BitVec 16) (detail : Word) (s : State) : Host.Outcome State Fault Refusal :=
  let c := code.toNat
  .next (if 30 ≤ c / 2 ^ 9 % 32 then s else raiseWith (c / 2 ^ 14) (c / 2 ^ 9 % 32) (c % 2 ^ 9) detail s)

/-- The copies of the collector disagree: quench with code 0xC810, which the collector takes no part in (R381). -/
def collectorMismatch (s : State) : State :=
  drive (fun p => { p with smbAlertN := false }) (enterQuench 0xC810 (s.setRf 0x10000 30 1 0))
/-- COLLECTOR_MISMATCH (R381). -/
def execCollectorMismatch (s : State) : Host.Outcome State Fault Refusal := .next (collectorMismatch s)

/-- FLT_CLEAR.ClearC2: every C1 and C2 entry is cleared, and FAULT_N rises (R380, R388). -/
def clearC2 (s : State) : State :=
  let clear (e : LogEnt) : LogEnt :=
    if 2 ^ 14 ≤ e.code.toNat ∧ e.code.toNat < 3 * 2 ^ 14 then { e with cleared := true } else e
  drive (fun p => { p with faultN := true }) { s with log := s.log.map (fun e => (e.1, e.2.map clear)) }
/-- CLEAR_C2 (R388). -/
def execClearC2 (s : State) : Host.Outcome State Fault Refusal := alive clearC2 s

/-! ### What a reset drains (R383, R384, R386) -/

/-- The endpoint of a function at which an item stands. -/
def placeOf (f : Nat) (l : Loc) : Option Nat :=
  let at' (e : Nat) : Option Nat := if (epsOfFunc f).contains e then some e else none
  match l with
  | .home e => at' e
  | .ready e => at' e
  | .port e => at' e
  | .l0 e => at' e
  | .flight _ e => at' e
  | .pcq k _ => at' (5 * k + 2)
  | .store c => at' (siteEp (c / 256))
  | .mesh c _ => at' (siteEp (c / 256))
  | .parked c => at' (siteEp (c / 256))
  | .hub t _ => at' (siteEp t)
  | .hubParked t _ => at' (siteEp t)
  | .wire k => at' (linkEp (keyKind k) (keyIndex k))
  | .gwIn g => at' (gwEp g)
  | .gwOut g => at' (gwEp g)
  | _ => none

/-- One item that a function's reset finds: a request for it completes FENCED, with those merged into it; its own packets,
its own accesses and the responses to it go. A response it has sent goes on to a source in service from its port (R202),
and a request from another device held in a gateway that is reset goes with it. -/
def drainItem (f : Nat) (s : State) (it : Item) : State :=
  let own (i : Item) : Bool := s.ownSrc i.pkt && (epsOfFunc f).contains i.pkt.srcEp.toNat
  match placeOf f it.loc, it.loc with
  | some _, .gwIn _ => s.dropItem it.id
  | some e, l =>
    if ownAccess it || it.frame.isSome then s.dropItem it.id
    else if isResp it.pkt then
      (match l with
       | .flight _ _ => s.dropItem it.id
       | _ => if own it || !s.ownSrc it.pkt && decide (f = 13) then s.dropItem it.id
              else s.moveItem { it with lines := 0, held := false } (.port e))
    else if it.lead.isSome then s
    else (it :: s.merged it.id).foldl (fun t m => if own m then t.dropItem m.id else respond e m (rankStatus t m.pkt 2) t) s
  | none, _ => if it.loc = .resp ∧ own it = true then s.dropItem it.id else s
def drainFunc (f : Nat) (s : State) : State := withdraw (s.pool.foldl (drainItem f) s)

/-! ### Per-function reset (R384–R386) -/

def setFunc (f st : Nat) (s : State) : State := s.setRf 0x10808 (2 * f) 2 st
def rstBusy (s : State) : Bool := decide (s.rf 0x10804 31 1 = 1)

/-- A reset asked for through RST_CTRL has completed. -/
def rstDone (f : Nat) (s : State) : State :=
  { ((s.setRf 0x10804 31 1 0).incRf 0x10804 0 16 1).setRf 0x10804 16 4 f with rstFor := none }

/-- Word `w` of entry `i` of the command ring (R409). -/
def ringWord (i w : Nat) : Nat := 0x61000 + 64 * i + 4 * w
/-- A command completes: its Status, its reason where it is refused, the head, and the command event, which echoes the
host's Seq (R409, R427). (DEDUCED, log 44) -/
def ringFinish (i status reason : Nat) (s : State) : State :=
  let s := s.setRf (ringWord i 0) 24 8 status
  let s := if status = 2 then s.setRf (ringWord i 15) 0 8 reason else s
  let s := s.setRf 0x60020 0 6 (s.rf 0x60020 0 6 + 1)
  queueEvent ⟨2, 0, BitVec.ofNat 16 i, BitVec.ofNat 16 (s.rf (ringWord i 0) 8 16),
    Config.eventDetail 0 (BitVec.ofNat 32 i), s.tick⟩ s

/-- The entry of a fuse sequence that fails is spent (R420). (DESIGN CHOICE, log 45) -/
def fuseSpent (q : FuseSeq) (s : State) : State :=
  { s with fuseSeq := none, fuses := if q.kind = 1 then { s.fuses with spent := s.fuses.spent + 1 } else s.fuses }

/-- The firmware of F0 restarts: ALIVE stays low, an open record is abandoned, and a fuse or report command cut off
completes Aborted (R385, R388, R409, R426). (DESIGN CHOICE, log 44) -/
def f0Begin (byHost : Bool) (s : State) : State :=
  let s := { s with f0Down := some (s.now, byHost), pins := { s.pins with alive := false, aliveRun := false } }
  let s := abandonRec s
  let s :=
    if s.rf 0x300000 21 1 = 1 then
      raiseEvent 0 5 0x164 (BitVec.ofNat 32 (s.rf 0x60020 0 5)) (ringFinish (s.rf 0x60020 0 5) 3 0 { s.setRf 0x300000 21 1 0 with report := [] })
    else s
  match s.fuseSeq with
  | some q => raiseEvent 0 5 0x164 (BitVec.ofNat 32 q.index) (ringFinish q.index 3 0 (fuseSpent q s))
  | none => s

/-- Steps 1–3 of a reset: Busy, Resetting, fenced, the sources stopped, the grants at their floors. -/
def resetBegin (f : Nat) (s : State) : State :=
  let s := setFunc f 1 (s.setRf 0x10804 31 1 1)
  if f = 0 then f0Begin true s
  else
    let s := fenceEps f true s
    let s := if f ≤ 8 then clearSite (f - 1) (s.modSiteCores (f - 1) (stopCore .host)) else s
    syncSteps ((reqsOfFunc f).foldl (fun t q => cutGrant q t) s)

/-- A billet-internal reset begins: what the billet has accepted and not served completes RETRY, with the requests merged
into it (R387), or with the status that comes before it in R183. -/
def billetBegin (site : Nat) (s : State) : State :=
  let s := s.setRf (siteBase site + 0x9004) 1 1 1
  (s.pool.filter (fun i => islandHolds s i && !isResp i.pkt && i.lead.isNone)).foldl (fun t i => respondAll (siteEp site) i (if itemStatus t i = 0 then 1 else itemStatus t i) t) s

/-- A write of RST_CTRL (R384, R387): one that is refused changes nothing else. -/
def rstWrite (v : Word) (s : State) : State :=
  let f := fld v 0 4
  let billet := decide (fld v 30 1 = 1)
  let start (s : State) : State := { (s.setRf 0x10800 0 4 f).setRf 0x10804 31 1 1 with rstFor := some (f, billet) }
  if fld v 31 1 = 0 then s.setRf 0x10800 0 4 f
  else if rstBusy s || decide (s.devState ≠ 0) || decide (f = 15) || (billet && !decide (1 ≤ f ∧ f ≤ 8)) then s.setRf 0x10804 30 1 1
  else if billet then billetBegin (f - 1) (start s)
  else resetBegin f (start s)

/-- The state of an endpoint's home that a reset of its function empties (R270, R392). -/
def clearHome (e : Nat) (s : State) : State :=
  { s with
    spec := s.spec.filter (fun l => decide (l.ep.val ≠ e))
    epochs := Tab.restrict (fun k => decide (k / 64 ≠ e)) s.epochs
    own := Tab.put [] s.own e [] }

/-- The electrical bundles of a function begin anew, and the swaps on its links are abandoned (R313, R384). -/
def resetWires (f : Nat) (s : State) : State :=
  abandonSwaps f { s with wires := Tab.restrict (fun k => decide (linkFunc (keyKind k) (keyIndex k) ≠ f)) s.wires }

/-- Step 5: the function's logic is reset. (DEDUCED, log 33) -/
def resetLogic (f : Nat) (s : State) : State :=
  let s := resetWires f s
  if 1 ≤ f ∧ f ≤ 8 then
    let t := f - 1
    let s := if s.rf (siteBase t + 0x9000) 16 1 = 1 then remapBillet t false s else s
    clearHome (siteEp t) { s.resetRegs (siteBase t) (siteBase t + 0x10000) (fun _ => false) with
      cores := Tab.restrict (fun c => decide (c / 256 ≠ t)) s.cores
      scrubAt := Tab.restrict (fun n => !decide (n < 1000 ∧ n / 16 = t)) s.scrubAt
      scrubT := Tab.restrict (fun n => !decide ((n < 1000 ∧ n / 16 = t) ∨ (1000 ≤ n ∧ (n - 1000) / 16 = t))) s.scrubT }
  else if 9 ≤ f ∧ f ≤ 12 then
    let k := f - 9
    let b := crucBase k
    let s := s.resetRegs b (b + 0x4000) (fun a => decide (b + 0x40 ≤ a ∧ a < b + 0x50))
    let s := stopRefresh k (showFailed k s)
    let mine (n : Nat) : Bool := decide (n = 2000 + k ∨ (4096 ≤ n ∧ (n - 4096) / 128 = k))
    clearHome (5 * k + 2) { s.setRf 0x40010 (2 * k) 2 (min (s.floorStep (32 + k)) (s.capOf (32 + k))) with
      scrubAt := Tab.restrict (fun n => !mine n) s.scrubAt, scrubT := Tab.restrict (fun n => !mine n) s.scrubT }
  else if f = 13 then
    showMirror { s.resetRegs 0x90000 0xA0000 (fun _ => false) with streams := [], portT := [] }
  else { s with guestReq := [] }

/-- Steps 4–7 of a reset: drained, reset, its links compared, its cores tested, its stacks reloaded or initialised; a
link or stack that fails leaves the function Offline. -/
def resetFinish (f : Nat) (x : ResetEnv) (s : State) : State :=
  let k := f - 9
  let good := Tab.get false s.hbmGood k && decide (s.rf (crucBase k + 4) 12 1 = 1)
  let s := setFunc f 1 (resetLogic f (drainFunc f s))
  let s := (x.bistFail.filter (fun c => decide (1 ≤ f ∧ f ≤ 8 ∧ c.val / 256 = f - 1))).foldl (fun t c => fenceCore c.val t) s
  let s := compareFunc f x.lanes s
  let s := if 9 ≤ f ∧ f ≤ 12 then (if good then startRefresh k (s.setRf (crucBase k + 4) 12 1 1) else initHbm k x.initFail s) else s
  if s.funcState f = 2 then
    raiseEvent 2 0 0x004 (BitVec.ofNat 32 f)
      { ((s.setRf 0x10804 31 1 0).setRf 0x10804 29 1 1).setRf 0x10804 16 4 f with rstFor := none }
  else raiseEvent 0 0 0x003 (BitVec.ofNat 32 f) (rstDone f (setFunc f 0 (fenceEps f false s)))

/-- PER_FUNCTION_RESET (R384): begun by this write of RST_CTRL, or by an earlier one, and carried through. -/
def perReset (f : Nat) (x : ResetEnv) (s : State) : State :=
  let s := if s.rstFor = some (f, false) then s else rstWrite (BitVec.ofNat 32 (2 ^ 31 + f)) s
  if f ≠ 0 ∧ s.rstFor = some (f, false) then resetFinish f x s else s
def execPerFunctionReset (f : FuncId) (env : ResetEnv) (s : State) : Host.Outcome State Fault Refusal :=
  alive (perReset f.val env) s

/-! ### F0 restart and heartbeat (R385, R388, R417) -/

/-- The restarted firmware is verified again, its signature as the row says: it runs, or the device quenches (R417). -/
def f0Verify (verifies : Bool) (s : State) : State :=
  match s.f0Down with
  | some (t, true) =>
    if verifies && headerOk s s.slotBoot then
      raiseEvent 0 0 0x003 0 (rstDone 0 (setFunc 0 0 { s with f0Down := some (t, false) }))
    else raiseEvent 3 7 0x1A2 0 s
  | _ => s
/-- F0_RESTART (R385). -/
def execF0Restart (verifies : Bool) (s : State) : Host.Outcome State Fault Refusal :=
  alive (fun s =>
    let down := match s.f0Down with | some (_, true) => true | _ => false
    f0Verify verifies (if down then s else rstWrite 0x80000000 s)) s

/-- Whether the tongs firmware runs: the start is complete and no restart is loading it. -/
def firmwareRuns (s : State) : Bool :=
  decide (s.rf 0x300000 29 2 = 1) && (match s.f0Down with | some (_, true) => false | _ => true) && !s.quench

/-- FLT_HEARTBEAT (R388): written by the firmware. (DESIGN CHOICE, log 36) -/
def heartbeat (s : State) : State :=
  if firmwareRuns s then { s with beatAt := s.now, f0Down := none, pins := { s.pins with aliveRun := true } } else s
def execFltHeartbeat (_beat : Word) (s : State) : Host.Outcome State Fault Refusal := alive heartbeat s

/-- Whether a heartbeat has been missed: 10 ms after the last, or 110 ms after a restart began. (DESIGN CHOICE, log 36) -/
def beatMissed (s : State) : Bool :=
  decide (s.rf 0x300000 29 2 = 1) && (match s.f0Down with
    | some (t, _) => decide (t + 27500000 ≤ s.now)
    | none => decide (s.beatAt + 2500000 ≤ s.now))
/-- A missed heartbeat stops ALIVE and restarts F0, or quenches at the third within 1 s. -/
def beatMiss (verifies : Bool) (s : State) : State :=
  if !beatMissed s then s
  else
    let l := s.misses.filter (fun t => decide (s.now < t + 250000000)) ++ [s.now]
    let s := raiseEvent 2 0 0x001 0 { s with misses := l, pins := { s.pins with alive := false, aliveRun := false } }
    if 3 ≤ l.length then raiseEvent 3 0 0x002 0 s
    else
      let s := f0Begin false s
      if verifies && headerOk s s.slotBoot then s else raiseEvent 3 7 0x1A2 0 s
/-- HEARTBEAT_MISS (R388). -/
def execHeartbeatMiss (verifies : Bool) (s : State) : Host.Outcome State Fault Refusal := alive (beatMiss verifies) s

/-- ALIVE toggles each half period of 1 kHz, at least 499.5 µs apart, while the heartbeat is current (R388). (DESIGN CHOICE, log 36) -/
def aliveToggle (s : State) : State :=
  if s.pins.aliveRun && decide (s.now < s.beatAt + 2500000 + 125000) && decide (s.aliveAt + 124875 ≤ s.now) && decide (s.rf 0x10000 30 1 = 1) then
    { s with aliveAt := s.now, pins := { s.pins with alive := !s.pins.alive } }
  else s
/-- ALIVE_TOGGLE (R388). -/
def execAliveToggle (s : State) : Host.Outcome State Fault Refusal := alive aliveToggle s

/-! ### Billet-internal reset (R387) -/

/-- Steps 4–5: the control logic restarts, and the billet serves again. (DEDUCED, log 33) -/
def billetFinish (site : Nat) (s : State) : State :=
  if islandOnly s site then
    let s := s.setRf (siteBase site + 0x9004) 1 1 0
    let s := if s.rstFor = some (site + 1, true) then rstDone (site + 1) s else s
    raiseEvent 0 (8 + site) 0x025 0 s
  else s
/-- BILLET_INTERNAL_RESET (R387): begun by this write of RST_CTRL, by an earlier one or by the tongs. -/
def execBilletInternalReset (site : SiteId) (s : State) : Host.Outcome State Fault Refusal :=
  alive (fun s => billetFinish site.val
    (if islandOnly s site.val then s else rstWrite (BitVec.ofNat 32 (2 ^ 31 + 2 ^ 30 + site.val + 1)) s)) s
/-- BILLET_CONTROL_FAULT (R387): the tongs begin the reset. -/
def execBilletControlFault (site : SiteId) (s : State) : Host.Outcome State Fault Refusal :=
  alive (fun s => if islandOnly s site.val || decide (s.devState ≠ 0) then s else billetBegin site.val s) s

/-! ### Cold reset and quench release (R390–R392, R451) -/

/-- The outputs under EXTEST and CLAMP, which the boundary-scan cells drive. (DESIGN CHOICE, log 46) -/
def scanPins (cells : Word) (p : Pins) : Pins :=
  { p with alive := Config.scanDrive cells 0, faultN := Config.scanDrive cells 1, quenchN := Config.scanDrive cells 2
           tripN := Config.scanDrive cells 3, ownOut := Config.scanDrive cells 4, smbAlertN := Config.scanDrive cells 5 }
/-- The outputs as the device drives them while COLD_RST_N is low. -/
def resetPins (p : Pins) : Pins :=
  { p with alive := false, faultN := true, quenchN := true, tripN := true, ownOut := false, smbAlertN := true }
/-- What the TAP's instruction does to the outputs (R413): while COLD_RST_N is low and the device is not in quench, EXTEST and
CLAMP let the cells drive them, HIGHZ releases them (the open-drain ones rise; ALIVE and OWN_OUT are not driven), and any
other gives them back. -/
def tapDrive (s : State) : State :=
  let ir := s.tapIr
  if s.pins.coldRstN || s.quench then s
  else if ir = 3#8 ∨ ir = 4#8 then { s with pins := scanPins s.tapCells s.pins }
  else if ir = 5#8 then
    let w := takeFree s
    { w.2 with pins := { resetPins s.pins with alive := bit w.1 0, ownOut := bit w.1 1 } }
  else { s with pins := resetPins s.pins }

/-- The device after a cold reset: what only fuses, flash and the world outside hold is left. (DEDUCED, log 34) -/
def coldState (s : State) : State :=
  let s := abandonRec s
  tapDrive
  { State.reset with
    pending := s.pending, now := s.now, startAt := s.now, free := s.free, reads := s.reads
    sent := s.sent, mirrorOut := s.mirrorOut, hostTx := s.hostTx, spsDown := s.spsDown, guestOut := s.guestOut
    flash := s.flash, flashSeq := s.flashSeq, fuses := s.fuses, optics := { State.reset.optics with runs := s.optics.runs }
    testFrom := if s.now = 0 then [] else (List.range 16).map (fun f => (f, s.now))
    tapIr := s.tapIr, tapDr := s.tapDr, tapCells := s.tapCells
    ocSince := if s.pins.ocAlertN then none else s.ocSince
    pins := { Pins.reset with vio := s.pins.vio, ownIn := s.pins.ownIn, ocAlertN := s.pins.ocAlertN, coldRstN := false } }
/-- COLD_RESET (R391): PWR_OK or COLD_RST_N is low, for long enough to reset the device (R456). Ignored in quench (R390).
With VIO18 off the pins are not read (R299). (DESIGN CHOICE, log 48) -/
def execColdReset (s : State) : Host.Outcome State Fault Refusal := alive (fun s => if s.pins.vio then coldState s else s) s
/-- VAON_BROWNOUT (R451): as PWR_OK low; the quench latch holds. -/
def execVaonBrownout (s : State) : Host.Outcome State Fault Refusal := alive coldState s
/-- QUENCH_RELEASE (R390): power is gone, and the latch and the TAP with it; no pin works until the rails are up again for a
start (R299, R453). -/
def execQuenchRelease (s : State) : Host.Outcome State Fault Refusal :=
  let t := coldState { s with tapIr := 1, tapDr := 0, tapCells := 0 }
  .next { t with pins := { t.pins with vio := false } }

end Sys2Proof.Machine
end

