-- ==== Sys2Proof/Machine/Pairs.lean ====
section
/-! DEFINITION. Redundant pairs (R435–R449): claims, the gates, switch-over and takeover, mirror epochs and resync. -/

namespace Sys2Proof.Machine

/-! ### Configuration (R440) -/

/-- Whether a mirror window is set Valid and can match nothing. -/
def badWin (s : State) (n : Nat) : Bool := decide (s.rf (0x500108 + 16 * n) 31 1 = 1) && (pairWin s n).isNone
/-- Whether the configuration is in error: a bad window, a marker line outside every window, or Arm without ServeValid. -/
def pairBad (s : State) : Bool :=
  let m := (s.reg64 0x500010).toNat
  (List.range 16).any (badWin s) || !inPairWin s (m / 2 ^ 53 % 32) (m % 2 ^ 53 / 64 * 64) ||
    decide (s.rf 0x500000 0 1 = 1 ∧ s.rf 0x500008 6 1 = 0)
/-- Judge the configuration after a write to a pair register of a paired device. (DESIGN CHOICE, log 35) -/
def pairJudge (s : State) : State :=
  if !s.pins.pairEn then s
  else if pairBad s then
    (if s.rf 0x500004 25 1 = 1 then s else raiseEvent 2 28 0x1E5 0 (s.setRf 0x500004 25 1 1))
  else s.setRf 0x500004 25 1 0

/-! ### Claims and gates (R436–R438) -/

/-- Raise OWN_OUT. -/
def raiseOwn (switch : Bool) (s : State) : State :=
  { s with claimed := switch, pins := { s.pins with ownOut := true } }
/-- Lower OWN_OUT and close the gates. -/
def lowerOwn (s : State) : State :=
  { s.setRf 0x500004 31 1 0 with claimed := false, pins := { s.pins with ownOut := false } }

def roleClash (s : State) : Bool := decide (s.rf 0x500004 27 1 = 1)

/-- PAIR_CTRL.Claim: while OWN_IN is low, and no role conflict refuses it. -/
def claimNow (s : State) : State :=
  if s.pins.pairEn && !s.pins.ownIn && !roleClash s && !s.pins.ownOut then raiseOwn false s else s
/-- CLAIM (R437). -/
def execClaim (s : State) : Host.Outcome State Fault Refusal := alive claimNow s

/-- PAIR_CTRL.Release: OWN_OUT falls, and the member that leaves service clears its fabric number's Valid (R447). -/
def releaseNow (s : State) : State :=
  if s.pins.ownOut then (lowerOwn s).setRf 0x14 8 1 0 else s
/-- RELEASE (R437). -/
def execRelease (s : State) : Host.Outcome State Fault Refusal := alive releaseNow s

/-- OWN_IN rises: the gates close; where the own claim still waits, the member strapped ROLE low withdraws it. -/
def ownInRise (s : State) : State :=
  let waits := s.pins.pairEn && s.pins.ownOut && decide (s.rf 0x500004 31 1 = 0)
  let s := { s with pins := { s.pins with ownIn := true } }
  if !s.pins.pairEn then s
  else
    let s := s.setRf 0x500004 31 1 0
    if waits && !s.pins.role then raiseEvent 0 28 0x1E2 0 (lowerOwn s) else s
/-- OWN_IN_RISE (R436, R438): a rise that is no pulse shorter than tOWD, which is ignored (R456). (DESIGN CHOICE, log 35) -/
def execOwnInRise (s : State) : Host.Outcome State Fault Refusal :=
  alive ownInRise s

/-- The fabric number has become valid: the enabled ports begin to train (R250, R406). -/
def startPorts (s : State) : State :=
  (List.range 48).foldl (fun t n =>
    let g := n / 12
    let p := n % 12
    if portEnabled t g p then
      (halvesOf t g p).foldl (fun t h => if portState t g p h = 1 then beginTraining g p h t else t) t
    else t) s

/-- UP ports among P0–P43, by gateway and local port. -/
def upPorts (s : State) : List (Nat × Nat) :=
  (List.range 44).filterMap (fun n =>
    if (halvesOf s (n / 12) (n % 12)).any (fun h => decide (portState s (n / 12) (n % 12) h = 3)) then some (n / 12, n % 12) else none)

/-- The gates open 10 µs after OWN_IN fell with OWN_OUT high; after a switch-over the device takes the served fabric
number, sends TAKEOVER on its UP ports, and serves (R445). (DESIGN CHOICE, log 35) -/
def gatesOpenNow (s : State) : State :=
  if s.pins.pairEn && s.pins.ownOut && !s.pins.ownIn && decide (s.ownLow + 2500 ≤ s.now ∧ s.rf 0x500004 31 1 = 0) then
    let s := s.setRf 0x500004 31 1 1
    if s.claimed then
      let f := s.rf 0x500008 0 6
      let s := startPorts { (s.setRf 0x14 0 6 f).setRf 0x14 8 1 1 with claimed := false }
      let s := sendTakeovers { s with takeWait := s.takeWait ++ (upPorts s).map (fun p => (p.1, p.2, f)) }
      raiseEvent 2 28 0x1E0 (BitVec.ofNat 32 f) s
    else s
  else s
/-- GATES_OPEN (R436). -/
def execGatesOpen (s : State) : Host.Outcome State Fault Refusal := alive gatesOpenNow s

/-- OWN_IN falls: an armed, in-sync standby with a number to serve claims, and discards the open epoch (R437, R445). (DESIGN CHOICE, log 35) -/
def switchOver (s : State) : State :=
  if !s.pins.ownIn then s
  else
    let s := { s with ownLow := s.now, pins := { s.pins with ownIn := false } }
    if s.pins.pairEn && !s.pins.ownOut && !roleClash s &&
        decide (s.rf 0x500000 0 1 = 1 ∧ s.rf 0x500004 28 1 = 1 ∧ s.rf 0x500008 6 1 = 1 ∧ s.rf 0x500004 25 1 = 0) then
      raiseOwn true { s with mirrorRx := [], rxBytes := 0, rxSkip := false }
    else s
/-- SWITCH_OVER (R445). -/
def execSwitchOver (s : State) : Host.Outcome State Fault Refusal := alive switchOver s

/-! ### Mirror epochs (R439–R444) -/

def linkUp (s : State) : Bool := decide (s.rf 0x500004 26 1 = 1)
/-- Records of the open epoch, or of the one that waits to be closed. -/
def epochLen (s : State) : Nat := if s.resync then s.mirrorTx.length else s.closing.headD s.mirrorTx.length
/-- The homes' first `n` records go out. -/
def sendFirst (n : Nat) (s : State) : State :=
  { s with mirrorTx := s.mirrorTx.drop n, mirrorOut := s.mirrorOut ++ (s.mirrorTx.take n).map MirrorMsg.record
           closing := s.closing.map (· - n) }
/-- Whether gateway 3 may send on the mirror link: the gate is open, the link UP, and its ports, of role 7, in no quiet gap
(R332, R439). -/
def mirrorSends (s : State) : Bool := mirrorOn s && linkUp s && !inGap s 3 7 0
/-- Gateway 3 sends the homes' records, up to a close, while it may. (DESIGN CHOICE, log 35) -/
def sendRecords (s : State) : State := if mirrorSends s then sendFirst (epochLen s) s else s

/-- The close of the epoch: every home's records of it, then the marker (R441); none closes while the configuration is in
error (R440). A resync's marker closes what was written in the meantime too (R444). (DESIGN CHOICE, log 35) -/
def epochClose (s : State) : State :=
  if (s.resync || !s.closing.isEmpty) && mirrorSends s && decide (s.rf 0x500004 25 1 = 0) then
    let s := sendFirst (epochLen s) s
    let n := s.rf 0x500004 0 23
    { s.setRf 0x500004 0 23 (n + 1) with
      mirrorOut := s.mirrorOut ++ [.marker (BitVec.ofNat 23 n) s.resync], closing := if s.resync then [] else s.closing.drop 1
      resync := false }
  else s
/-- MIRROR_EPOCH_CLOSE (R441). -/
def execMirrorEpochClose (s : State) : Host.Outcome State Fault Refusal := alive epochClose s

/-- The contents of a mirror window, as one record. (DESIGN CHOICE, log 35) -/
def winRecord (s : State) (n : Nat) : List MirrorRec :=
  match pairWin s n with
  | some (e, lo, len) =>
    [⟨Fin.ofNat 20 e, BitVec.ofNat 53 lo, (List.range len).map (fun i => Memory.byte s.mem (memBase e + lo + i))⟩]
  | none => []
/-- PAIR_CTRL.Resync on the active: every window is copied as one epoch, followed by its marker (R444). -/
def resyncNow (s : State) : State :=
  if s.pins.pairEn && gatesOpen s && decide (s.rf 0x500004 25 1 = 0) then
    { s with mirrorTx := s.mirrorTx ++ (List.range 16).flatMap (winRecord s), resync := true }
  else s
/-- RESYNC (R444). -/
def execResync (s : State) : Host.Outcome State Fault Refusal := alive resyncNow s

/-- The standby is out of sync, with event 0x1E1. -/
def loseSync (s : State) : State := raiseEvent 2 28 0x1E1 0 (s.setRf 0x500004 28 1 0)
def isStandby (s : State) : Bool := s.pins.pairEn && !gatesOpen s

/-- A record applied to the standby's own memory. -/
def applyRecord (r : MirrorRec) (s : State) : State :=
  if hasHome r.ep.val then memWrite (memBase r.ep.val + r.off.toNat) r.bytes.length (r.bytes.foldr (fun b n => b.toNat + 256 * n) 0) s
  else s
/-- The standby buffers a record of the open epoch, up to 4 MiB; a resync's record it applies as it arrives (R443,
R444). -/
def recordIn (r : MirrorRec) (resync : Bool) (s : State) : State :=
  if !isStandby s then s
  else if resync then applyRecord r s
  else if s.rxSkip then s
  else if 2 ^ 22 < s.rxBytes + r.bytes.length then loseSync { s with mirrorRx := [], rxBytes := 0, rxSkip := true }
  else { s with mirrorRx := s.mirrorRx ++ [r], rxBytes := s.rxBytes + r.bytes.length }
/-- MIRROR_RECORD (R443). -/
def execMirrorRecord (r : MirrorRec) (resync : Bool) (s : State) : Host.Outcome State Fault Refusal := alive (recordIn r resync) s

/-- The commit marker arrives: the epoch's records are applied and Epoch advances; a resync epoch sets InSync (R443,
R444). A discarded epoch applies nothing. -/
def commitIn (epoch : BitVec 23) (resync : Bool) (s : State) : State :=
  if !isStandby s then s
  else if s.rxSkip && !resync then { s with rxSkip := false }
  else
    let s := (s.mirrorRx.foldl (fun t r => applyRecord r t) { s with mirrorRx := [], rxBytes := 0, rxSkip := false }).setRf
      0x500004 0 23 (epoch.toNat + 1)
    if resync then raiseEvent 0 28 0x1E4 0 (s.setRf 0x500004 28 1 1) else s
/-- MIRROR_COMMIT (R443). -/
def execMirrorCommit (epoch : BitVec 23) (resync : Bool) (s : State) : Host.Outcome State Fault Refusal := alive (commitIn epoch resync) s

/-- A mirror link DOWN for more than 1 ms clears InSync on the standby (R439). -/
def mirrorLate (s : State) : State :=
  match s.mirDown with
  | some t => if isStandby s && decide (t + 250000 < s.now ∧ s.rf 0x500004 28 1 = 1) then loseSync s else s
  | none => s
/-- MIRROR_LINK_TIMEOUT (R439). -/
def execMirrorLinkTimeout (s : State) : Host.Outcome State Fault Refusal := alive mirrorLate s

/-! ### A peer's takeover (R446) -/

/-- The half code of a route that names a half. -/
def routeHalf : Half → Nat
  | .full => 0
  | .a => 1
  | .b => 2
/-- TAKEOVER arrives naming `f`: what the old stream holds completes TARGET_DEAD, and the stream starts afresh, Up on
that port, with the sender as its peer there. -/
def takeOver (g p : Nat) (h : Half) (f : Nat) (s : State) : State :=
  if portState s g p h ≠ 3 then s
  else
    let s := enterDead f s
    let alt := decide (s.rf (0x94000 + 4 * f) 30 1 = 1 ∧ s.rf (0x94000 + 4 * f) 18 4 = p ∧ s.rf (0x94000 + 4 * f) 16 2 = routeHalf h) &&
      !decide (s.rf (0x94000 + 4 * f) 24 4 = p ∧ s.rf (0x94000 + 4 * f) 22 2 = routeHalf h)
    let s := (s.setStream f false { Stream.reset with onAlt := alt }).setStream f true Stream.reset
    (setPeer f 1 s).setRf (statAddr g p h) 23 6 f
/-- TAKEOVER (R446). -/
def execTakeover (g : QuadId) (p : PortId) (half : Half) (f : FabId) (s : State) : Host.Outcome State Fault Refusal :=
  alive (takeOver g.val p.val half f.val) s

end Sys2Proof.Machine
end

