-- ==== Sys2Proof/Machine/Control.lean ====
section
/-! DEFINITION. Reads and writes of the control space (R5–R8, R410, R411): what each register shows, what a write of it
does, the 64-bit latch and hold of each interface, and accesses to registers without power. -/

namespace Sys2Proof.Machine

/-! ### What registers show -/

/-- A word of bits 0 to `n` − 1. -/
def bitWord (n : Nat) (f : Nat → Bool) : Word :=
  BitVec.ofNat 32 ((List.range n).foldl (fun w i => if f i then w + 2 ^ i else w) 0)
/-- Uncleared C2 entries of the log (R394). -/
def pendingC2 (s : State) : Nat :=
  (s.log.filter (fun e => match e.2 with | some x => decide (x.code.toNat / 2 ^ 14 = 2) && !x.cleared | none => false)).length

/-- Identity registers (R415). (DEDUCED, log 38) -/
def idWord (s : State) (a : Nat) : Word :=
  match a with
  | 0x0 =>
    let guest := match s.env with | some e => !e.guests.isEmpty | none => false
    0xE640#16 ++ Config.rev ++ (if guest then Config.build else 0#8)
  | 0x8 => s.fuses.serial.extractLsb' 0 32
  | 0xC => s.fuses.serial.extractLsb' 32 32
  | _ => s.reg a

/-- Collector registers (R394): FLT_LOG_W0–W3 show the entry FLT_LOG_SEL names. -/
def fltWord (s : State) (a : Nat) : Word :=
  if a = 0x10000 then
    BitVec.ofNat 32 ((if s.quench then 2 ^ 31 else 0) + s.rf a 30 1 * 2 ^ 30 + pendingC2 s * 2 ^ 16 + s.rf a 0 16)
  else if 0x10014 ≤ a ∧ a ≤ 0x10020 then
    match Tab.get none s.log (s.rf 0x10010 0 9) with
    | none => 0
    | some e =>
      match a with
      | 0x10014 => BitVec.ofNat 32 (e.seq % 2 ^ 16 * 2 ^ 16 + e.code.toNat)
      | 0x10018 => e.tick.extractLsb' 0 32
      | 0x1001C => BitVec.ofNat 32 (e.count * 2 ^ 16 + e.tick.toNat / 2 ^ 32)
      | _ => e.detail
  else s.reg a

/-- Thermal registers (R378). -/
def thermWord (s : State) (a : Nat) : Word :=
  if a = 0x3000C then
    let x := s.sensor (s.rf 0x30008 0 9)
    b1 x.fail ++ b1 x.uncal ++ 0#18 ++ x.temp
  else if a = 0x30010 then
    match hottest s with
    | some (n, t) => BitVec.ofNat 32 (n * 2 ^ 12 + t.toNat)
    | none => 0
  else s.reg a

/-- Clocking registers (R352). -/
def clockWord (s : State) (a : Nat) : Word :=
  match a with
  | 0x40000 => (match s.holdover with | some t => withFld (s.reg a) 0 20 (holdUs s t) | none => s.reg a)
  | 0x40008 => s.tick.extractLsb' 0 32
  | 0x4000C => s.tick.extractLsb' 32 16 |>.zeroExtend 32
  | _ => s.reg a

/-- The registers of a bridge direction, whose lanes are its waveguides (R315, R322): they have no record, no monitor and no
CRC of their own. (DEDUCED, log 23) -/
def bridgeReg (s : State) (k w lane a : Nat) : Word :=
  match a with
  | 0x8800C =>
    let n := s.rf (0x80020 + 4 * k) 16 9
    let need := guidesNeeded s k
    BitVec.ofNat 32 ((if n < need then 1 else 0) * 2 ^ 30 + n * 2 ^ 21 + min (n - need) 16 * 2 ^ 16)
  | 0x88010 => bitWord 32 (fun n => decide (32 * w + n < 256) && (Tab.get [] s.guideBad k).contains (32 * w + n))
  | 0x88014 => if 256 ≤ lane then 0 else (match guideOf s k lane with | some g => BitVec.ofNat 32 (2 ^ 31 + g) | none => 0)
  | _ => 0
/-- The registers that show the link and lane DL_SEL names (R322). (DEDUCED, log 37, log 38) -/
def linkWord (s : State) (a : Nat) : Word :=
  let sel := s.reg 0x88008
  let kind := fld sel 28 3
  let i := fld sel 16 12
  let w := fld sel 12 4
  let lane := fld sel 0 9
  if kind = 4 then (if 8 ≤ i then 0 else bridgeReg s i w lane a)
  else if !linkExists kind i then 0
  else if !s.linksUp then (if a = 0x8800C then 0xC0000000#32 else 0)
  else
    let x := s.link (linkKey kind i)
    match a with
    | 0x8800C =>
      BitVec.ofNat 32 (x.width * 2 ^ 30 + goodLanes kind x * 2 ^ 21 + (freeSpares kind x).length * 2 ^ 16 + x.gen.toNat)
    | 0x88010 => bitWord 32 (fun n => decide (32 * w + n < linkTotal kind) && badLane x (32 * w + n))
    | 0x88014 =>
      if lane < linkData kind then
        BitVec.ofNat 32 ((if laneActive kind x lane then 2 ^ 31 else 0) + physIn x.map lane)
      else 0
    | 0x88018 =>
      if lane < linkTotal kind then
        BitVec.ofNat 32 (Tab.get 0 x.margin lane % 1024 * 2 ^ 16 + min (Tab.get 0 x.crc lane) 65535)
      else 0
    | _ => BitVec.ofNat 32 (min x.replay (2 ^ 32 - 1))

/-- Hearth and die-link registers (R245, R322). -/
def hearthWord (s : State) (a : Nat) : Word :=
  if 0x8800C ≤ a ∧ a ≤ 0x8801C then linkWord s a
  else if 0x88020 ≤ a ∧ a < 0x88060 then
    BitVec.ofNat 32 (s.rf a 16 2 * 2 ^ 16 + min (minutesSince s ((a - 0x88020) / 4)) 65535)
  else if a = 0x88060 then
    withFld (s.reg a) 16 16 (min 65535 (s.links.filter (fun x => decide (x.2.width = 1 ∨ x.2.width = 2))).length)
  else s.reg a

/-- The registers that show the lane OPT_SEL names, and the calibration image (R337, R340). (DEDUCED, log 37) -/
def opticWord (s : State) (a : Nat) : Word :=
  let sel := s.reg 0xA0008
  let kind := fld sel 29 3
  let i := fld sel 16 13
  let lane := fld sel 0 5
  if a = 0xA0024 then (imageNext s).1
  else if 0xA000C ≤ a ∧ a ≤ 0xA0018 then
    if !olaneOk kind i lane then 0
    else
      let x := laneAt s (olaneKey kind i lane)
      match a with
      | 0xA000C =>
        BitVec.ofNat 32 ((if x.alt then 2 ^ 31 else 0) + laneState s ⟨BitVec.ofNat 3 kind, BitVec.ofNat 13 i, BitVec.ofNat 5 lane⟩ * 2 ^ 28 +
          x.relocks * 2 ^ 24 + x.heater.toNat)
      | 0xA0010 => x.eyeW ++ x.eyeH ++ x.ber ++ 0#7
      | 0xA0014 => x.power ++ x.margin
      | _ => x.bias ++ x.depth ++ x.thresh ++ BitVec.ofNat 3 x.segs ++ 0#5
  else s.reg a

/-- Code of an epoch's state in SPEC_STATE_k (R272). -/
def EpochSt.code : EpochSt → Nat
  | .free => 0
  | .open => 1
  | .commit => 2
  | .discard => 3

/-- Registers of a stack's or crucible's home (R201, R225, R272). -/
def homeWord (s : State) (e a : Nat) : Word :=
  let sp := epSpec e
  if a = epOwn e + 4 then withFld (s.reg a) 0 13 (Tab.get [] s.own e).length
  else if a = epOwn e + 0x90 ∨ a = epOwn e + 0x94 then 0
  else if a = epComb e + 0x10 then withFld (s.reg a) 0 9 (combUsed s e)
  else if a = sp + 4 then
    let busy := (List.range 64).any (fun n => decide (s.epochSt e n = .commit ∨ s.epochSt e n = .discard))
    BitVec.ofNat 32 ((if busy then 2 ^ 31 else 0) + specUsed s e)
  else if sp + 0x10 ≤ a ∧ a < sp + 0x20 then
    let k := (a - sp - 0x10) / 4
    BitVec.ofNat 32 ((List.range 16).foldl (fun w j => w + (s.epochSt e (16 * k + j)).code * 4 ^ j) 0)
  else if sp + 0x100 ≤ a ∧ a < sp + 0x200 then
    let n := (a - sp - 0x100) / 4
    BitVec.ofNat 32 (if n = 0 then 0 else specOf s e n)
  else s.reg a

/-- The core whose registers hold a site address, if it is one of theirs. -/
def coreOfAddr (a : Nat) : Option Nat :=
  let o := a % 0x10000
  if 0x4000 ≤ o ∧ o < 0x8000 then some (256 * (a / 0x10000 - 0x10) + (o - 0x4000) / 0x40) else none

/-- Registers of a site (R63, R70, R170). -/
def siteWord (s : State) (a : Nat) : Word :=
  let site := a / 0x10000 - 0x10
  let o := a % 0x10000
  match coreOfAddr a with
  | some c =>
    (match o % 0x40 with
     | 0x04 => coreStateWord (s.core c)
     | 0x28 => if dbgOpen (s.core c) then (dbgGet s c (s.reg (coreBase c + 0x24))).extractLsb' 0 32 else 0
     | 0x2C => if dbgOpen (s.core c) then (dbgGet s c (s.reg (coreBase c + 0x24))).extractLsb' 32 32 else 0
     | _ => s.reg a)
  | none =>
    if 0x400 ≤ o ∧ o < 0x420 then
      bitWord 32 (fun b => decide ((s.core (256 * site + 32 * ((o - 0x400) / 4) + b)).st = .halted))
    else homeWord s (siteEp site) a

/-- The 96 B that SHAKE256 expands from the fused identity seed (R422). -/
def identityBytes (s : State) : BitVec 768 := shakeBlock ((List.range 32).map (fun k => s.fuses.seed.extractLsb' (8 * k) 8)) |>.setWidth 768
/-- A word of the report buffer: the body of the last report, then its signature (R422). -/
def reportWord (s : State) (n : Nat) : Word :=
  if n < 192 then s.report.getD n 0
  else if n < 7640 ∧ s.report ≠ [] then Config.reportSignature (identityBytes s) s.report (n - 192) else 0

/-- Security registers and the report buffer (R422, R434). -/
def secWord (s : State) (a : Nat) : Word :=
  if a = 0x300000 then
    let rev := (if s.fuses.revoked.contains 0 then 1 else 0) + (if s.fuses.revoked.contains 1 then 2 else 0)
    withFld (withFld (s.reg a) 22 2 rev) 0 16 (fusedVersion s)
  else if 0x300400 ≤ a ∧ a < 0x300440 then 0
  else if 0x310000 ≤ a then (if s.rf 0x300000 21 1 = 1 then 0 else reportWord s ((a - 0x310000) / 4))
  else s.reg a

/-- Bytes of the open record that are written, its header among them (R426). -/
def openBytes (r : FlashOpen) : Nat := 16 + r.body.length
/-- FLASH_STATUS (R434). -/
def flashWord (s : State) (a : Nat) : Word :=
  if a = 0x400000 then
    match s.fOpen with
    | some r => BitVec.ofNat 32 (2 ^ 31 + r.kind * 2 ^ 28 + openBytes r / 256)
    | none => 0
  else s.reg a

/-- What a read of a powered register returns. -/
def regNow (s : State) (a : Nat) : Word :=
  match a / 0x10000 with
  | 0x0 => idWord s a
  | 0x1 => fltWord s a
  | 0x3 => thermWord s a
  | 0x4 => clockWord s a
  | 0x6 => if a = 0x60008 then withFld (s.reg a) 8 8 (min s.events.length 255) else s.reg a
  | 0x8 => hearthWord s a
  | 0x9 => if a < 0x94000 ∧ a % 0x1000 = 0xC10 then withFld (s.reg a) 0 9 (combUsed s (gwEp ((a - 0x90000) / 0x1000))) else s.reg a
  | 0xA => opticWord s a
  | 0xC => homeWord s (5 * (a % 0x10000 / 0x4000) + 2) a
  | 0x30 => secWord s a
  | 0x31 => secWord s a
  | 0x40 => flashWord s a
  | 0x50 =>
    if a = 0x500004 then
      withFld (withFld (s.reg a) 30 1 (if s.pins.ownOut then 1 else 0)) 29 1 (if s.pins.ownIn then 1 else 0)
    else s.reg a
  | h => if 0x10 ≤ h ∧ h ≤ 0x17 then siteWord s a else s.reg a

/-- What a read of a register does: a refused debug access is marked (R70), and OPT_IMG_DATA moves on (R337). -/
def readEffect (a : Nat) (s : State) : State :=
  if a = 0xA0024 then (imageNext s).2
  else
    match coreOfAddr a with
    | some c =>
      if 0x10 ≤ a / 0x10000 ∧ a / 0x10000 ≤ 0x17 ∧ (a % 0x40 = 0x28 ∨ a % 0x40 = 0x2C) ∧ dbgOpen (s.core c) = false then
        refuseCore c s else s
    | none => s

/-! ### Blocks and power (R365, R389, R410, R418) -/

/-- Whether an address lies in a block that answers: in recovery only five do. -/
def blockAnswers (s : State) (a : Nat) : Bool :=
  inBlock a && (!s.recovery || [0, 1, 6, 0x30, 0x40].contains (blockOf a))
/-- Whether a register's domain is without power: in quench and STANDBY the hearth, gateways, optics, crucibles and
sites, in NAP the crucibles and sites, each from its acceptance on (R362). (DEDUCED, log 26) -/
def csOff (s : State) (a : Nat) : Bool :=
  let h := a / 0x10000
  let deep := decide (h = 0xC ∨ (0x10 ≤ h ∧ h ≤ 0x17))
  if s.quench || decide (s.devState = 2) then deep || decide (8 ≤ h ∧ h ≤ 10)
  else deep && decide (s.blockState (if h = 0xC then 16 + a % 0x10000 / 0x4000 else 8 + (h - 0x10)) ≠ 0)

/-! ### Reads (R6, R411) -/

/-- Key of an interface in `latch`, `hold` and `reads`. (DEDUCED, log 37) -/
def ifaceKey : Iface → Nat
  | .spasen => 0
  | .smbus => 1
  | .jtag => 2
  | .fabric => 3
  | .tongs => 4

/-- The register at a control address: bits [1:0] are ignored (R5). -/
def wordAddr (a : Nat) : Nat := a / 4 * 4
/-- Whether `a` is the high word of a 64-bit register. -/
def isHigh64 (a : Nat) : Bool := decide (4 ≤ a) && isLow64 (a - 4)

def setLatch (i : Iface) (x : Option (Nat × Word)) (s : State) : State :=
  { s with latch := Tab.put none s.latch (ifaceKey i) x }
def setHold (i : Iface) (x : Option (Nat × Word)) (s : State) : State :=
  { s with hold := Tab.put none s.hold (ifaceKey i) x }

/-- A control-space read by an interface: the word, and the state after it. (DEDUCED, log 37) -/
def csRead (i : Iface) (addr : Nat) (s : State) : Word × State :=
  let a := wordAddr addr
  let held := Tab.get none s.latch (ifaceKey i)
  if !blockAnswers s a then (0, setLatch i none s)
  else if csOff s a then (0x0FF00FF0#32, setLatch i none (s.setRf 0x50008 0 1 1))
  else if isLow64 a then (regNow s a, readEffect a (setLatch i (some (a, regNow s (a + 4))) s))
  else
    match held with
    | some (b, v) =>
      if a = b + 4 then (v, setLatch i none s) else (regNow s a, readEffect a (setLatch i none s))
    | none => (regNow s a, readEffect a (setLatch i none s))

/-! ### Writes (R6–R8, R410) -/

/-- ID_FABRIC (R406): a write with Valid 1 while Valid is 0 sets Num and Valid together, once. -/
def assignFabric (v : Word) (s : State) : State :=
  if s.fabValid || s.recovery || decide (fld v 8 1 = 0) then s
  else startPorts ((s.setRf 0x14 0 6 (fld v 0 6)).setRf 0x14 8 1 1)

/-- SPS_CMD_TAIL (R409): a tail that would pass the head by more than 32 entries is ignored. -/
def tailWrite (v : Word) (s : State) : State :=
  if 32 < (fld v 0 6 + 64 - s.rf 0x60020 0 6) % 64 then s.setRf 0x60000 31 1 1 else s.setRf 0x60024 0 6 (fld v 0 6)

/-- MEAS_m as bytes, first word first, and the extension of R421. -/
def dwordBytes (l : List (BitVec 512)) : List (BitVec 8) := l.flatMap (fun w => (List.range 64).map (fun k => w.extractLsb' (8 * k) 8))
def measReg (s : State) (m : Nat) : List Word := (List.range 16).map (fun w => s.reg (0x300100 + 0x40 * m + 4 * w))
def extendMeas (m : Nat) (d : List (BitVec 8)) (s : State) : State :=
  let h := shake512 (wordBytes (measReg s m) ++ dwordBytes [shake512 d])
  (List.range 16).foldl (fun t w => t.setReg (0x300100 + 0x40 * m + 4 * w) (h.extractLsb' (32 * w) 32)) s
/-- SEC_EXTEND_CTRL.Go (R421, R434): MEAS_6 or MEAS_7 is extended, after the start is complete. (DEDUCED, log 37) -/
def secExtendNow (s : State) : State :=
  if s.rf 0x300000 29 2 = 1 then
    extendMeas (6 + s.rf 0x300440 0 1) (wordBytes ((List.range 16).map (fun w => s.reg (0x300400 + 4 * w)))) s
  else s

/-- PAIR_CTRL (R437, R438, R444): Arm and Claim are refused in a role conflict. (DESIGN CHOICE, log 35) -/
def pairCtrl (v : Word) (s : State) : State :=
  let s := if roleClash s then s else s.plainWrite 0x500000 v
  let s := if fld v 2 1 = 1 then releaseNow s else s
  let s := if fld v 1 1 = 1 then claimNow s else s
  let s := if fld v 3 1 = 1 then resyncNow s else s
  pairJudge s

/-- JOBKILL_CTRL (R223, R224). -/
def killCtrl (v : Word) (s : State) : State :=
  match fld v 30 2 with
  | 0 => s.plainWrite 0x8F000 v
  | 1 => jobRelease (fld v 0 12) s
  | 2 => jobKill (fld v 0 12) s
  | _ => killRefused s

/-- A 32-bit write to a home's registers. -/
def homeWrite (e a : Nat) (v : Word) (s : State) : State :=
  if a = epOwn e then writeOwnCfg e v s else s.plainWrite a v

/-- A 32-bit write to a site. -/
def siteWrite (a : Nat) (v : Word) (s : State) : State :=
  let site := a / 0x10000 - 0x10
  let o := a % 0x10000
  match coreOfAddr a with
  | some c =>
    (match o % 0x40 with
     | 0x00 => coreCtrlWrite c v s
     | 0x04 => if fld v 31 1 = 1 then s.modCore c (fun k => { k with refused := false }) else s
     | _ => s.plainWrite a v)
  | none =>
    if 0x100 ≤ o ∧ o < 0x140 then jobSlotWrite site ((o - 0x100) / 8) (decide (o % 8 = 4)) v s
    else if o = 0x220 then (if fld v 0 1 = 1 then siteGoCmd site s else s)
    else if o = 0x9000 then billetCfg site v s
    else homeWrite (siteEp site) a v s

/-- A write of a 32-bit register by an interface: what the register's behaviour gives it, else its access type. -/
def regWrite (i : Iface) (a : Nat) (v : Word) (s : State) : State :=
  match a / 0x10000 with
  | 0x0 => if a = 0x14 ∧ i = .spasen then assignFabric v s else s.plainWrite a v
  | 0x1 =>
    if a = 0x10008 then (if fld v 0 1 = 1 then clearC2 s else s)
    else if a = 0x1000C then (if i = .tongs then heartbeat s else s)
    else if a = 0x10800 then rstWrite v s
    else s.plainWrite a v
  | 0x2 => showPool (s.plainWrite a v)
  | 0x5 =>
    if a = 0x50000 then devTarget (fld v 0 2) s
    else if 0x50100 ≤ a ∧ a < 0x50180 then regionWrite ((a - 0x50100) / 4) v s
    else s.plainWrite a v
  | 0x6 =>
    if a = 0x60004 then (if i = .spasen then s.plainWrite a v else s)
    else if a = 0x60024 then tailWrite v s
    else s.plainWrite a v
  | 0x8 => if a = 0x8F000 then killCtrl v s else s.plainWrite a v
  | 0x9 =>
    if a < 0x94000 then
      let o := a % 0x1000
      if 0x100 ≤ o ∧ o < 0x400 ∧ o % 0x40 = 0 then portCfg ((a - 0x90000) / 0x1000) ((o - 0x100) / 0x40) v s
      else s.plainWrite a v
    else if a < 0x94100 then routeWrite ((a - 0x94000) / 4) v s
    else if a < 0x94200 then (if fld v 31 1 = 1 then reviveNow ((a - 0x94100) / 4) s else s)
    else s.plainWrite a v
  | 0xA =>
    if a = 0xA0020 then imageAddr v s
    else if 0xA1000 ≤ a ∧ a < 0xA1400 ∧ a % 0x100 = 0 then bellowsWrite ((a - 0xA1000) / 0x100) v s
    else s.plainWrite a v
  | 0xC => homeWrite (5 * (a % 0x10000 / 0x4000) + 2) a v s
  | 0x30 =>
    if 0x300400 ≤ a ∧ a < 0x300440 then s.setReg a v
    else if a = 0x300440 then
      let s := s.plainWrite a v
      if fld v 31 1 = 1 then secExtendNow s else s
    else s.plainWrite a v
  | 0x50 => if a = 0x500000 then pairCtrl v s else pairJudge (s.plainWrite a v)
  | h => if 0x10 ≤ h ∧ h ≤ 0x17 then siteWrite a v s else s.plainWrite a v

/-- The home whose OWN_FORCE_REL has its low word at `a` (R201). -/
def forceRelOf (a : Nat) : Option Nat :=
  (List.range 20).find? (fun e => (isStack e || isCruc e) && decide (a = epOwn e + 0x90))

/-- A write of a 64-bit register whose low word lies at `a`, both words together (R6). -/
def pairWrite (a : Nat) (lo hi : Word) (s : State) : State :=
  match forceRelOf a with
  | some e => forceRelease e (bit lo 0) (hi.toNat % 2 ^ 21 * 2 ^ 32 + lo.toNat / 2 ^ 16 * 2 ^ 16) s
  | none =>
    match coreOfAddr a with
    | some c =>
      if 0x10 ≤ a / 0x10000 ∧ a / 0x10000 ≤ 0x17 ∧ a % 0x40 = 0x28 then dbgWrite c (hi ++ lo) s
      else (s.plainWrite a lo).plainWrite (a + 4) hi
    | none =>
      let s := (s.plainWrite a lo).plainWrite (a + 4) hi
      if a / 0x10000 = 0x50 then pairJudge s else s

/-- A control-space write by an interface (R6, R365, R390): the low word of a 64-bit register is held for its high
word. (DEDUCED, log 37) -/
def csWrite (i : Iface) (addr : Nat) (v : Word) (s : State) : State :=
  let a := wordAddr addr
  let held := Tab.get none s.hold (ifaceKey i)
  if s.quench then s
  else if !blockAnswers s a then setHold i none s
  else if csOff s a then (setHold i none s).setRf 0x50008 0 1 1
  else if isLow64 a then setHold i (some (a, v)) s
  else if isHigh64 a then
    let lo := match held with | some (b, w) => if b + 4 = a then w else regNow s (a - 4) | none => regNow s (a - 4)
    pairWrite (a - 4) lo v (setHold i none s)
  else regWrite i a v (setHold i none s)

/-! ### Rows -/

/-- Whether the start is complete, so that the device answers (R17, R418). -/
def started (s : State) : Bool := decide (s.rf 0x300000 29 2 ≠ 0)
/-- Whether an interface reaches the control space: no host access is answered before the start is complete (R17), none over
the Spasen link in quench (R389), none over JTAG while debug is closed (R428). -/
def reaches (i : Iface) (s : State) : Bool :=
  match i with
  | .spasen => started s && !s.quench
  | .smbus => s.pins.vio && (started s || s.quench)
  | .jtag => s.pins.vio && decide (s.rf 0x300000 26 1 = 1)
  | .fabric => started s && !s.quench
  | .tongs => !s.quench
/-- Whether a write of an interface is performed: over SMBus only while SmbWrite is 1 (R412). -/
def mayWrite (i : Iface) (s : State) : Bool := reaches i s && (decide (i ≠ .smbus) || decide (s.rf 0x60004 0 1 = 1))

/-- Keep the word an interface has read (the model's own). -/
def noteRead (i : Iface) (r : Word × State) : State := { r.2 with reads := Tab.put 0 r.2.reads (ifaceKey i) r.1 }
/-- A read row of an interface, and a write row. -/
def rowRead (i : Iface) (a : Nat) (s : State) : State := if reaches i s then noteRead i (csRead i a s) else s
def rowWrite (i : Iface) (a : Nat) (v : Word) (s : State) : State := if mayWrite i s then csWrite i a v s else s

/-- A debug access crosses to the anvil and back as units of the Debug class (R307). -/
def debugUnits (c : Nat) (s : State) : State :=
  let e := siteEp (c / 256)
  let cl := clusterOf c
  [dieIn e 0, downWire (c / 256) cl, upWire (c / 256) cl, dieOut e 0].foldl (fun t k => addUnit k 5 t) s

/-- DEBUG_DATA_READ (R70). -/
def execDebugDataRead (i : Iface) (c : CoreId) (hi : Bool) (s : State) : Host.Outcome State Fault Refusal :=
  .next (rowRead i (coreBase c.val + (if hi then 0x2C else 0x28)) (if reaches i s then debugUnits c.val s else s))
/-- DEBUG_DATA_WRITE (R70). -/
def execDebugDataWrite (i : Iface) (c : CoreId) (hi : Bool) (val : Word) (s : State) : Host.Outcome State Fault Refusal :=
  .next (rowWrite i (coreBase c.val + (if hi then 0x2C else 0x28)) val (if mayWrite i s then debugUnits c.val s else s))
/-- REGISTER_WRITE (R7, R8). -/
def execRegisterWrite (i : Iface) (addr val : Word) (s : State) : Host.Outcome State Fault Refusal :=
  .next (rowWrite i addr.toNat val s)
/-- IMAGE_READ (R337). -/
def execImageRead (i : Iface) (s : State) : Host.Outcome State Fault Refusal := .next (rowRead i 0xA0024 s)
/-- FABRIC_NUMBER_ASSIGN (R406): a write of ID_FABRIC over the Spasen link. -/
def execFabricNumberAssign (val : Word) (s : State) : Host.Outcome State Fault Refusal :=
  .next (rowWrite .spasen 0x14 val s)
/-- SEC_EXTEND (R421). -/
def execSecExtend (s : State) : Host.Outcome State Fault Refusal := alive secExtendNow s

end Sys2Proof.Machine
end

