-- ==== Sys2Proof/Machine/Spasen.lean ====
section
/-! DEFINITION. The Spasen link (R395–R408): requests of the host, their fabric and control-space accesses, forwarding
along the chain, enumeration, events and the ports. -/

namespace Sys2Proof.Machine

/-! ### Headers (R400) -/

/-- The first word of a packet's header. -/
def headWord (addr : BitVec 7) (up : Bool) (func : BitVec 4) (op : BitVec 8) (tag : BitVec 16) (len : BitVec 13) (status : BitVec 4) : DWord :=
  0#7 ++ status ++ len ++ tag ++ op ++ 0#4 ++ func ++ (if up then 1#1 else 0#1) ++ addr
/-- A request's first word, and the request that two words spell; bits that a request does not use are ignored. -/
def SpsHdr.w0 (h : SpsHdr) : DWord := headWord h.addr false 0 h.op h.tag h.len 0
def hdrOf (w0 w1 : DWord) : SpsHdr :=
  ⟨w0.extractLsb' 0 7, w0.extractLsb' 16 8, w0.extractLsb' 24 16, w0.extractLsb' 40 13, w1, []⟩
/-- The first word of a packet for the host: Length is that of its payload. -/
def SpsUp.w0 (p : SpsUp) : DWord := headWord p.addr true p.func p.op p.tag (BitVec.ofNat 13 (4 * p.data.length)) p.status

/-! ### The ports -/

def chainAddr (s : State) : Nat := s.rf 0x10 0 7

/-- A packet for the host leaves, or waits while UP is DOWN (R397). -/
def sendUp (own : Bool) (p : SpsUp) (s : State) : State :=
  if spsPortUp s false then { s with hostTx := s.hostTx ++ [p] } else { s with hostWait := s.hostWait ++ [(own, p)] }
/-- The response to a request (R400, R403). -/
def spsResp (h : SpsHdr) (status : Nat) (data : List Word) (s : State) : State :=
  sendUp true ⟨BitVec.ofNat 7 (chainAddr s), 0x10#8, h.tag, BitVec.ofNat 4 status, 0, h.w1, data⟩ s

/-- A packet that takes an output ahead of others (R399). -/
def spsPriority (p : SpsUp) : Bool := [0x20, 0x08, 0x09, 0x0A, 0x0B, 0x21].contains p.op.toNat
/-- The turns of one class at the UP output: up to `below` packets from DN for each of the device's own (R399). -/
def shareUp (below : Nat) : Nat → Nat → List SpsUp → List SpsUp → List SpsUp
  | 0, _, own, dn => own ++ dn
  | _ + 1, _, own, [] => own
  | _ + 1, _, [], dn => dn
  | n + 1, k, o :: own, d :: dn =>
    if k < below then d :: shareUp below n (k + 1) (o :: own) dn else o :: shareUp below n 0 own (d :: dn)
/-- What waited for UP leaves. -/
def drainUp (s : State) : State :=
  let pick (pri own : Bool) : List SpsUp :=
    (s.hostWait.filter (fun e => decide (spsPriority e.2 = pri ∧ e.1 = own))).map Prod.snd
  let turn (pri : Bool) : List SpsUp := shareUp (chainBelow s) s.hostWait.length 0 (pick pri true) (pick pri false)
  { s with hostTx := s.hostTx ++ turn true ++ turn false, hostWait := [] }

/-- SPASEN_REPLAY (R396): a group fails, `again` where it is the one that failed last; the sixteenth failure in succession
takes the port DOWN. -/
def spsReplay (dn again : Bool) (s : State) : State :=
  if !spsPortUp s dn then s
  else
    let k := if dn then 1 else 0
    let n := if again then Tab.get 0 s.spsFails k + 1 else 1
    let s := s.incRf 0x60010 (if dn then 16 else 0) 16 1
    if 16 ≤ n then spsDownPort dn { s with spsFails := Tab.put 0 s.spsFails k 0 }
    else { s with spsFails := Tab.put 0 s.spsFails k n }
def execSpasenReplay (dn again : Bool) (s : State) : Host.Outcome State Fault Refusal := alive (spsReplay dn again) s
/-- SPASEN_PORT_DOWN (R397): the port goes DOWN and trains at once. -/
def execSpasenPortDown (dn : Bool) (s : State) : Host.Outcome State Fault Refusal := alive (spsDownPort dn) s
/-- Whether C2 is clocked, as from step 2 of the start on, 2 ms after its trigger (R398, R416). (DESIGN CHOICE, log 40) -/
def linkClocked (s : State) : Bool := started s || decide (s.startAt + 500000 ≤ s.now)
/-- SPASEN_PORT_UP (R397): a port that trained, once the link is clocked and while T0's comb of role 7 lights it (R323). -/
def spsUpPort (dn : Bool) (s : State) : State :=
  if !linkClocked s || spsPortUp s dn || roleDark s 0 7 then s
  else
    let s := s.setRf 0x60000 (if dn then 2 else 0) 2 2
    if dn then s else drainUp s
def execSpasenPortUp (dn : Bool) (s : State) : Host.Outcome State Fault Refusal := alive (spsUpPort dn) s

/-! ### Memory requests (R402–R404) -/

/-- Fabric packets of `n` lines from line `l`: up to 8 lines each, within 512 B. -/
def memPkts (l n : Nat) : List (Nat × Nat) :=
  (List.range (n / 8 + 2)).filterMap (fun k =>
    let lo := max l ((l / 8 + k) * 8)
    let hi := min (l + n) ((l / 8 + k + 1) * 8)
    if lo < hi then some (lo, hi - lo) else none)
/-- Lines of a MEM request; 0 for the 8 B form. -/
def memLines (h : SpsHdr) : Nat := h.len.toNat / 64
/-- The offset a MEM request begins at: bits below its access size are ignored. -/
def memOff (h : SpsHdr) : Nat := let o := dOff h.w1; if memLines h = 0 then o / 8 * 8 else o / 64 * 64
def memPlan (h : SpsHdr) : List (Nat × Nat) := if memLines h = 0 then [(0, 0)] else memPkts (memOff h / 64) (memLines h)

/-- The row of an endpoint's map an offset lies in (R173–R175); none where it lies in no row. -/
def mapRow (e o : Nat) : Option Nat :=
  if isCruc e && decide (2 ^ 40 ≤ o ∧ o < 2 ^ 40 + 576 * 2 ^ 30) then some 9
  else match tgtOf e o with
    | .billet _ _ => some 1
    | .store _ _ => some 2
    | .ctrl _ => some 3
    | .cruc _ _ => some 4
    | .mirror _ => some 5
    | .guest _ => some 6
    | .none => none
/-- Whether every address of a MEM request lies in one block. -/
def memOneBlock (h : SpsHdr) : Bool :=
  let e := dEp h.w1
  let o := memOff h
  let n := if memLines h = 0 then 8 else 64 * memLines h
  (mapRow e o).isSome && decide (mapRow e o = mapRow e (o + n - 1))

def isWrOp (h : SpsHdr) : Bool := decide (h.op.toNat = 4)
/-- 8 B and 64 B pieces of a payload. -/
def wordsNat (t : Tab Word) (k n : Nat) : Nat := (Tab.getAll 0 t k n).foldr (fun w m => w.toNat + 2 ^ 32 * m) 0
/-- Word of the payload at which packet (line, count) begins. -/
def pktWord (h : SpsHdr) (p : Nat × Nat) : Nat := if memLines h = 0 then 0 else 16 * (p.1 - memOff h / 64)
def pktWords (p : Nat × Nat) : Nat := if p.2 = 0 then 2 else 16 * p.2

/-- A packet of the tongs' agent `n`, tag 0 and ord Free (R193, R404). -/
def tongsPkt (s : State) (agent tag op var : Nat) (dst : DWord) : Pkt :=
  { dst := dst, cls := decide (op = 3 ∨ (0x10 ≤ op ∧ op ≤ 0x13)), op := BitVec.ofNat 6 op, var := BitVec.ofNat 4 var
    srcFab := BitVec.ofNat 6 s.fabNum, srcEp := 4, srcCore := BitVec.ofNat 8 agent, eng := 2, tag := BitVec.ofNat 8 tag
    ord := 1, flag := false, job := 0, seq := 0, len := 0, redId := 0, mcKind := 0, members := 0, epoch := 0
    p0 := 0, p1 := 0, comp := 0, data := [] }
/-- One fabric packet of a MEM request. -/
def memPkt (s : State) (r : SpsReq) (p : Nat × Nat) (tag : Nat) : Pkt :=
  let h := r.hdr
  let dst := gfa (dFab h.w1) (dEp h.w1) (if memLines h = 0 then memOff h else 64 * p.1)
  let w := wordsNat r.data (pktWord h p) (pktWords p)
  if isWrOp h then
    if memLines h = 0 then { tongsPkt s 0 tag 2 0 dst with p0 := BitVec.ofNat 64 w }
    else { tongsPkt s 0 tag 3 0 dst with len := BitVec.ofNat 4 p.2, data := unpackNat w p.2 }
  else { tongsPkt s 0 tag 1 p.2 dst with p0 := 1 }

/-- Tags of the agent's packets that are out. -/
def tagsOut (s : State) : List Nat := s.spsReqs.flatMap (fun r => r.waiting.map Prod.fst)
/-- Issue the next packet of the oldest request that has one left, while fewer than 256 are out. -/
def issueOne (s : State) : State :=
  match s.spsReqs.findIdx? (fun r => !r.todo.isEmpty), (List.range 256).find? (fun t => !(tagsOut s).contains t) with
  | some i, some t =>
    match s.spsReqs[i]? with
    | some r =>
      match r.todo with
      | n :: rest =>
        let s := pushReq (memPkt s r ((memPlan r.hdr).getD n (0, 0)) t) .engine 4 none s
        { s with spsReqs := s.spsReqs.set i { r with todo := rest, waiting := r.waiting ++ [(t, n)] } }
      | [] => s
    | none => s
  | _, _ => s
def issueAll : Nat → State → State
  | 0, s => s
  | n + 1, s => issueAll n (issueOne s)

/-! ### Control-space requests (R402–R404) -/

/-- Whether every address of a CSR request lies in one block that answers. -/
def csrOneBlock (s : State) (a n : Nat) : Bool :=
  blockAnswers s a && blockAnswers s (a + n - 4) && decide (blockOf a = blockOf (a + n - 4))
/-- Read `n` consecutive words. -/
def csrReads : Nat → Nat → State → List Word × State
  | 0, _, s => ([], s)
  | n + 1, a, s =>
    let r := csRead .spasen a s
    let q := csrReads n (a + 4) r.2
    (r.1 :: q.1, q.2)
/-- Write words to consecutive addresses. -/
def csrWrites : List Word → Nat → State → State
  | [], _, s => s
  | w :: ws, a, s => csrWrites ws (a + 4) (csWrite .spasen a w s)

/-- A CSR request is performed and answered. -/
def csrPerform (r : SpsReq) (s : State) : State :=
  let a := wordAddr (r.hdr.w1.toNat % 2 ^ 32)
  let n := r.hdr.len.toNat
  if !csrOneBlock s a n then spsResp r.hdr 5 [] s
  else if r.hdr.op.toNat = 1 then
    let q := csrReads (n / 4) a s
    spsResp r.hdr 0 q.1 q.2
  else spsResp r.hdr 0 [] (csrWrites (Tab.getAll 0 r.data 0 (n / 4)) a s)

/-- Perform the CSR requests that no earlier request of the host holds back. -/
def csrHead : Nat → State → State
  | 0, s => s
  | n + 1, s =>
    match s.spsReqs with
    | r :: rest => if r.hdr.op.toNat ≤ 2 then csrHead n (csrPerform r { s with spsReqs := rest }) else s
    | [] => s
/-- What the agent does when a request arrives or completes. -/
def spsAdvance (s : State) : State := issueAll 256 (csrHead 64 s)

/-- A MEM request's last packet has completed: the first status that is not OK in address order, and the data, of a failed read
poison (R403). -/
def memDone (r : SpsReq) (s : State) : State :=
  let st := ((r.stats.find? (fun e => decide (e.2 ≠ 0))).map Prod.snd).getD 0
  let n := r.hdr.len.toNat / 4
  spsResp r.hdr st
    (if isWrOp r.hdr then [] else if st = 0 then Tab.getAll 0 r.data 0 n else List.replicate n (BitVec.allOnes 32)) s
/-- Words a read's packet brings. -/
def memData (h : SpsHdr) (p : Nat × Nat) (q : Pkt) : List Word :=
  let v := if memLines h = 0 then q.p0.toNat else packNat q.data
  (List.range (pktWords p)).map (fun i => BitVec.ofNat 32 (v / 2 ^ (32 * i)))
/-- A response reaches the Spasen agent. -/
def spsCompletion (q : Pkt) (s : State) : State :=
  let t := q.tag.toNat
  match s.spsReqs.findIdx? (fun r => r.waiting.any (fun w => decide (w.1 = t))) with
  | none => s
  | some i =>
    match s.spsReqs[i]? with
    | none => s
    | some r =>
      match r.waiting.find? (fun w => decide (w.1 = t)) with
      | none => s
      | some (_, n) =>
        let p := (memPlan r.hdr).getD n (0, 0)
        let r := { r with
          waiting := r.waiting.filter (fun w => decide (w.1 ≠ t)), stats := Tab.put 0 r.stats n (compStatus q)
          data := if isWrOp r.hdr then r.data else Tab.putAll 0 r.data (pktWord r.hdr p) (memData r.hdr p q) }
        if r.todo.isEmpty && r.waiting.isEmpty then spsAdvance (memDone r { s with spsReqs := s.spsReqs.eraseIdx i })
        else spsAdvance { s with spsReqs := s.spsReqs.set i r }

/-! ### Packets from the host (R398–R405) -/

/-- Opcodes that travel from the host. -/
def downOps : List Nat := [0x01, 0x02, 0x03, 0x04, 0x08, 0x0B, 0x21]
/-- Whether a Length fits its opcode and the payload carried (R401, R402). -/
def lenOk (h : SpsHdr) (words : Nat) : Bool :=
  let n := h.len.toNat
  match h.op.toNat with
  | 0x01 => decide (4 ≤ n ∧ n ≤ 4096 ∧ n % 4 = 0 ∧ words = 0)
  | 0x02 => decide (4 ≤ n ∧ n ≤ 4096 ∧ n % 4 = 0 ∧ 4 * words = n)
  | 0x03 => decide ((n = 8 ∨ (64 ≤ n ∧ n ≤ 4096 ∧ n % 64 = 0)) ∧ words = 0)
  | 0x04 => decide ((n = 8 ∨ (64 ≤ n ∧ n ≤ 4096 ∧ n % 64 = 0)) ∧ 4 * words = n)
  | _ => decide (n = 0 ∧ words = 0)
/-- A request rejected whole (R402). -/
def lenReject (h : SpsHdr) (s : State) : State := spsResp h 10 [] (raiseEvent 0 5 0x162 0 (s.incRf 0x6000C 0 32 1))

/-- Whether a member with closed gates still answers the request (R436). (DEDUCED, log 40) -/
def gateAllows (s : State) (h : SpsHdr) : Bool :=
  !s.pins.pairEn || gatesOpen s ||
    (decide (h.op.toNat ≤ 2) && [0x0, 0x1, 0x3, 0x50].contains (blockOf (h.w1.toNat % 2 ^ 32)))

/-- A packet that is not for this device goes on, or is answered at the end of the chain (R398, R399). (DEDUCED, log 40) -/
def spsForward (h : SpsHdr) (ws : List Word) (s : State) : State :=
  if spsPortUp s true then { s with spsDown := s.spsDown ++ [(h, ws)] }
  else if h.addr = 0x7E#7 then s
  else if h.op = 0x08#8 then sendUp true ⟨BitVec.ofNat 7 (chainAddr s), 0x0A#8, h.tag, 0, 0, 0, []⟩ s
  else spsResp h 12 [] s

/-- A packet arrives on UP: forwarded, answered for its opcode or length, or taken by `f`. Before the start is complete the
device answers nothing, and forwards what its DN port takes (R17, R398). (DEDUCED, log 40) -/
def spsArrive (row : Nat) (h : SpsHdr) (ws : List Word) (f : State → State) (s : State) : State :=
  if !spsPortUp s false || decide (h.op.toNat ≠ row ∧ downOps.contains h.op.toNat = true) then s
  else if !started s then (if spsPortUp s true then spsForward h ws s else s)
  else if h.addr = 0x7E#7 ∨ h.addr.toNat ≠ chainAddr s ∨ chainAddr s = 0x7F then spsForward h ws s
  else if h.op.toNat ≠ row then spsResp h 11 [] s
  else if !lenOk h ws.length then lenReject h s
  else f s

/-- A CSR or MEM request enters the receive buffer of 64 (R404). -/
def spsRequest (h : SpsHdr) (ws : List Word) (s : State) : State :=
  if !gateAllows s h then spsResp h 12 [] s
  else if 64 ≤ s.spsReqs.length then s
  else if 3 ≤ h.op.toNat ∧ memOneBlock h = false then spsResp h 5 [] s
  else
    let todo := if h.op.toNat ≤ 2 then [] else List.range (memPlan h).length
    spsAdvance { s with spsReqs := s.spsReqs ++ [⟨h, todo, [], [], Tab.putAll 0 [] 0 ws⟩] }

/-- CSR_RD (R404). -/
def execCsrRd (h : SpsHdr) (s : State) : Host.Outcome State Fault Refusal := alive (spsArrive 1 h h.extra (spsRequest h [])) s
/-- CSR_WR (R404). -/
def execCsrWr (h : SpsHdr) (ws : List Word) (s : State) : Host.Outcome State Fault Refusal :=
  alive (spsArrive 2 h ws (spsRequest h ws)) s
/-- MEM_RD (R404). -/
def execMemRd (h : SpsHdr) (s : State) : Host.Outcome State Fault Refusal := alive (spsArrive 3 h h.extra (spsRequest h [])) s
/-- MEM_WR (R404). -/
def execMemWr (h : SpsHdr) (ws : List Word) (s : State) : Host.Outcome State Fault Refusal :=
  alive (spsArrive 4 h ws (spsRequest h ws)) s

/-! ### Enumeration (R405) -/

/-- ASSIGN_ACK: ID_PART, ID_SERIAL and 20 reserved bytes. -/
def assignReply (s : State) (tag : BitVec 16) : SpsUp :=
  ⟨BitVec.ofNat 7 (chainAddr s), 0x09#8, tag, 0, 0, BitVec.ofNat 64 (chainAddr s),
    [idWord s 0, idWord s 8, idWord s 12, 0, 0, 0, 0, 0]⟩
/-- ASSIGN: a started device without an address takes it, and every other forwards it; before the start is complete it
is discarded. -/
def assignNow (h : SpsHdr) (s : State) : State :=
  if !spsPortUp s false || !started s || decide (h.op ≠ 0x08#8) then s
  else if chainAddr s ≠ 0x7F ∨ h.addr ≠ 0x7F#7 then spsForward h h.extra s
  else if !lenOk h h.extra.length then lenReject h s
  else if 63 < h.w1.toNat % 128 then spsResp h 11 [] s
  else
    let s := s.setRf 0x10 0 7 (h.w1.toNat % 128)
    sendUp true (assignReply s h.tag) s
def execAssign (h : SpsHdr) (s : State) : Host.Outcome State Fault Refusal := alive (assignNow h) s

/-- UNASSIGN: the address is given up, and the broadcast goes on. -/
def unassignNow (s : State) : State :=
  if !spsPortUp s false || (!started s && !spsPortUp s true) then s
  else spsForward ⟨0x7E, 0x0B, 0, 0, 0, []⟩ [] ((s.setRf 0x10 0 7 0x7F).setRf 0x10 8 6 0)
def execUnassign (s : State) : Host.Outcome State Fault Refusal := alive unassignNow s

/-! ### Packets from DN, events and credits (R398, R405, R408) -/

/-- Bytes of a packet for the host, and of those from DN that wait for UP. -/
def upBytes (p : SpsUp) : Nat := 16 + 4 * p.data.length
def waitBytes (s : State) : Nat := (s.hostWait.filter (fun e => !e.1)).foldl (fun n e => n + upBytes e.2) 0
/-- Whether a packet of an opcode that arrives on DN is taken: one that the 32 KiB held for a busy output have no room for is
not taken yet (R398). -/
def takesDn (op : Nat) (p : SpsUp) (s : State) : Bool :=
  spsPortUp s true && decide (p.op.toNat = op) && (spsPortUp s false || decide (waitBytes s + upBytes p ≤ 32768))
/-- It is forwarded out of UP. -/
def fromDn (op : Nat) (p : SpsUp) (s : State) : State := if takesDn op p s then sendUp false p s else s
/-- ASSIGN_ACK (R405): counted below a device that has its address. -/
def execAssignAck (p : SpsUp) (s : State) : Host.Outcome State Fault Refusal :=
  alive (fun s => fromDn 0x09 p (if chainAddr s ≠ 0x7F ∧ takesDn 0x09 p s = true then s.incRf 0x10 8 6 1 else s)) s
/-- ASSIGN_END (R399). -/
def execAssignEnd (p : SpsUp) (s : State) : Host.Outcome State Fault Refusal := alive (fromDn 0x0A p) s
/-- RESP (R398). -/
def execResp (p : SpsUp) (s : State) : Host.Outcome State Fault Refusal := alive (fromDn 0x10 p) s

/-- The payload of an event (R408). -/
def eventWords (e : Ev) (lost : Bool) : List Word :=
  let lo : Nat := e.kind.toNat + (if lost then 4 else 0) + e.code.toNat * 2 ^ 16 + e.seq.toNat * 2 ^ 32 +
    e.detail.toNat * 2 ^ 48 + e.tick.toNat * 2 ^ 80
  (List.range 4).map (fun i => BitVec.ofNat 32 (lo / 2 ^ (32 * i)))
/-- The oldest waiting event is sent, while a credit is held. -/
def sendEvent (s : State) : State :=
  match s.events with
  | e :: rest =>
    if s.rf 0x60008 16 9 = 0 ∨ spsPortUp s false = false then s
    else
      let s := s.setRf 0x60008 16 9 (s.rf 0x60008 16 9 - 1)
      sendUp true ⟨BitVec.ofNat 7 (chainAddr s), 0x20#8, 0, 0, e.func, 0, eventWords e s.evLost⟩
        { s with events := rest, evLost := false }
  | [] => s
/-- EVENT (R407, R408): the device's own, or one from DN. -/
def execEvent (p : Option SpsUp) (s : State) : Host.Outcome State Fault Refusal :=
  alive (fun s => match p with | none => sendEvent s | some x => fromDn 0x20 x s) s
/-- EVT_CREDIT (R408). -/
def execEvtCredit (h : SpsHdr) (s : State) : Host.Outcome State Fault Refusal :=
  alive (spsArrive 0x21 h h.extra (fun s => s.setRf 0x60008 16 9 (min 511 (s.rf 0x60008 16 9 + h.w1.toNat % 512)))) s

end Sys2Proof.Machine
end

