-- ==== Sys2Proof/Machine/Guests.lean ====
section
/-! DEFINITION. Guest dies behind the tongs' firewall (R429–R432): their requests, requests for them, and what comes
back. -/

namespace Sys2Proof.Machine

/-! ### Violations (R432) -/

/-- Endpoint of guest site `g`. -/
def guestEp (g : Nat) : Nat := 9 + 5 * g
/-- Whether a guest die is there to send and receive: a module of its is trained and F14 is online. -/
def guestOn (s : State) (g : Nat) : Bool :=
  decide (s.rf (0x203000 + 0x40 * g) 0 4 ≠ 0 ∧ s.funcState 14 = 0 ∧ s.devState = 0)
/-- A packet reaches the guest. -/
def guestSend (g : Fin 3) (p : Pkt) (s : State) : State := { s with guestOut := s.guestOut ++ [(g, p)] }

/-- A violation is counted and logged; the first in a millisecond past ViolLimit raises event 0x1C1. -/
def violation (g : Nat) (s : State) : State :=
  let l := (Tab.get [] s.viol g).filter (fun t => decide (s.now < t + 250000)) ++ [s.now]
  let s := raiseEvent 0 27 0x1C0 (BitVec.ofNat 32 g) { s.incRf (0x201010 + 4 * g) 0 32 1 with viol := Tab.put [] s.viol g l }
  if s.rf 0x201000 0 16 < l.length ∧ (Tab.get 0 s.violT g = 0 ∨ Tab.get 0 s.violT g + 250000 ≤ s.now + 1) then
    raiseEvent 2 27 0x1C1 (BitVec.ofNat 32 g) { s with violT := Tab.put 0 s.violT g (s.now + 1) }
  else s

/-! ### The firewall (R430, R431) -/

/-- Class of a request: Read 0, Write 1, Atomic 2; none for any other opcode. -/
def fwClass (p : Pkt) : Option Nat :=
  if p.op.toNat = 1 then some 0
  else if p.op.toNat = 2 ∨ p.op.toNat = 3 then some 1
  else if isFat p || isFred p then some 2 else none

/-- Bytes of a request from its W0 target, bits below its access size ignored. -/
def fwRange (p : Pkt) : Nat × Nat := (p.dst.toNat / reqAlign p * reqAlign p, reqBytes p)
/-- Whether rule `n` lets a guest's request pass. -/
def rulePasses (s : State) (g : Nat) (p : Pkt) (n : Nat) : Bool :=
  let c := s.reg (0x200008 + 16 * n)
  let sz := fld c 18 6
  let base := (s.reg64 (0x200000 + 16 * n)).toNat
  decide (fld c 31 1 = 1 ∧ fld c (28 + g) 1 = 1 ∧ fld c 0 12 ≠ 0 ∧ 16 ≤ sz ∧ sz ≤ 40) &&
    (match fwClass p with | some k => decide (fld c (24 + k) 1 = 1) | none => false) &&
    decide (base ≤ (fwRange p).1 ∧ (fwRange p).1 + (fwRange p).2 ≤ base + 2 ^ sz)

/-- Fields the guest port overwrites. -/
def asGuest (s : State) (g : Nat) (p : Pkt) : Pkt :=
  { p with srcFab := BitVec.ofNat 6 s.fabNum, srcEp := BitVec.ofNat 5 (guestEp g), eng := 2 }
/-- The request as the tongs issue it again: their own agent 1 + g, the rule's tag, EpochTag 0, ord Free. (DEDUCED, log 41) -/
def reissued (s : State) (g : Nat) (p : Pkt) (rule tag : Nat) : Pkt :=
  { p with
    srcFab := BitVec.ofNat 6 s.fabNum, srcEp := 4, srcCore := BitVec.ofNat 8 (1 + g), eng := 2, tag := BitVec.ofNat 8 tag
    ord := 1, epoch := 0, job := BitVec.ofNat 12 (s.rf (0x200008 + 16 * rule) 0 12)
    p1 := if p.op.toNat = 2 then 0 else p.p1 }

/-- Tags of a guest's re-issued requests that are out. -/
def guestTags (s : State) (g : Fin 3) : List Nat := (s.guestReq.filter (fun r => decide (r.2.1 = g))).map Prod.fst

/-- A request of a guest: checked, re-issued and remembered, or answered PERM. With 256 out the guest waits. (DEDUCED, log 41) -/
def guestAsks (g : Fin 3) (p : Pkt) (s : State) : State :=
  let q := asGuest s g.val p
  match (List.range 64).find? (rulePasses s g.val q) with
  | none => violation g.val (guestSend g (respPkt q 6 (ackCount q) false 0 []) s)
  | some n =>
    match (List.range 256).find? (fun t => !(guestTags s g).contains t) with
    | none => s
    | some t =>
      pushReq (reissued s g.val q n t) .engine 4 none { s with guestReq := s.guestReq ++ [(t, g, q)] }

/-- The packet a guest gets for a request and those merged into it at the gateway, as one request: a read of their line, or
an atomic of all their operands (R209, R211). (DEDUCED, log 41) -/
def fatOperand (p : Pkt) : Nat := if p.var.toNat = 12 then 1 else p.p0.toNat
def guestPkt (l : List Item) (p : Pkt) : Pkt :=
  if l.isEmpty then p
  else if p.op.toNat = 1 then { p with var := 1, dst := BitVec.ofNat 64 (p.dst.toNat / 64 * 64) }
  else
    { p with
      var := if p.var.toNat = 12 then 0 else p.var
      p0 := BitVec.ofNat 64 (l.foldl (fun v m => fatVal (if p.var.toNat = 12 then 0 else p.var.toNat) (8 * reqBytes p) v (fatOperand m.pkt) 0) (fatOperand p))
      len := if l.any (fun m => decide (m.pkt.len ≠ 0#4)) then 1 else p.len }
/-- A guest's answer completes a request and those merged into it: each read takes its part of the line, and each atomic the
old value with the operands before it (R211). -/
def guestReply (e : Nat) (it : Item) (p : Pkt) (s : State) : State :=
  let group := it :: s.merged it.id
  let n := 8 * reqBytes it.pkt
  if compStatus p ≠ 0 then respondAll e it (compStatus p) s
  else if it.pkt.op.toNat = 1 then
    let line := packNat p.data
    group.foldl (fun t m =>
      respondWith e m 0 1 false (BitVec.ofNat 64 (line / 2 ^ (8 * (reqOff m.pkt % 64)))) (if m.pkt.var.toNat = 0 then [] else p.data) t) s
  else
    (group.foldl (fun (acc : Nat × State) m =>
      (fatVal m.pkt.var.toNat n acc.1 m.pkt.p0.toNat 0, respondWith e m 0 1 false (BitVec.ofNat 64 acc.1) [] acc.2))
      (p.p0.toNat % 2 ^ n, s)).2

/-- A response of a guest: it passes when it matches a request its port has passed on and that is still outstanding. -/
def guestAnswers (g : Fin 3) (p : Pkt) (s : State) : State :=
  let e := guestEp g.val
  match s.pool.find? (fun i => decide (i.loc = .ready e) && sameSrc i.pkt p && decide (i.pkt.tag = p.tag)) with
  | some it =>
    if (s.merged it.id).isEmpty then
      sendBack e it { p with srcFab := it.pkt.srcFab, job := it.pkt.job, seq := it.pkt.seq } (s.dropItem it.id)
    else guestReply e it p s
  | none => violation g.val s

/-- GUEST_REQUEST (R430): a packet of the guest die. -/
def execGuestRequest (g : Fin 3) (p : Pkt) (s : State) : Host.Outcome State Fault Refusal :=
  alive (fun s => if !guestOn s g.val then s else if isResp p then guestAnswers g p s else guestAsks g p s) s

/-- The completion of a re-issued request goes back to its guest. (DEDUCED, log 41) -/
def guestCompletion (g : Fin 3) (r : Pkt) (s : State) : State :=
  match s.guestReq.find? (fun q => decide (q.1 = r.tag.toNat ∧ q.2.1 = g)) with
  | none => s
  | some q =>
    guestSend g { r with srcFab := q.2.2.srcFab, srcEp := q.2.2.srcEp, srcCore := q.2.2.srcCore, tag := q.2.2.tag, seq := q.2.2.seq,
                         job := q.2.2.job, dst := q.2.2.dst }
      { s with guestReq := s.guestReq.filter (fun x => decide (x ≠ q)) }

/-! ### Requests for a guest (R431) -/

/-- The endpoint whose inbound allow judges a request: its source's, or the gateway's that delivered it, which holds the
credit of a data bundle, and on L0 is the one the source's route names (R205, R252). -/
def inboundEp (s : State) (it : Item) : Nat :=
  match s.ownSrc it.pkt, it.cred with
  | false, some c => c.1
  | _, _ => srcPort s it.pkt
/-- A request at a guest's port: passed on, answered with the status that stops it, or a violation. (DEDUCED, log 41) -/
def guestInbound (g : Fin 3) (id : Nat) (s : State) : State :=
  match s.item id with
  | none => s
  | some it =>
    let e := guestEp g.val
    if it.loc ≠ .home e ∨ it.held = true ∨ it.lead.isSome = true ∨ isResp it.pkt = true then s
    else if s.armed it.pkt.job.toNat then respondAll e it 9 s
    else if s.funcState 14 ≠ 0 then respondAll e it 2 s
    else if !guestOn s g.val then respondAll e it 3 s
    else
      let ok := match fwClass it.pkt with
        | some k => decide (s.rf (0x202000 + 0x80 * g.val + 4 * inboundEp s it) k 1 = 1)
        | none => false
      if ok then guestSend g (guestPkt (s.merged id) it.pkt) ((oweCredit id s).modItem id (fun i => { i with loc := .ready e }))
      else violation g.val (respondAll e it 6 s)
/-- GUEST_INBOUND_REQUEST (R431). -/
def execGuestInboundRequest (g : Fin 3) (id : Nat) (s : State) : Host.Outcome State Fault Refusal :=
  alive (guestInbound g id) s

end Sys2Proof.Machine
end

