-- ==== Sys2Proof/Machine/HomeRows.lean ====
section
/-! DEFINITION. Reads and writes at a home (R173–R175, R184, R190), and completions at their requester (R30–R32, R181,
R404, R430). -/

namespace Sys2Proof.Machine

/-! ### At the home -/

/-- The control address of a request to the site-control range or the tongs' mirror (R173, R175). -/
def ctrlAddr (p : Pkt) : Option Nat :=
  match reqTgt p with
  | .ctrl a => some a
  | .mirror a => some a
  | _ => none
/-- Read `n` consecutive words through the fabric. (DEDUCED, log 37) -/
def ctrlReads : Nat → Nat → State → List Word × State
  | 0, _, s => ([], s)
  | n + 1, a, s =>
    let r := csRead .fabric a s
    let q := ctrlReads n (a + 4) r.2
    (r.1 :: q.1, q.2)
/-- Write `n` consecutive words. (DEDUCED, log 37) -/
def ctrlWrites : Nat → Nat → Nat → State → State
  | 0, _, _, s => s
  | n + 1, a, v, s => ctrlWrites n (a + 4) (v / 2 ^ 32) (csWrite .fabric a (BitVec.ofNat 32 v) s)

/-- RD: the site-control range and the mirror show registers, to each of the requests merged at a gateway (R211); everything
else is memory, at most `cap` lines of a core store at once. -/
def readAny (cap : Nat) (e : Nat) (it : Item) (s : State) : State :=
  match ctrlAddr it.pkt with
  | some _ => (it :: s.merged it.id).foldl (fun t m =>
    match ctrlAddr m.pkt with
    | some a =>
      let r := ctrlReads (reqBytes m.pkt / 4) a t
      let v := r.1.foldr (fun w n => w.toNat + 2 ^ 32 * n) 0
      respondWith e m 0 1 false (BitVec.ofNat 64 v) (if m.pkt.var.toNat = 0 then [] else unpackNat v (reqBytes m.pkt / 64)) r.2
    | none => t) s
  | none => readStore cap e it s
/-- WR8, WR, MCS8 and MCS. -/
def writeAny (cap : Nat) (e : Nat) (it : Item) (s : State) : State :=
  match ctrlAddr it.pkt with
  | some a => answer e it 0 0 (ctrlWrites (reqBytes it.pkt / 4) a (storeVal it.pkt) s)
  | none => storeHere cap e it s

/-- An opcode of R179. -/
def listedOp (o : Nat) : Bool :=
  decide ((1 ≤ o ∧ o ≤ 5) ∨ (8 ≤ o ∧ o ≤ 11) ∨ (0x10 ≤ o ∧ o ≤ 0x13) ∨ (0x18 ≤ o ∧ o ≤ 0x1A) ∨ (0x20 ≤ o ∧ o ≤ 0x22))
def opIs (n : Nat) (p : Pkt) : Bool := decide (p.op.toNat = n)

/-- RD (R190); a request of no listed opcode is answered PERM here (R179). -/
def execRd (id : Nat) (s : State) : Host.Outcome State Fault Refusal :=
  alive (applyAt id (fun p => opIs 1 p || !listedOp p.op.toNat) readAny) s
/-- WR8 (R184). -/
def execWr8 (id : Nat) (s : State) : Host.Outcome State Fault Refusal := alive (applyAt id (opIs 2) writeAny) s
/-- WR (R184). -/
def execWr (id : Nat) (s : State) : Host.Outcome State Fault Refusal := alive (applyAt id (opIs 3) writeAny) s
/-- MCS8 (R215). -/
def execMcs8 (id : Nat) (s : State) : Host.Outcome State Fault Refusal := alive (applyAt id (opIs 4) writeAny) s
/-- MCS (R215). -/
def execMcs (id : Nat) (s : State) : Host.Outcome State Fault Refusal := alive (applyAt id (opIs 5) writeAny) s

/-! ### At the requester -/

/-- A response to the tongs: the Spasen agent's is 0, that of guest `g` is 1 + g. -/
def tongsResp (p : Pkt) (s : State) : State :=
  match p.srcCore.toNat with
  | 0 => spsCompletion p s
  | 1 => guestCompletion 0 p s
  | 2 => guestCompletion 1 p s
  | 3 => guestCompletion 2 p s
  | _ => s
/-- A response meets its requester and is matched to its entry; that of a source which has left service is discarded
(R181, R202). -/
def deliver (op : Nat) (id : Nat) (s : State) : State :=
  match s.item id with
  | none => s
  | some it =>
    if it.loc ≠ .resp ∨ it.pkt.op.toNat ≠ op then s
    else if it.dead then s.dropItem id
    else match it.pkt.eng.toNat with
      | 0 => coreResp (linesNow s (srcCoreIdx it.pkt) it) it s
      | 1 => bulkResp (srcCoreIdx it.pkt) it.pkt (s.dropItem id)
      | _ => if it.pkt.srcEp = 4#5 then tongsResp it.pkt (s.dropItem id) else s.dropItem id

/-- ACK (R181). -/
def execAck (id : Nat) (s : State) : Host.Outcome State Fault Refusal := alive (deliver 0x20 id) s
/-- DATA8 (R181). -/
def execData8 (id : Nat) (s : State) : Host.Outcome State Fault Refusal := alive (deliver 0x21 id) s
/-- DATA (R181). -/
def execData (id : Nat) (s : State) : Host.Outcome State Fault Refusal := alive (deliver 0x22 id) s

/-! ### Bank yields (R26) -/

/-- Whether an engine-side access, the one its bank takes next, has been refused it for 256 consecutive cycles. (DESIGN
CHOICE, log 12) -/
def refusedAt (s : State) (c bank : Nat) (it : Item) : Bool :=
  let k := s.core c
  decide (engineBank s c it = some bank) && firstAtBank s c it && decide (256 ≤ Tab.get 0 k.kept bank ∧ it.cyc + 256 ≤ k.cycles)
/-- One line of an engine-side access is moved. -/
def moveLine (c : Nat) (it : Item) (s : State) : State :=
  match it.loc with
  | .engine => readBlock 1 c it s
  | .resp => coreResp 1 it s
  | _ =>
    applyNow 1 it (fun _ => true) (fun e i t =>
      match i.pkt.op.toNat with
      | 1 => readAny 1 e i t
      | o => if o ≤ 5 then writeAny 1 e i t else if isFat i.pkt then atomicHere e i t else if isFred i.pkt then reduceHere 1 e i t else t) s
/-- An access refused its bank for 256 cycles takes it, and a core whose pipeline needs it stalls one cycle, in which fetch
may read another bank (R19, R26, R27). (DESIGN CHOICE, log 12) -/
def bankYield (c bank id : Nat) (s : State) : State :=
  match s.item id with
  | none => s
  | some it =>
    if !refusedAt s c bank it then s
    else if needsBank s c bank then
      (moveLine c it s).modCore c (fun k => fetchAhead s.mem c (2 ^ bank) (stallFor 3 1 k))
    else moveLine c it s
/-- BANK_YIELD (R26), of the access named. -/
def execBankYield (c : CoreId) (bank : Fin 4) (id : Nat) (s : State) : Host.Outcome State Fault Refusal :=
  alive (bankYield c.val bank.val id) s

end Sys2Proof.Machine
end

