-- ==== Sys2Proof/Machine/Boot.lean ====
section
/-! DEFINITION. The start sequence and recovery (R416–R425), and entries to and wakes from NAP and STANDBY (R359–R364,
R417). -/

namespace Sys2Proof.Machine

/-! ### The image that boots (R419) -/

/-- Whether a slot's image verifies. -/
def imageVerifies (s : State) (x : StartEnv) (slot : Nat) : Bool := (if slot = 0 then x.sigA else x.sigB) && headerOk s slot
/-- The slot that boots, and whether it is the fallback. -/
def bootSlot (s : State) (x : StartEnv) : Option (Nat × Bool) :=
  let a := selectedSlot s
  if imageVerifies s x a then some (a, false)
  else if imageVerifies s x (1 - a) then some (1 - a, true) else none

/-! ### The configuration record and the lock point (R344, R355, R424) -/

/-- Whether an entry is applied: its register is RW or RWL, as SPS_CFG is only over Spasen (R415). -/
def entryOk (a : Nat) : Bool :=
  decide (wordAddr a ≠ 0x60004) && match regInfo (wordAddr a) with | some i => decide (i.rw ≠ 0 ∨ i.rwl ≠ 0) && inBlock (wordAddr a) | none => false
/-- Perform the entries from index `i`, and note the first that is skipped. -/
def applyEntries : List Word → Nat → Option Nat → State → Option Nat × State
  | a :: v :: rest, i, bad, s =>
    if entryOk a.toNat then applyEntries rest (i + 1) bad (csWrite .tongs a.toNat v s)
    else applyEntries rest (i + 1) (some (bad.getD i)) s
  | _, _, bad, s => (bad, s)
/-- Apply a configuration record's body; a bad one is ignored whole. -/
def applyConfig (body : List Word) (s : State) : State :=
  let n := (body.getD 1 0).toNat
  if body.getD 0 0 ≠ 1#32 ∨ body.length < 4 + 2 * n ∨ 65536 < n then raiseEvent 0 6 0x182 0 s
  else
    let r := applyEntries ((body.drop 4).take (2 * n)) 0 none s
    match r.1 with
    | some i => raiseWith 0 6 0x182 (BitVec.ofNat 32 i) r.2
    | none => r.2

/-- Whether the step table keeps the rules of R344. -/
def tableOk (s : State) : Bool :=
  (List.range 15).all (fun n =>
    let f := s.rf (0x40100 + 4 * n) 0 5
    decide (5 ≤ f ∧ f ≤ 19 ∧ 550 ≤ s.vmin n ∧ s.vmin n ≤ 900 ∧ f ≤ s.rf (0x40104 + 4 * n) 0 5 ∧ s.vmin n ≤ s.vmin (n + 1)))
/-- The lock point: the step table and the floors are judged, and regions and crucibles stand at their floor steps. (DEDUCED, log 30; DESIGN CHOICE, log 42) -/
def lockPoint (s : State) : State :=
  let s := if tableOk s then s else (s.resetRegs 0x40100 0x40140 (fun _ => false)).setRf 0x40000 29 1 1
  let sum := (List.range 42).foldl (fun n q => n + s.floorOf q) 0
  let s :=
    if (if s.rf 0x20000 0 1 = 1 then 17600 else 16000) < sum then
      let s := (List.range 42).foldl (fun t q =>
        let d := if q < 39 then fld (regReset (0x20200 + 4 * q)) 0 15
          else if t.guestFitted (q - 39) then 240 else 0
        t.setRf (0x20200 + 4 * q) 0 15 d) s
      raiseEvent 2 1 0x122 0 (s.setRf 0x20004 30 1 1)
    else s
  { s.setRf 0x300000 31 1 1 with locked := true }
/-- Every region and crucible runs at its floor step, or below it at a thermal cap, with nothing boosted (R354, R371). (DESIGN CHOICE, log 42) -/
def atFloors (s : State) : State :=
  let s := (List.range 32).foldl (fun t r =>
    ((t.setReg (0x20300 + 4 * r) (BitVec.ofNat 32 (t.floorStep r * 2 ^ 16))).setRf (0x40200 + 4 * r) 0 4 (min (t.floorStep r) (t.capOf r))).setRf
      (0x40200 + 4 * r) 12 1 0) s
  let s := (List.range 4).foldl (fun t k =>
    (t.setReg (0x20380 + 4 * k) (BitVec.ofNat 32 (t.floorStep (32 + k) * 2 ^ 16))).setRf 0x40010 (2 * k) 2 (min (t.floorStep (32 + k)) (t.capOf (32 + k)))) s
  showPool ((List.range 8).foldl (fun t a => setVcore a (t.vNeed a false) t) { s with steps := [], reqs := [], missed := [] })

/-! ### The steps of a start (R416) -/

/-- COLD_RST_N has risen: a boundary-scan instruction drives the outputs no longer (R413). -/
def givenBack (s : State) : Pins :=
  if s.pins.coldRstN = false ∧ 3 ≤ s.tapIr.toNat ∧ s.tapIr.toNat ≤ 5 then resetPins s.pins else s.pins
/-- Step 1: straps, and C0's power-up state. -/
def startStraps (x : StartEnv) (s : State) : State :=
  let s := { s with tickRuns := true, env := some x, pins := { givenBack s with vio := true, role := x.role, pairEn := x.pairEn, smbAddr := x.smbAddr, coldRstN := true } }
  if x.pairEn then s else s.setRf 0x500004 31 1 1

/-- Step 3: the fuses are measured. (DESIGN CHOICE, log 39) -/
def measureFuses (s : State) : State :=
  let root (r : BitVec 256) : List Word := (List.range 8).map (fun w => r.extractLsb' (32 * w) 32)
  extendMeas 0 (Config.measured 0 ([BitVec.ofNat 32 (s.fuses.revoked.foldl (fun n k => n + 2 ^ k) 0),
    s.fuses.policy.zeroExtend 32, BitVec.ofNat 32 s.fuses.spent] ++ root s.fuses.rootA ++ root s.fuses.rootB ++
    s.fuses.vers.map (fun v => v.zeroExtend 32))) s

/-- Steps 4 and 5: the image that boots, its header and firmware, is measured. -/
def startImage (slot : Nat) (fallback : Bool) (s : State) : State :=
  let im := (imageIn s slot).getD (0, 0, 0)
  let s := ((s.setRf 0x300000 25 1 slot).setRf 0x300000 24 1 im.1).setRf 0x300000 27 1 (if fallback then 1 else 0)
  let s := extendMeas 1 ((((slotRec s slot).map FlashRec.body).getD []).take (128 + im.2.2)) { s with slotBoot := slot }
  if fallback then raiseEvent 0 7 0x1A0 0 s else s

def recBody (s : State) (kind : Nat) : List Byte := ((newestRec s kind).map FlashRec.body).getD []
/-- The restored calibration image of a fast start: the flash's calibration record, where it passes R338. -/
def restoreImage (s : State) (x : StartEnv) : Option (List Word) :=
  (newestRec s 4).bind (fun r =>
    if imageOk (byteWords r.body) s.fuses.serial x.hearthTemp then some (byteWords r.body) else none)

/-- Whether debug access is open: by DebugPolicy, or by a token for this device and its SecVersion (R425, R428). -/
def debugOpens (s : State) (x : StartEnv) : Bool :=
  let w := byteWords ((recBody s 5).take 24)
  let token := x.tokenOk && decide (w.getD 0 0 = 1#32 ∧ (recBody s 5).length = 29920 ∧ w.getD 3 0 ++ w.getD 2 0 = s.fuses.serial ∧
    (w.getD 4 0).toNat = fusedVersion s) && keyOk s (w.getD 5 0).toNat ((recBody s 5).drop 24 |>.take 64)
  decide (s.fuses.policy = 2#2) || (decide (s.fuses.policy = 1#2) && token)
/-- The debug state is measured, and shown where it is open (R421, R428). -/
def startDebug (x : StartEnv) (s : State) : State :=
  let o := debugOpens s x
  let s := extendMeas 5 (Config.measured 5 ([s.fuses.policy.zeroExtend 32, if o then 1 else 0] ++ byteWords (recBody s 5))) s
  if o then raiseEvent 0 7 0x1A3 0 (s.setRf 0x300000 26 1 1) else s

/-- The Spasen ports train (R397). -/
def startSpasen (x : StartEnv) (s : State) : State :=
  (s.setRf 0x60000 0 2 (if x.upSignal then 2 else 1)).setRf 0x60000 2 2 (if x.dnSignal then 2 else 1)
/-- Records found uncommitted or corrupt are counted (R423). -/
def noteIgnored (n : Nat) (s : State) : State :=
  (List.range n).foldl (fun t i => raiseEvent 0 6 0x180 (BitVec.ofNat 32 i) (t.incRf 0x400004 16 16 1)) s
/-- The records that steps 4 and 5 read: the slot selections, and the images of the slots tried. (DESIGN CHOICE, log 44) -/
def readImages (x : StartEnv) (s : State) : State :=
  let a := selectedSlot s
  noteIgnored (badRecords s (fun r => decide (r.kind = 2) ||
    (decide (r.kind = 1) && (decide (r.slot = a) || !imageVerifies s x a)))) s
/-- Step 6: records read and measured, and the Spasen ports. -/
def startRecords (x : StartEnv) (s : State) : State :=
  let s := noteIgnored (badRecords s (fun r => decide (2 < r.kind)) + x.badRecs) s
  let s := extendMeas 2 (recBody s 3) s
  let s := extendMeas 3 (if (restoreImage s x).isSome then recBody s 4 else []) s
  startSpasen x (startDebug x s)
def startHbm (x : StartEnv) (s : State) : State :=
  (List.range 4).foldl (fun t k => coldInit k (x.hbmFail.any (fun q => decide (q.val = k))) t) s

/-- Sensors without valid calibration fuses (R369). -/
def startSensors (uncal : List SensorId) (s : State) : State :=
  uncal.foldl (fun t n =>
    raiseEvent 0 2 0x147 (BitVec.ofNat 32 n.val)
      { t.setRf 0x30000 31 1 1 with sensors := Tab.put Sensor.reset t.sensors n.val { t.sensor n.val with uncal := true } }) s

/-- What outlives a calibration run of a lane, where the device was calibrated before: its recoveries, and whether it is out or
failed (R340). -/
def keptLanes (o old : Optics) : Tab (Option OptLane) :=
  old.lanes.map (fun e => (e.1, e.2.map (fun x => { laneIn o e.1 with
    out := x.out, relocks := x.relocks, lastRet := x.lastRet, gone := x.gone, fails := x.fails, calAt := x.calAt, calCrc := x.calCrc })))
/-- Step 8: the hearth is calibrated, fast from an image or cold, on warm combs (R330, R334–R338). (DESIGN CHOICE, log 21, log 42) -/
def calibrate (image : Option (List Word)) (refused : Option Nat) (x : StartEnv) (s : State) : State :=
  let fast := image.isSome
  let l := image.getD []
  let bad := if fast then ((List.range laneCount).map noLane).filter (fun k => !restoredOk l k) else []
  let old := s.optics
  let o : Optics := ⟨true, old.runs + 1, l, []⟩
  let prev (k : Nat) : OptLane :=
    if fast && restoredOk l k then laneIn o k else if old.done then laneIn old k else factoryLane k (laneIn o k)
  let s := { warmCombs s with optics := { o with lanes := keptLanes o old } }
  let s := (s.setRf 0xA0000 31 1 1).setRf 0xA0000 29 2 (if fast then 1 else refused.getD 0)
  let s := s.setRf 0xA0000 16 13 (min bad.length 8191)
  let s := if refused.isSome then raiseEvent 0 25 0x0C4 0 s else s
  let s := bad.foldl (fun t k => logCal (laneNamed k) (restoredReason l k) t) s
  x.cals.foldl (fun t c => startCal prev c t) s

/-- The modules of one guest die train, and it gives its identity (R320, R429). (DEDUCED, log 25) -/
def trainGuest (s : State) (g : Fin 3 × BitVec 4 × List Word) : State :=
  let a := 0x203000 + 0x40 * g.1.val
  let s := s.setRf a 0 4 g.2.1.toNat
  if g.2.1 = 0#4 then raiseEvent 1 29 0x0A2 14 s
  else (List.range 8).foldl (fun t w => t.setReg (a + 0x20 + 4 * w) (g.2.2.getD w 0)) (s.setRf a 31 1 1)
/-- One guest die of a start: its floor too (R353). -/
def startGuest (s : State) (g : Fin 3 × BitVec 4 × List Word) : State :=
  trainGuest (s.setRf (0x20200 + 4 * (39 + g.1.val)) 0 15 240) g
/-- Step 9, the guests: their identities are measured, 32 zero bytes for an empty site (R421). -/
def startGuests (x : StartEnv) (s : State) : State :=
  let s := x.guests.foldl startGuest s
  (List.range 3).foldl (fun t g =>
    extendMeas 4 (wordBytes ((List.range 8).map (fun w => t.reg (0x203020 + 0x40 * g + 4 * w)))) t) s

/-- Step 10: every core is tested and every memory zeroed (R64, R270). -/
def testAndZero (x : StartEnv) (s : State) : State :=
  let s := { s with mem := [], poison := [], spec := [], epochs := [] }
  x.bistFail.foldl (fun t c => fenceCore c.val t) s

/-- SEC_IDKEY (R422). -/
def startKey (s : State) : State :=
  (List.range 16).foldl (fun t w => t.setReg (0x300500 + 4 * w) ((Config.identityKey (identityBytes s)).extractLsb' (32 * w) 32)) s

/-- The configuration record, applied at step 11 of a start. -/
def startConfig (s : State) : State := match newestRec s 3 with | some r => applyConfig (byteWords r.body) s | none => s

/-- The start ends in recovery, with T0's comb of role 7 lit (R418). (DESIGN CHOICE, log 42) -/
def enterRecovery (s : State) : State :=
  raiseEvent 2 7 0x1A1 0 { (s.setRf 0x300000 29 2 2).setRf (combPos 0 7) 17 9 250 with recovery := true }

/-- START_SEQUENCE (R416): the whole start, to completion or recovery. A step that is not reached does nothing (R10). (DESIGN CHOICE, log 1, log 36, log 39, log 42) -/
def startNow (x : StartEnv) (s : State) : State :=
  if started s then s
  else
    let s := startStraps x s
    if !x.fuseOk then enterRecovery (startSpasen x (startSensors x.uncal s))
    else
      let s := readImages x (measureFuses s)
      match bootSlot s x with
      | none => enterRecovery (startSpasen x (startSensors x.uncal s))
      | some (slot, fb) =>
        let s := startHbm x (startRecords x (startImage slot fb s))
        let image := restoreImage s x
        let s := calibrate image (if image.isSome then none else some (if (newestRec s 4).isSome then 2 else 0)) x (startSensors x.uncal s)
        let s := startGuests x { startLinks (x.lanes ++ unlocked x.cals) s with tick := 0 }
        let s := startKey (testAndZero x s)
        let s := atFloors (lockPoint (startConfig s))
        { (s.setRf 0x300000 29 2 1).setRf 0x300000 28 1 (if image.isSome then 1 else 0) with beatAt := s.now }
def execStartSequence (env : StartEnv) (s : State) : Host.Outcome State Fault Refusal := alive (startNow env) s

/-- The straps as the board has them, which no row brings to a start that does not complete: a free value (R299).
(DESIGN CHOICE, log 48) -/
def freeStraps (w : Word) (p : Pins) : Pins :=
  { p with vio := true, role := bit w 0, pairEn := bit w 1, smbAddr := w.extractLsb' 2 3, coldRstN := true }
/-- The sensors whose calibration fuses fail their check at such a start: free values (R369). (DESIGN CHOICE, log 48) -/
def freeUncal (n : Nat) : List SensorId := (List.finRange 364).filter (fun i => bit (Config.freeWord (n + i.val / 32)) (i.val % 32))
/-- START_TIMEOUT (R416, R418): step 12 is not reached within 2 s. The straps were sampled at step 1, and the count has run
since the PLL locked at step 2 (R299, R342). (DESIGN CHOICE, log 48) -/
def startLate (s : State) : State :=
  if started s || decide (s.now < s.startAt + 500000000) then s
  else
    let w := takeFree s
    let uncal := freeUncal w.2.free
    let s := { w.2 with
      free := w.2.free + 12
      tickRuns := true
      tick := BitVec.ofNat 48 (s.now - s.startAt - 500000)
      pins := freeStraps w.1 (givenBack s) }
    let s := if s.pins.pairEn then s else s.setRf 0x500004 31 1 1
    enterRecovery (startSensors uncal ((s.setRf 0x60000 0 2 1).setRf 0x60000 2 2 1))
def execStartTimeout (s : State) : Host.Outcome State Fault Refusal := alive startLate s

/-! ### STANDBY (R359, R363, R364) -/

/-- Registers of the save list. (DEDUCED, log 43) -/
def onSaveList (a : Nat) : Bool :=
  let h := a / 0x10000
  if 0x10 ≤ h ∧ h ≤ 0x17 then
    let o := a % 0x10000
    decide ((0x100 ≤ o ∧ o < 0x140) ∨ (0xA000 ≤ o ∧ o < 0xA400) ∨ (0xB000 ≤ o ∧ o < 0xB100)) ||
      [0x8000, 0x9000, 0xA400, 0xA800, 0xC000].contains o
  else if h = 0xC then
    let o := a % 0x4000
    decide (0x2000 ≤ o ∧ o < 0x2400) || [0x0, 0x2400, 0x2800, 0x3000].contains o
  else if h = 9 then
    (decide (a < 0x94000) && decide (0x100 ≤ a % 0x1000 ∧ a % 0x1000 < 0x400 ∧ a % 0x40 = 0)) ||
      decide (0x94000 ≤ a ∧ a < 0x94100) || decide (a = 0x94200)
  else if h = 8 then (decide (0x81000 ≤ a ∧ a < 0x81500 ∧ a % 0x40 = 0)) || decide (a = 0x88000 ∨ a = 0x88004)
  else if h = 4 then decide (a = 0x40004 ∨ (0x40100 ≤ a ∧ a < 0x40140))
  else if h = 2 then decide (a = 0x20000 ∨ (0x20100 ≤ a ∧ a < 0x202A8))
  else decide (a = 0xA0004)

/-- What an unpowered block shows again as it stands in the world, bridge waveguides and loops, comb positions, and failed
pseudo-channels (R287), what only a cold reset clears, the die links' and the optical controller's registers (R322, R340), and what nothing but its own release or a reset takes away: armed tags (R224) and fenced cores
(R64). (DEDUCED, log 43) -/
def staysPut (a : Nat) : Bool :=
  decide ((0x8F000 ≤ a ∧ a < 0x8F030) ∨ (0x100000 ≤ a ∧ a < 0x180000 ∧ 0x8010 ≤ a % 0x10000 ∧ a % 0x10000 < 0x8030)) ||
  decide (a = 0x80000 ∨ (0x80020 ≤ a ∧ a < 0x80040) ∨ (0x88000 ≤ a ∧ a < 0x88064) ∨ (0xA0000 ≤ a ∧ a < 0xA1400) ∨
    (a / 0x10000 = 0xC ∧ 0x40 ≤ a % 0x4000 ∧ a % 0x4000 < 0x50))

/-- The host's requests that the fabric no longer answers complete NOT_POWERED; its CSR requests are performed. (DEDUCED, log 43) -/
def failHost (s : State) : State :=
  let fail (t : State) (r : SpsReq) : State :=
    if r.hdr.op.toNat ≤ 2 then t
    else memDone { r with stats := [(0, 3)], data := Tab.putAll 0 [] 0 (List.replicate (r.hdr.len.toNat / 4) (BitVec.allOnes 32)) } t
  csrHead 64 (s.spsReqs.foldl fail { s with spsReqs := s.spsReqs.filter (fun r => decide (r.hdr.op.toNat ≤ 2)) })

/-- Every block has accepted STANDBY: the save list is written and power drops; the fabric number and the always-on
and tongs registers stay. (DEDUCED, log 43) -/
def enterStandby (s : State) : State :=
  let saved := s.regs.filter (fun e => onSaveList e.1)
  let s := ((s.setRf 0x50010 31 1 1).setRf 0x50010 0 16 13283).setRf 0x50004 2 1 0
  let s := (s.resetRegs 0x80000 0xB0000 staysPut).resetRegs 0xC0000 0xD0000 staysPut
  let s := (List.range 4).foldl (fun t k => showFailed k t) (s.resetRegs 0x100000 0x180000 staysPut)
  failHost { s.setRf 0x50004 0 2 2 with
    saveRegs := saved, mem := []
    cores := s.cores.filterMap (fun e => if e.2.st = .fenced then some (e.1, { Core.reset with st := .fenced }) else none), poison := [], spec := [], epochs := [], own := [], pool := [], mcasts := []
    credUsed := [], credOwed := [], grants := [], greqs := [], streams := [], portT := [], rows := [], aged := []
    refFrom := [], refNext := [], wires := [], carried := [], scrubAt := [], scrubT := [], guestReq := [], hbmGood := [] }
/-- STANDBY_ENTRY (R359). -/
def execStandbyEntry (delay : Option (BitVec 5)) (s : State) : Host.Outcome State Fault Refusal :=
  alive (fun s => if 2 ≤ s.devState then s else askEntry 2 delay enterStandby (devTarget 2 s)) s

/-- HANDSHAKE_RETRY (R362): the tongs ask the blocks of the oldest entry again. -/
def retryEntry (delay : Option (BitVec 5)) (s : State) : State :=
  match s.entries with
  | [] => s
  | (key, _) :: _ =>
    if 100 ≤ key then askEntry key delay (enterRegion ((key - 100) / 4) ((key - 100) % 4)) s
    else askEntry key delay (if key = 1 then enterNap else enterStandby) s
def execHandshakeRetry (delay : Option (BitVec 5)) (s : State) : Host.Outcome State Fault Refusal := alive (retryEntry delay) s

/-! ### Wakes (R318, R359, R417) -/

/-- Links whose sides are powered again are compared with their records. (DEDUCED, log 43) -/
def compareAll (fs : List Nat) (x : StartEnv) (s : State) : State := fs.foldl (fun t f => compareFunc f (x.lanes ++ unlocked x.cals) t) s
/-- The saved registers come back, and functions that were Offline are fenced again. (DEDUCED, log 43) -/
def restoreSaved (s : State) : State :=
  let off (a : Nat) : Bool := !onSaveList a
  let s := (s.saveRegs.filter (fun e => onSaveList e.1)).foldl (fun t e => t.setReg e.1 e.2) ((s.resetRegs 0x20000 0x202A8 off).resetRegs 0x40000 0x40140 off)
  (List.range 15).foldl (fun t f => if t.funcState f = 2 then fenceEps f true t else t) s
/-- Enabled ports of a device with a fabric number train again. (DEDUCED, log 43) -/
def retrainPorts (s : State) : State :=
  (List.range 48).foldl (fun t n =>
    if portEnabled t (n / 12) (n % 12) then
      (halvesOf t (n / 12) (n % 12)).foldl (fun t h => beginTraining (n / 12) (n % 12) h t) t
    else t) s

/-- A wake from STANDBY: steps 7–12 as a fast start from the saved image. The guests' modules train and the configuration
record is applied; then the saved registers come back. The lock stays, and with it the closed measurements; no count is
zeroed (R342). (DEDUCED, log 43) -/
def wakeStandby (x : StartEnv) (s : State) : State :=
  let ok := decide (s.rf 0x50010 31 1 = 1)
  let s := (s.setRf 0x50004 0 2 0).setRf 0x50004 2 1 0
  let image := if ok then some (imageList ⟨s.images, hearthTemp s, s.optics⟩ s.fuses.serial) else none
  let s := calibrate image none x (startHbm x s)
  let s := startConfig (testAndZero x (x.guests.foldl trainGuest (compareAll (List.range 15) x s)))
  let s := if ok then restoreSaved s else s
  retrainPorts (atFloors (s.setRf 0x300000 28 1 (if ok then 1 else 0)))
/-- A wake from NAP: what was in retention goes on, and the stacks leave self-refresh (R273). -/
def wakeNap (x : StartEnv) (s : State) : State :=
  let s := (List.range 4).foldl (fun t k => if t.rf (crucBase k + 4) 12 1 = 1 then startRefresh k t else t) s
  compareAll ((List.range 12).map (· + 1)) x ((s.setRf 0x50004 0 2 0).setRf 0x50004 2 1 0)
/-- WAKE (R359): begun by this write of RUN, or by an earlier one. -/
def wakeNow (x : StartEnv) (s : State) : State :=
  let st := s.devState
  if st = 1 then wakeNap x (devTarget 0 s) else if st = 2 then wakeStandby x (devTarget 0 s) else s
def execWake (env : StartEnv) (s : State) : Host.Outcome State Fault Refusal := alive (wakeNow env) s

end Sys2Proof.Machine
end

