-- ==== Sys2Proof/Machine/CoreRows.lean ====
section
/-! DEFINITION. Core control as commands. -/

namespace Sys2Proof.Machine

/-- Whether a site's control registers answer: the device is in RUN, the site has accepted no lower state (R362), and neither
quench nor recovery keeps them out (R365, R390, R418). -/
def sitesOn (site : Nat) (s : State) : Bool := decide (s.blockState (8 + site) = 0) && !s.quench && !s.recovery

/-- LOOP_BACK_EDGE (R51): the back edges due after the bundle last issued are taken. -/
def execLoopBackEdge (c : CoreId) (s : State) : Host.Outcome State Fault Refusal := .next (if s.quench then s else s.modCore c settle)

/-- BREAKPOINT_STOP (R68). -/
def execBreakpointStop (c : CoreId) (s : State) : Host.Outcome State Fault Refusal :=
  .next (if mayIssue s c && breakHit s c (settle (s.core c)) then breakStop c (s.modCore c settle) else s)

/-- START (R65). -/
def execStart (c : CoreId) (s : State) : Host.Outcome State Fault Refusal :=
  .next (if sitesOn (c.val / 256) s then startCmd c s else s)

/-- STOP (R67). -/
def execStop (c : CoreId) (s : State) : Host.Outcome State Fault Refusal :=
  .next (if sitesOn (c.val / 256) s then stopCmd c s else s)

/-- STOP_DRAIN_DONE (R67). -/
def execStopDrainDone (c : CoreId) (s : State) : Host.Outcome State Fault Refusal := .next (if s.quench then s else drainDone c s)

/-- RESUME (R67). -/
def execResume (c : CoreId) (s : State) : Host.Outcome State Fault Refusal :=
  .next (if sitesOn (c.val / 256) s then resumeCmd c s else s)

/-- STEP (R67). -/
def execStep (c : CoreId) (s : State) : Host.Outcome State Fault Refusal :=
  .next (if sitesOn (c.val / 256) s then stepCmd c s else s)

/-- SITE_GO (R69). -/
def execSiteGo (site : SiteId) (s : State) : Host.Outcome State Fault Refusal :=
  .next (if sitesOn site.val s then siteGoCmd site s else s)

/-- SITE_JOB_CFG_WRITE (R60). -/
def execSiteJobCfgWrite (site : SiteId) (n : Fin 8) (order : Bool) (val : Word) (s : State) :
    Host.Outcome State Fault Refusal :=
  .next (if sitesOn site.val s then jobSlotWrite site n order val s else s)

/-- CORE_FENCE (R64). -/
def execCoreFence (c : CoreId) (s : State) : Host.Outcome State Fault Refusal := .next (if s.quench then s else fenceCore c s)

/-- FENCE_TIMEOUT (R216). -/
def execFenceTimeout (c : CoreId) (s : State) : Host.Outcome State Fault Refusal := .next (if s.quench then s else fenceTimeoutNow c s)

/-- BILLET_LOAD_RETURN (R83). -/
def execBilletLoadReturn (c : CoreId) (s : State) : Host.Outcome State Fault Refusal := .next (if s.quench then s else billetReturn c s)

/-- BULK_PACKET_START (R36, R219). -/
def execBulkPacketStart (site : SiteId) (cluster : Fin 16) (s : State) : Host.Outcome State Fault Refusal :=
  .next (if s.quench then s else bulkStart site cluster s)

/-- DESCRIPTOR_COMPLETION (R37). -/
def execDescriptorCompletion (c : CoreId) (s : State) : Host.Outcome State Fault Refusal := .next (if s.quench then s else descComplete c s)

end Sys2Proof.Machine
end

