-- ==== Sys2Proof/Machine/FabricRows.lean ====
section
/-! DEFINITION. Fabric instructions as commands. -/

namespace Sys2Proof.Machine

/-- FLD (R91). -/
def execFld (c : CoreId) (rd rs1 rs2 : BitVec 5) (cls : BitVec 3) (ord : BitVec 2) (flag : Bool) (size : BitVec 2) (hint : BitVec 3) (b : Word) (s : State) : Host.Outcome State Fault Refusal :=
  .next (issueBundle c (slotFld rd rs1 rs2 cls ord flag size hint) (decodeB b) (bundle (encF 0x30#6 rd rs1 rs2 cls ord flag size hint) b) s)

/-- FAT (R92). -/
def execFat (c : CoreId) (rd rs1 rs2 : BitVec 5) (cls : BitVec 3) (ord : BitVec 2) (flag : Bool) (size : BitVec 2) (hint : BitVec 3) (b : Word) (s : State) : Host.Outcome State Fault Refusal :=
  .next (issueBundle c (slotFat rd rs1 rs2 cls ord flag size hint) (decodeB b) (bundle (encF 0x32#6 rd rs1 rs2 cls ord flag size hint) b) s)

/-- FRED (R93). -/
def execFred (c : CoreId) (rd rs1 rs2 : BitVec 5) (cls : BitVec 3) (ord : BitVec 2) (flag : Bool) (size : BitVec 2) (hint : BitVec 3) (b : Word) (s : State) : Host.Outcome State Fault Refusal :=
  .next (issueBundle c (slotFred rd rs1 rs2 cls ord flag size hint) (decodeB b) (bundle (encF 0x33#6 rd rs1 rs2 cls ord flag size hint) b) s)

/-- FMCS (R94). -/
def execFmcs (c : CoreId) (rd rs1 rs2 : BitVec 5) (cls : BitVec 3) (ord : BitVec 2) (flag : Bool) (size : BitVec 2) (hint : BitVec 3) (b : Word) (s : State) : Host.Outcome State Fault Refusal :=
  .next (issueBundle c (slotFmcs rd rs1 rs2 cls ord flag size hint) (decodeB b) (bundle (encF 0x34#6 rd rs1 rs2 cls ord flag size hint) b) s)

/-- OWNX (R91). -/
def execOwnx (c : CoreId) (rd rs1 rs2 : BitVec 5) (cls : BitVec 3) (ord : BitVec 2) (flag : Bool) (size : BitVec 2) (hint : BitVec 3) (b : Word) (s : State) : Host.Outcome State Fault Refusal :=
  .next (issueBundle c (slotOwnx rd rs1 rs2 cls ord flag size hint) (decodeB b) (bundle (encF 0x36#6 rd rs1 rs2 cls ord flag size hint) b) s)

/-- OWNR (R91). -/
def execOwnr (c : CoreId) (rd rs1 rs2 : BitVec 5) (cls : BitVec 3) (ord : BitVec 2) (flag : Bool) (size : BitVec 2) (hint : BitVec 3) (b : Word) (s : State) : Host.Outcome State Fault Refusal :=
  .next (issueBundle c (slotOwnr rd rs1 rs2 cls ord flag size hint) (decodeB b) (bundle (encF 0x37#6 rd rs1 rs2 cls ord flag size hint) b) s)

/-- ECOMMIT (R95). -/
def execEcommit (c : CoreId) (rd rs1 rs2 : BitVec 5) (cls : BitVec 3) (ord : BitVec 2) (flag : Bool) (size : BitVec 2) (hint : BitVec 3) (b : Word) (s : State) : Host.Outcome State Fault Refusal :=
  .next (issueBundle c (slotEcommit rd rs1 rs2 cls ord flag size hint) (decodeB b) (bundle (encF 0x3A#6 rd rs1 rs2 cls ord flag size hint) b) s)

/-- BULKQ (R96). -/
def execBulkq (c : CoreId) (rd rs1 rs2 : BitVec 5) (cls : BitVec 3) (ord : BitVec 2) (flag : Bool) (size : BitVec 2) (hint : BitVec 3) (b : Word) (s : State) : Host.Outcome State Fault Refusal :=
  .next (issueBundle c (slotBulkq rd rs1 rs2 cls ord flag size hint) (decodeB b) (bundle (encF 0x3B#6 rd rs1 rs2 cls ord flag size hint) b) s)

/-- FST (R91). -/
def execFst (c : CoreId) (rd rs1 rs2 : BitVec 5) (cls : BitVec 3) (ord size : BitVec 2) (hint : BitVec 3) (b : Word) (s : State) : Host.Outcome State Fault Refusal :=
  .next (issueBundle c (slotFst rd rs1 rs2 cls ord size hint) (decodeB b) (bundle (encF 0x31#6 rd rs1 rs2 cls ord false size hint) b) s)

/-- FSTF (R87). -/
def execFstf (c : CoreId) (rd rs1 rs2 : BitVec 5) (cls : BitVec 3) (ord size : BitVec 2) (hint : BitVec 3) (b : Word) (s : State) : Host.Outcome State Fault Refusal :=
  .next (issueBundle c (slotFstf rd rs1 rs2 cls ord size hint) (decodeB b) (bundle (encF 0x31#6 rd rs1 rs2 cls ord true size hint) b) s)

/-- FFENCE (R98). -/
def execFfence (c : CoreId) (rd rs1 : BitVec 5) (imm : BitVec 16) (b : Word) (s : State) : Host.Outcome State Fault Refusal :=
  .next (issueBundle c (slotFfence rd rs1 imm) (decodeB b) (bundle (encI 0x35#6 rd rs1 imm) b) s)

/-- ETAG (R97). -/
def execEtag (c : CoreId) (rd rs1 : BitVec 5) (imm : BitVec 16) (b : Word) (s : State) : Host.Outcome State Fault Refusal :=
  .next (issueBundle c (slotEtag rd rs1 imm) (decodeB b) (bundle (encI 0x38#6 rd rs1 imm) b) s)

/-- EVIEW (R97). -/
def execEview (c : CoreId) (rd rs1 : BitVec 5) (imm : BitVec 16) (b : Word) (s : State) : Host.Outcome State Fault Refusal :=
  .next (issueBundle c (slotEview rd rs1 imm) (decodeB b) (bundle (encI 0x39#6 rd rs1 imm) b) s)

end Sys2Proof.Machine
end

