-- ==== Sys2Proof/Machine/Secure.lean ====
section
/-! DEFINITION. The command ring (R409, R422–R427): flash records, slot switches, attestation reports, fuse sequences
and saved calibration images, with their temperature windows (R375, R376). -/

namespace Sys2Proof.Machine

/-! ### The ring -/

/-- The entry at the head, unless the ring is empty. -/
def ringHead (s : State) : Option Nat :=
  if s.rf 0x60020 0 6 = s.rf 0x60024 0 6 then none else some (s.rf 0x60020 0 5)
def ringArg (s : State) (i w : Nat) : Nat := (s.reg (ringWord i w)).toNat
/-- Codes the firmware performs; in recovery the boot ROM performs two (R418, R427). -/
def ringCodes (s : State) : List Nat := if s.recovery then [1, 2] else [1, 2, 3, 4, 5]
/-- The head entry, if its code is `code`, goes to `f`; an entry of no code is invalid. Commands wait while the
firmware does not run (R385). (DEDUCED, log 44) -/
def ringDo (code : Nat) (f : Nat → State → State) (s : State) : State :=
  if !(firmwareRuns s || s.recovery) then s
  else
    match ringHead s with
    | none => s
    | some i =>
      let c := s.rf (ringWord i 0) 0 8
      if !(ringCodes s).contains c then ringFinish i 4 0 s else if c = code then f i s else s
def ringRefuse (i reason : Nat) (s : State) : State := ringFinish i 2 reason s
def ringDone (i : Nat) (s : State) : State := ringFinish i 1 0 s

/-- Whether every working tongs sensor reads from `lo` to `hi` °C; with all four failed none does (R370). -/
def tongsWithin (s : State) (lo hi : Int) : Bool :=
  (List.range 4).any (fun i => !(s.sensor (320 + i)).fail) && (List.range 4).all (fun i =>
    let x := s.sensor (320 + i)
    !x.works || decide (8 * lo ≤ x.temp.toInt ∧ x.temp.toInt ≤ 8 * hi))
/-- A flash write or fuse sequence refused by its window: bit 30 or 29 of THERM_STATUS, and event 0x146. -/
def windowRefused (b : Nat) (s : State) : State := raiseEvent 0 2 0x146 (BitVec.ofNat 32 b) (s.setRf 0x30000 b 1 1)

/-! ### Flash records (R423, R426) -/

/-- A record is committed: it becomes the current one of its kind, or its slot's image. -/
def commitRec (kind : Nat) (body : List Byte) (s : State) : State := putRec true kind body (makeRoom kind body.length s)
/-- A program or erase error: the open record is abandoned (R433). (DEDUCED, log 44) -/
def progFail (i : Nat) (s : State) : State := ringRefuse i 7 (raiseEvent 2 6 0x181 0 (abandonRec (s.incRf 0x400004 0 16 1)))
/-- The first `n` bytes of the staging buffer. -/
def staged (s : State) (n : Nat) : List Byte :=
  (wordBytes ((List.range ((n + 3) / 4)).map (fun k => s.reg (0x480000 + 4 * k)))).take n

/-- The chunk is programmed; the one that reaches RecordLen writes the commit word. (DEDUCED, log 44) -/
def flashChunk (i kind len n : Nat) (progOk : Bool) (old : List Byte) (s : State) : State :=
  if !progOk then progFail i { s with fOpen := some ⟨kind, len, old⟩ }
  else
    let body := old ++ staged s n
    if body.length = len then ringDone i (putRec true kind body { s with fOpen := none })
    else ringDone i { s with fOpen := some ⟨kind, len, body⟩ }
/-- The opening of a record: the slot that did not boot is erased for an image, and an area makes room. -/
def openRec (kind len : Nat) (s : State) : State :=
  if kind = 1 then { s with flash := s.flash.filter (fun r => !decide (r.kind = 1 ∧ r.slot = 1 - s.slotBoot)) } else makeRoom kind len s
/-- Command 0x01. (DEDUCED, log 44) -/
def flashWrite (progOk : Bool) (i : Nat) (s : State) : State :=
  let kind := ringArg s i 1
  let len := ringArg s i 2
  let off := ringArg s i 3
  let n := ringArg s i 4
  if ¬ [1, 3, 4, 5].contains kind ∨ n = 0 ∨ 524288 < n ∨ len < off + n ∨ areaBytes kind < recordBytes len then ringRefuse i 3 s
  else if off = 0 then
    if s.fOpen.isSome then ringRefuse i 2 s
    else if !recFits kind len s then ringRefuse i 3 s
    else if !tongsWithin s 0 85 then ringRefuse i 1 (windowRefused 30 s)
    else flashChunk i kind len n progOk [] (openRec kind len s)
  else
    match s.fOpen with
    | some r => if r.kind = kind ∧ r.len = len ∧ r.body.length = off then flashChunk i kind len n progOk r.body s else ringRefuse i 3 s
    | none => ringRefuse i 3 s
/-- FLASH_RECORD_WRITE (R426). -/
def execFlashRecordWrite (progOk : Bool) (s : State) : Host.Outcome State Fault Refusal :=
  alive (ringDo 1 (flashWrite progOk)) s

/-- Command 0x02: `verifies` says whether the signature of the slot's image verifies (R419). (DEDUCED, log 44) -/
def slotSwitch (verifies progOk : Bool) (i : Nat) (s : State) : State :=
  let n := ringArg s i 1
  if 1 < n then ringRefuse i 3 s
  else if !tongsWithin s 0 85 then ringRefuse i 1 (windowRefused 30 s)
  else if !(verifies && headerOk s n) then ringRefuse i 4 s
  else if !progOk then progFail i s
  else ringDone i (commitRec 2 [BitVec.ofNat 8 n, 0, 0, 0] s)
/-- FLASH_SLOT_SWITCH (R425, R427). -/
def execFlashSlotSwitch (verifies progOk : Bool) (s : State) : Host.Outcome State Fault Refusal :=
  alive (ringDo 2 (slotSwitch verifies progOk)) s

/-- Command 0x05: a snapshot is taken and its image becomes the calibration record (R337, R427). (DEDUCED, log 45) -/
def saveImage (progOk : Bool) (i : Nat) (s : State) : State :=
  if s.fOpen.isSome then ringRefuse i 2 s
  else if !tongsWithin s 0 85 then ringRefuse i 1 (windowRefused 30 s)
  else if !progOk then progFail i s
  else
    let t := takeSnapshot s
    ringDone i (commitRec 4 (wordBytes (imageList ⟨t.images, hearthTemp s, s.optics⟩ s.fuses.serial)) t)
/-- SAVE_CALIBRATION_IMAGE (R427). -/
def execSaveCalibrationImage (progOk : Bool) (s : State) : Host.Outcome State Fault Refusal :=
  alive (ringDo 5 (saveImage progOk)) s

/-! ### Attestation (R422) -/

/-- The report's first 768 bytes. -/
def reportBody (i : Nat) (s : State) : List Word :=
  [1, 768] ++ (List.range 8).map (fun k => s.reg (ringWord i (1 + k))) ++ [regNow s 0x8, regNow s 0xC, regNow s 0x0, regNow s 0x14] ++
    [regNow s 0x40008, regNow s 0x4000C] ++ (List.range 8).flatMap (measReg s) ++
    (List.range 3).flatMap (fun g => (List.range 8).map (fun w => s.reg (0x203020 + 0x40 * g + 4 * w))) ++
    [BitVec.ofNat 32 (fusedVersion s), regNow s 0x300000] ++ List.replicate 6 0 ++
    (List.range 16).map (fun w => s.reg (0x300500 + 4 * w))
/-- Command 0x03: the snapshot is taken and the report is being made, or the one being made is signed and done.
(DESIGN CHOICE, log 44) -/
def reportRun (i : Nat) (s : State) : State :=
  if s.rf 0x300000 21 1 = 1 then ringDone i (s.setRf 0x300000 21 1 0)
  else { s.setRf 0x300000 21 1 1 with report := reportBody i s }
/-- ATTESTATION_REPORT (R422). -/
def execAttestationReport (s : State) : Host.Outcome State Fault Refusal := alive (ringDo 3 reportRun) s

/-! ### Fuses (R376, R420, R427) -/

/-- The reason a fuse command is refused; 0 for none. -/
def fuseReason (kind v : Nat) (s : State) : Nat :=
  match kind with
  | 1 =>
    let top := match runningImage s with | some (_, x, _) => x | none => 0
    if v ≤ fusedVersion s ∨ top < v then 3 else if 32 ≤ s.fuses.vers.length + s.fuses.spent then 5 else 0
  | 2 =>
    let running := match runningImage s with | some (k, _) => decide (v = k) | none => false
    if 1 < v then 3 else if running || s.fuses.revoked.contains (1 - v) then 6 else 0
  | _ => 3
/-- The sequence ends well: the data bits, and the valid bit last. (DESIGN CHOICE, log 45) -/
def fuseBurn (q : FuseSeq) (s : State) : State :=
  { s with fuseSeq := none
           fuses := if q.kind = 1 then { s.fuses with vers := s.fuses.vers ++ [BitVec.ofNat 16 q.value] }
                    else { s.fuses with revoked := setAdd s.fuses.revoked q.value } }
/-- Command 0x04: the sequence begins, or the one under way ends. (DESIGN CHOICE, log 45) -/
def fuseRun (i : Nat) (s : State) : State :=
  match s.fuseSeq with
  | some q => ringDone i (fuseBurn q s)
  | none =>
    let kind := ringArg s i 1
    let v := ringArg s i 2
    let r := fuseReason kind v s
    if r ≠ 0 then ringRefuse i r s
    else if !tongsWithin s 10 60 then ringRefuse i 1 (windowRefused 29 s)
    else { s with fuseSeq := some ⟨kind, v, i⟩ }
/-- FUSE_SEQUENCE (R420). -/
def execFuseSequence (s : State) : Host.Outcome State Fault Refusal := alive (ringDo 4 fuseRun) s
/-- FUSE_WINDOW_CHECK (R376): out of the window, nothing more is burnt and the sequence ends as refused. (DESIGN CHOICE, log 45) -/
def fuseCheck (s : State) : State :=
  match s.fuseSeq with
  | some q => if tongsWithin s 10 60 then s else ringRefuse q.index 1 (windowRefused 29 (fuseSpent q s))
  | none => s
def execFuseWindowCheck (s : State) : Host.Outcome State Fault Refusal := alive fuseCheck s

end Sys2Proof.Machine
end

