-- ==== Sys2Proof/Machine/Manage.lean ====
section
/-! DEFINITION. SMBus (R412) and JTAG (R413): the management accesses outside the Spasen link. -/

namespace Sys2Proof.Machine

/-! ### SMBus -/

/-- Whether the target answers: with VIO18 on, after the start and in quench (R17, R299, R389). -/
def smbAnswers (s : State) : Bool := s.pins.vio && (started s || s.quench)
/-- A transaction on an answering target: with a right PEC it is acknowledged and performed; with a wrong one, as where no
target answers, it meets a NACK and has no effect. (DESIGN CHOICE, log 46) -/
def smbDo (pecOk : Bool) (f : State → State) (s : State) : State :=
  let ok := pecOk && smbAnswers s
  let s := { s with smb := { s.smb with out := none, ack := ok } }
  if ok then f s else s
def smbGives (w : Word) (s : State) : State := { s with smb := { s.smb with out := some w } }
def smbPoint (a : Word) (s : State) : State := { s with smb := { s.smb with ptr := a } }

/-- SMBUS_SET_POINTER: performed in quench too. -/
def execSmbusSetPointer (addr : Word) (pecOk : Bool) (s : State) : Host.Outcome State Fault Refusal :=
  .next (smbDo pecOk (smbPoint addr) s)
/-- SMBUS_READ. -/
def smbRead (s : State) : State :=
  let r := csRead .smbus s.smb.ptr.toNat s
  smbPoint (s.smb.ptr + 4) (smbGives r.1 (noteRead .smbus r))
def execSmbusRead (pecOk : Bool) (s : State) : Host.Outcome State Fault Refusal := .next (smbDo pecOk smbRead s)
/-- SMBUS_WRITE: only while SmbWrite is 1 and not in quench; else it is acknowledged and nothing changes. -/
def smbWrite (v : Word) (s : State) : State :=
  if s.rf 0x60004 0 1 = 1 ∧ s.quench = false then smbPoint (s.smb.ptr + 4) (csWrite .smbus s.smb.ptr.toNat v s) else s
def execSmbusWrite (val : Word) (pecOk : Bool) (s : State) : Host.Outcome State Fault Refusal :=
  .next (smbDo pecOk (smbWrite val) s)
/-- The health byte. -/
def healthByte (s : State) : Nat :=
  (if s.pins.aliveRun then 1 else 0) + (if pendingC2 s = 0 then 0 else 2) + (if s.quench then 4 else 0) +
    (if (List.range 36).any (fun u => decide (s.rf (0x30100 + 4 * u) 31 1 = 1)) then 8 else 0) + (if started s then 16 else 0)
/-- SMBUS_HEALTH. -/
def execSmbusHealth (s : State) : Host.Outcome State Fault Refusal :=
  .next (smbDo true (fun s => smbGives (BitVec.ofNat 32 (healthByte s)) s) s)
/-- SMBUS_TEMP: THERM_HOTTEST.Temp. -/
def execSmbusTemp (s : State) : Host.Outcome State Fault Refusal :=
  .next (smbDo true (fun s => smbGives (BitVec.ofNat 32 (fld (regNow s 0x30010) 0 12)) s) s)
/-- SMBUS_ALERT_RESPONSE: a device that pulls SMB_ALERT_N gives its own address, and then releases it; another does not
acknowledge. -/
def execSmbusAlertResponse (s : State) : Host.Outcome State Fault Refusal :=
  .next (smbDo (!s.pins.smbAlertN) (fun s =>
    smbGives (BitVec.ofNat 32 (0x48 + s.pins.smbAddr.toNat)) { s with pins := { s.pins with smbAlertN := true } }) s)

/-! ### JTAG -/

/-- The IDCODE register. -/
def idcodeWord : Word := Config.jtagRevision ++ 0xE640#16 ++ Config.jtagManufacturer ++ 1#1
/-- Select an instruction. -/
def tapSelect (ir : BitVec 8) (s : State) : State := tapDrive { s with tapIr := ir }
/-- EXTEST, CLAMP and HIGHZ take effect only while COLD_RST_N is low; until it falls they act as BYPASS. (DESIGN CHOICE, log 46) -/
def tapTest (ir : BitVec 8) (s : State) : State :=
  if s.pins.coldRstN || s.quench then { s with tapIr := ir, tapDr := 0 } else tapSelect ir s
/-- The TAP works only while VIO18 is on (R299, R413). -/
def tapDo (f : State → State) (s : State) : Host.Outcome State Fault Refusal := .next (if s.pins.vio then f s else s)

/-- IDCODE. -/
def execIdcode (s : State) : Host.Outcome State Fault Refusal :=
  tapDo (fun s => { tapSelect 1 s with tapDr := idcodeWord.zeroExtend 64 }) s
/-- SAMPLE_PRELOAD: the pins are sampled and the cells loaded. -/
def execSamplePreload (load : Word) (s : State) : Host.Outcome State Fault Refusal :=
  tapDo (fun s => { tapSelect 2 s with tapDr := (Config.boundarySample s.free).zeroExtend 64, free := s.free + 1, tapCells := load }) s
/-- EXTEST. -/
def execExtest (s : State) : Host.Outcome State Fault Refusal := tapDo (tapTest 3) s
/-- CLAMP. -/
def execClamp (s : State) : Host.Outcome State Fault Refusal := tapDo (tapTest 4) s
/-- HIGHZ. -/
def execHighz (s : State) : Host.Outcome State Fault Refusal := tapDo (tapTest 5) s
/-- DBG: [63] write, [62:32] control address [31:1], [31:0] data; honoured only while debug is open (R428). (DESIGN CHOICE, log 46) -/
def dbgAccess (dr : DWord) (s : State) : State :=
  let a := dr.toNat / 2 ^ 32 % 2 ^ 31 * 2
  if s.rf 0x300000 26 1 = 0 then { s with tapDr := 0 }
  else if bit dr 63 then { csWrite .jtag a (dr.extractLsb' 0 32) s with tapDr := dr }
  else
    let r := csRead .jtag a s
    { noteRead .jtag r with tapDr := dr.extractLsb' 32 32 ++ r.1 }
def execDbg (dr : DWord) (s : State) : Host.Outcome State Fault Refusal := tapDo (fun s => dbgAccess dr (tapSelect 0x10 s)) s
/-- BYPASS. -/
def execBypass (s : State) : Host.Outcome State Fault Refusal :=
  tapDo (fun s => { tapSelect 0xFF s with tapDr := 0 }) s
/-- TAP_RESET: IDCODE is selected. -/
def execTapReset (s : State) : Host.Outcome State Fault Refusal :=
  tapDo (fun s => { tapSelect 1 s with tapDr := idcodeWord.zeroExtend 64 }) s

end Sys2Proof.Machine
end

