-- ==== Sys2Proof/Machine/MemRows.lean ====
section
/-! DEFINITION. Core-store and billet accesses as commands. -/

namespace Sys2Proof.Machine

/-- LDX (R82). -/
def execLdx (c : CoreId) (rd rs1 : BitVec 5) (imm : BitVec 16) (b : Word) (s : State) : Host.Outcome State Fault Refusal :=
  .next (issueBundle c (slotLdx rd rs1 imm) (decodeB b) (bundle (encI 0x20#6 rd rs1 imm) b) s)

/-- STX (R82). -/
def execStx (c : CoreId) (rd rs1 : BitVec 5) (imm : BitVec 16) (b : Word) (s : State) : Host.Outcome State Fault Refusal :=
  .next (issueBundle c (slotStx rd rs1 imm) (decodeB b) (bundle (encI 0x21#6 rd rs1 imm) b) s)

/-- LDV16 (R82). -/
def execLdv16 (c : CoreId) (rd rs1 : BitVec 5) (imm : BitVec 16) (b : Word) (s : State) : Host.Outcome State Fault Refusal :=
  .next (issueBundle c (slotLdvN 16 rd rs1 imm) (decodeB b) (bundle (encI 0x22#6 rd rs1 imm) b) s)

/-- LDV32 (R82). -/
def execLdv32 (c : CoreId) (rd rs1 : BitVec 5) (imm : BitVec 16) (b : Word) (s : State) : Host.Outcome State Fault Refusal :=
  .next (issueBundle c (slotLdvN 32 rd rs1 imm) (decodeB b) (bundle (encI 0x23#6 rd rs1 imm) b) s)

/-- LDV64 (R82). -/
def execLdv64 (c : CoreId) (rd rs1 : BitVec 5) (imm : BitVec 16) (b : Word) (s : State) : Host.Outcome State Fault Refusal :=
  .next (issueBundle c (slotLdvN 64 rd rs1 imm) (decodeB b) (bundle (encI 0x24#6 rd rs1 imm) b) s)

/-- LDV (R82). -/
def execLdv (c : CoreId) (rd rs1 : BitVec 5) (imm : BitVec 16) (b : Word) (s : State) : Host.Outcome State Fault Refusal :=
  .next (issueBundle c (slotLdvN 128 rd rs1 imm) (decodeB b) (bundle (encI 0x25#6 rd rs1 imm) b) s)

/-- STV16 (R82). -/
def execStv16 (c : CoreId) (rd rs1 : BitVec 5) (imm : BitVec 16) (b : Word) (s : State) : Host.Outcome State Fault Refusal :=
  .next (issueBundle c (slotStvN 16 rd rs1 imm) (decodeB b) (bundle (encI 0x26#6 rd rs1 imm) b) s)

/-- STV32 (R82). -/
def execStv32 (c : CoreId) (rd rs1 : BitVec 5) (imm : BitVec 16) (b : Word) (s : State) : Host.Outcome State Fault Refusal :=
  .next (issueBundle c (slotStvN 32 rd rs1 imm) (decodeB b) (bundle (encI 0x27#6 rd rs1 imm) b) s)

/-- STV64 (R82). -/
def execStv64 (c : CoreId) (rd rs1 : BitVec 5) (imm : BitVec 16) (b : Word) (s : State) : Host.Outcome State Fault Refusal :=
  .next (issueBundle c (slotStvN 64 rd rs1 imm) (decodeB b) (bundle (encI 0x28#6 rd rs1 imm) b) s)

/-- STV (R82). -/
def execStv (c : CoreId) (rd rs1 : BitVec 5) (imm : BitVec 16) (b : Word) (s : State) : Host.Outcome State Fault Refusal :=
  .next (issueBundle c (slotStvN 128 rd rs1 imm) (decodeB b) (bundle (encI 0x29#6 rd rs1 imm) b) s)

/-- LDP (R82). -/
def execLdp (c : CoreId) (rd rs1 : BitVec 5) (imm : BitVec 16) (b : Word) (s : State) : Host.Outcome State Fault Refusal :=
  .next (issueBundle c (slotLdp rd rs1 imm) (decodeB b) (bundle (encI 0x2A#6 rd rs1 imm) b) s)

/-- STP (R82). -/
def execStp (c : CoreId) (rd rs1 : BitVec 5) (imm : BitVec 16) (b : Word) (s : State) : Host.Outcome State Fault Refusal :=
  .next (issueBundle c (slotStp rd rs1 imm) (decodeB b) (bundle (encI 0x2B#6 rd rs1 imm) b) s)

/-- BLDX (R83). -/
def execBldx (c : CoreId) (rd rs1 : BitVec 5) (imm : BitVec 16) (b : Word) (s : State) : Host.Outcome State Fault Refusal :=
  .next (issueBundle c (slotBldx rd rs1 imm) (decodeB b) (bundle (encI 0x2C#6 rd rs1 imm) b) s)

/-- BSTX (R83). -/
def execBstx (c : CoreId) (rd rs1 : BitVec 5) (imm : BitVec 16) (b : Word) (s : State) : Host.Outcome State Fault Refusal :=
  .next (issueBundle c (slotBstx rd rs1 imm) (decodeB b) (bundle (encI 0x2D#6 rd rs1 imm) b) s)

/-- BLDV (R83). -/
def execBldv (c : CoreId) (rd rs1 : BitVec 5) (imm : BitVec 16) (b : Word) (s : State) : Host.Outcome State Fault Refusal :=
  .next (issueBundle c (slotBldv rd rs1 imm) (decodeB b) (bundle (encI 0x2E#6 rd rs1 imm) b) s)

/-- BSTV (R83). -/
def execBstv (c : CoreId) (rd rs1 : BitVec 5) (imm : BitVec 16) (b : Word) (s : State) : Host.Outcome State Fault Refusal :=
  .next (issueBundle c (slotBstv rd rs1 imm) (decodeB b) (bundle (encI 0x2F#6 rd rs1 imm) b) s)

end Sys2Proof.Machine
end

