-- ==== Sys2Proof/Machine/ScalarRows.lean ====
section
/-! DEFINITION. Scalar and control instructions as commands: one issue of a core each. -/

namespace Sys2Proof.Machine

/-- NOP in slot A beside the slot B word (R74). -/
def execNop (c : CoreId) (b : Word) (s : State) : Host.Outcome State Fault Refusal :=
  .next (issueBundle c (slotNop) (decodeB b) (bundle (0#32) b) s)

/-- ALU (R76). -/
def execAlu (c : CoreId) (rd rs1 rs2 : BitVec 5) (fn : BitVec 11) (b : Word) (s : State) : Host.Outcome State Fault Refusal :=
  .next (issueBundle c (slotAlu rd rs1 rs2 fn) (decodeB b) (bundle (encR 0x01#6 rd rs1 rs2 fn) b) s)

/-- ADDI (R77). -/
def execAddi (c : CoreId) (rd rs1 : BitVec 5) (imm : BitVec 16) (b : Word) (s : State) : Host.Outcome State Fault Refusal :=
  .next (issueBundle c (slotAddi rd rs1 imm) (decodeB b) (bundle (encI 0x02#6 rd rs1 imm) b) s)

/-- ANDI (R77). -/
def execAndi (c : CoreId) (rd rs1 : BitVec 5) (imm : BitVec 16) (b : Word) (s : State) : Host.Outcome State Fault Refusal :=
  .next (issueBundle c (slotAndi rd rs1 imm) (decodeB b) (bundle (encI 0x03#6 rd rs1 imm) b) s)

/-- ORI (R77). -/
def execOri (c : CoreId) (rd rs1 : BitVec 5) (imm : BitVec 16) (b : Word) (s : State) : Host.Outcome State Fault Refusal :=
  .next (issueBundle c (slotOri rd rs1 imm) (decodeB b) (bundle (encI 0x04#6 rd rs1 imm) b) s)

/-- XORI (R77). -/
def execXori (c : CoreId) (rd rs1 : BitVec 5) (imm : BitVec 16) (b : Word) (s : State) : Host.Outcome State Fault Refusal :=
  .next (issueBundle c (slotXori rd rs1 imm) (decodeB b) (bundle (encI 0x05#6 rd rs1 imm) b) s)

/-- SLTI (R77). -/
def execSlti (c : CoreId) (rd rs1 : BitVec 5) (imm : BitVec 16) (b : Word) (s : State) : Host.Outcome State Fault Refusal :=
  .next (issueBundle c (slotSlti rd rs1 imm) (decodeB b) (bundle (encI 0x06#6 rd rs1 imm) b) s)

/-- SLTIU (R77). -/
def execSltiu (c : CoreId) (rd rs1 : BitVec 5) (imm : BitVec 16) (b : Word) (s : State) : Host.Outcome State Fault Refusal :=
  .next (issueBundle c (slotSltiu rd rs1 imm) (decodeB b) (bundle (encI 0x07#6 rd rs1 imm) b) s)

/-- SLLI (R77). -/
def execSlli (c : CoreId) (rd rs1 : BitVec 5) (imm : BitVec 16) (b : Word) (s : State) : Host.Outcome State Fault Refusal :=
  .next (issueBundle c (slotSlli rd rs1 imm) (decodeB b) (bundle (encI 0x08#6 rd rs1 imm) b) s)

/-- SRLI (R77). -/
def execSrli (c : CoreId) (rd rs1 : BitVec 5) (imm : BitVec 16) (b : Word) (s : State) : Host.Outcome State Fault Refusal :=
  .next (issueBundle c (slotSrli rd rs1 imm) (decodeB b) (bundle (encI 0x09#6 rd rs1 imm) b) s)

/-- SRAI (R77). -/
def execSrai (c : CoreId) (rd rs1 : BitVec 5) (imm : BitVec 16) (b : Word) (s : State) : Host.Outcome State Fault Refusal :=
  .next (issueBundle c (slotSrai rd rs1 imm) (decodeB b) (bundle (encI 0x0A#6 rd rs1 imm) b) s)

/-- ORSH (R77). -/
def execOrsh (c : CoreId) (rd rs1 : BitVec 5) (imm : BitVec 16) (b : Word) (s : State) : Host.Outcome State Fault Refusal :=
  .next (issueBundle c (slotOrsh rd rs1 imm) (decodeB b) (bundle (encI 0x0B#6 rd rs1 imm) b) s)

/-- BEQ (R78). -/
def execBeq (c : CoreId) (rs1 rs2 : BitVec 5) (off : BitVec 16) (b : Word) (s : State) : Host.Outcome State Fault Refusal :=
  .next (issueBundle c (slotBeq rs1 rs2 off) (decodeB b) (bundle (encI 0x10#6 rs1 rs2 off) b) s)

/-- BNE (R78). -/
def execBne (c : CoreId) (rs1 rs2 : BitVec 5) (off : BitVec 16) (b : Word) (s : State) : Host.Outcome State Fault Refusal :=
  .next (issueBundle c (slotBne rs1 rs2 off) (decodeB b) (bundle (encI 0x11#6 rs1 rs2 off) b) s)

/-- BLT (R78). -/
def execBlt (c : CoreId) (rs1 rs2 : BitVec 5) (off : BitVec 16) (b : Word) (s : State) : Host.Outcome State Fault Refusal :=
  .next (issueBundle c (slotBlt rs1 rs2 off) (decodeB b) (bundle (encI 0x12#6 rs1 rs2 off) b) s)

/-- BGE (R78). -/
def execBge (c : CoreId) (rs1 rs2 : BitVec 5) (off : BitVec 16) (b : Word) (s : State) : Host.Outcome State Fault Refusal :=
  .next (issueBundle c (slotBge rs1 rs2 off) (decodeB b) (bundle (encI 0x13#6 rs1 rs2 off) b) s)

/-- BLTU (R78). -/
def execBltu (c : CoreId) (rs1 rs2 : BitVec 5) (off : BitVec 16) (b : Word) (s : State) : Host.Outcome State Fault Refusal :=
  .next (issueBundle c (slotBltu rs1 rs2 off) (decodeB b) (bundle (encI 0x14#6 rs1 rs2 off) b) s)

/-- BGEU (R78). -/
def execBgeu (c : CoreId) (rs1 rs2 : BitVec 5) (off : BitVec 16) (b : Word) (s : State) : Host.Outcome State Fault Refusal :=
  .next (issueBundle c (slotBgeu rs1 rs2 off) (decodeB b) (bundle (encI 0x15#6 rs1 rs2 off) b) s)

/-- J (R78). -/
def execJ (c : CoreId) (off : BitVec 26) (b : Word) (s : State) : Host.Outcome State Fault Refusal :=
  .next (issueBundle c (slotJ off) (decodeB b) (bundle (encJ 0x16#6 off) b) s)

/-- JAL (R78). -/
def execJal (c : CoreId) (off : BitVec 26) (b : Word) (s : State) : Host.Outcome State Fault Refusal :=
  .next (issueBundle c (slotJal off) (decodeB b) (bundle (encJ 0x17#6 off) b) s)

/-- JALR (R78). -/
def execJalr (c : CoreId) (rd rs1 : BitVec 5) (imm : BitVec 16) (b : Word) (s : State) : Host.Outcome State Fault Refusal :=
  .next (issueBundle c (slotJalr rd rs1 imm) (decodeB b) (bundle (encI 0x18#6 rd rs1 imm) b) s)

/-- LOOP (R50, R79). -/
def execLoop (c : CoreId) (rd rs1 : BitVec 5) (imm : BitVec 16) (b : Word) (s : State) : Host.Outcome State Fault Refusal :=
  .next (issueBundle c (slotLoop rd rs1 imm) (decodeB b) (bundle (encI 0x19#6 rd rs1 imm) b) s)

/-- WAITT (R49, R79). -/
def execWaitt (c : CoreId) (rd rs1 : BitVec 5) (imm : BitVec 16) (b : Word) (s : State) : Host.Outcome State Fault Refusal :=
  .next (issueBundle c (slotWaitt rd rs1 imm) (decodeB b) (bundle (encI 0x1A#6 rd rs1 imm) b) s)

/-- HALT (R80). -/
def execHalt (c : CoreId) (off : BitVec 26) (b : Word) (s : State) : Host.Outcome State Fault Refusal :=
  .next (issueBundle c (slotHalt off) (decodeB b) (bundle (encJ 0x1B#6 off) b) s)

/-- TRAP (R80). -/
def execTrap (c : CoreId) (off : BitVec 26) (b : Word) (s : State) : Host.Outcome State Fault Refusal :=
  .next (issueBundle c (slotTrap off) (decodeB b) (bundle (encJ 0x1C#6 off) b) s)

/-- SRD (R81). -/
def execSrd (c : CoreId) (rd rs1 : BitVec 5) (imm : BitVec 16) (b : Word) (s : State) : Host.Outcome State Fault Refusal :=
  .next (issueBundle c (slotSrd rd rs1 imm) (decodeB b) (bundle (encI 0x1D#6 rd rs1 imm) b) s)

/-- SWR (R81). -/
def execSwr (c : CoreId) (rd rs1 : BitVec 5) (imm : BitVec 16) (b : Word) (s : State) : Host.Outcome State Fault Refusal :=
  .next (issueBundle c (slotSwr rd rs1 imm) (decodeB b) (bundle (encI 0x1E#6 rd rs1 imm) b) s)

end Sys2Proof.Machine
end

