-- ==== Sys2Proof/Machine/VectorRows.lean ====
section
/-! DEFINITION. Slot B instructions as commands. -/

namespace Sys2Proof.Machine

/-- VFP (R106). -/
def execVfp (c : CoreId) (vd vs1 vs2 : BitVec 5) (pm : BitVec 3) (fn : BitVec 8) (a : Word) (s : State) : Host.Outcome State Fault Refusal :=
  .next (issueBundle c (decodeA a) (slotVfp vd vs1 vs2 pm fn) (bundle a (encV 0x01#6 vd vs1 vs2 pm fn)) s)

/-- VINT (R107). -/
def execVint (c : CoreId) (vd vs1 vs2 : BitVec 5) (pm : BitVec 3) (fn : BitVec 8) (a : Word) (s : State) : Host.Outcome State Fault Refusal :=
  .next (issueBundle c (decodeA a) (slotVint vd vs1 vs2 pm fn) (bundle a (encV 0x02#6 vd vs1 vs2 pm fn)) s)

/-- VLOG (R108). -/
def execVlog (c : CoreId) (vd vs1 vs2 : BitVec 5) (pm : BitVec 3) (fn : BitVec 8) (a : Word) (s : State) : Host.Outcome State Fault Refusal :=
  .next (issueBundle c (decodeA a) (slotVlog vd vs1 vs2 pm fn) (bundle a (encV 0x03#6 vd vs1 vs2 pm fn)) s)

/-- VCMP (R109). -/
def execVcmp (c : CoreId) (vd vs1 vs2 : BitVec 5) (pm : BitVec 3) (fn : BitVec 8) (a : Word) (s : State) : Host.Outcome State Fault Refusal :=
  .next (issueBundle c (decodeA a) (slotVcmp vd vs1 vs2 pm fn) (bundle a (encV 0x04#6 vd vs1 vs2 pm fn)) s)

/-- VPRED (R110). -/
def execVpred (c : CoreId) (vd vs1 vs2 : BitVec 5) (pm : BitVec 3) (fn : BitVec 8) (a : Word) (s : State) : Host.Outcome State Fault Refusal :=
  .next (issueBundle c (decodeA a) (slotVpred vd vs1 vs2 pm fn) (bundle a (encV 0x05#6 vd vs1 vs2 pm fn)) s)

/-- VXCN (R115). -/
def execVxcn (c : CoreId) (vd vs1 vs2 : BitVec 5) (pm : BitVec 3) (fn : BitVec 8) (a : Word) (s : State) : Host.Outcome State Fault Refusal :=
  .next (issueBundle c (decodeA a) (slotVxcn vd vs1 vs2 pm fn) (bundle a (encV 0x06#6 vd vs1 vs2 pm fn)) s)

/-- VPERM (R116). -/
def execVperm (c : CoreId) (vd vs1 vs2 : BitVec 5) (pm : BitVec 3) (fn : BitVec 8) (a : Word) (s : State) : Host.Outcome State Fault Refusal :=
  .next (issueBundle c (decodeA a) (slotVperm vd vs1 vs2 pm fn) (bundle a (encV 0x07#6 vd vs1 vs2 pm fn)) s)

/-- VRED (R117). -/
def execVred (c : CoreId) (vd vs1 vs2 : BitVec 5) (pm : BitVec 3) (fn : BitVec 8) (a : Word) (s : State) : Host.Outcome State Fault Refusal :=
  .next (issueBundle c (decodeA a) (slotVred vd vs1 vs2 pm fn) (bundle a (encV 0x08#6 vd vs1 vs2 pm fn)) s)

/-- VCVT.RNE (R112, R113). -/
def execVcvtRne (c : CoreId) (vd vs1 vs2 : BitVec 5) (pm : BitVec 3) (fn : BitVec 8) (a : Word) (s : State) : Host.Outcome State Fault Refusal :=
  .next (issueBundle c (decodeA a) (slotVcvt .rne false vd vs1 vs2 pm fn) (bundle a (encV 0x09#6 vd vs1 vs2 pm fn)) s)

/-- VCVT.RTZ (R112, R113). -/
def execVcvtRtz (c : CoreId) (vd vs1 vs2 : BitVec 5) (pm : BitVec 3) (fn : BitVec 8) (a : Word) (s : State) : Host.Outcome State Fault Refusal :=
  .next (issueBundle c (decodeA a) (slotVcvt .rtz false vd vs1 vs2 pm fn) (bundle a (encV 0x0A#6 vd vs1 vs2 pm fn)) s)

/-- VCVT.SR (R112, R113). -/
def execVcvtSr (c : CoreId) (vd vs1 vs2 : BitVec 5) (pm : BitVec 3) (fn : BitVec 8) (a : Word) (s : State) : Host.Outcome State Fault Refusal :=
  .next (issueBundle c (decodeA a) (slotVcvt .rne true vd vs1 vs2 pm fn) (bundle a (encV 0x0B#6 vd vs1 vs2 pm fn)) s)

/-- MMA (R119). -/
def execMma (c : CoreId) (acc : BitVec 2) (vs1 vs2 : BitVec 5) (fmtA fmtB mode : BitVec 4) (scale : BitVec 2) (a : Word) (s : State) : Host.Outcome State Fault Refusal :=
  .next (issueBundle c (decodeA a) (slotMma acc vs1 vs2 fmtA fmtB mode scale) (bundle a (encM 0x20#6 acc vs1 vs2 (fmtA ++ fmtB ++ mode ++ scale))) s)

/-- ACLR (R124). -/
def execAclr (c : CoreId) (acc : BitVec 2) (zero : BitVec 24) (a : Word) (s : State) : Host.Outcome State Fault Refusal :=
  .next (issueBundle c (decodeA a) (slotAclr acc zero) (bundle a ((0x21#6 ++ acc ++ zero : Word))) s)

/-- ACVT (R125). -/
def execAcvt (c : CoreId) (acc : BitVec 2) (vd row : BitVec 5) (fmt : BitVec 4) (rnd : BitVec 2) (mul sat : Bool) (zero part scale : BitVec 2) (a : Word) (s : State) : Host.Outcome State Fault Refusal :=
  .next (issueBundle c (decodeA a) (slotAcvt acc vd row fmt rnd mul sat zero part scale) (bundle a (encM 0x22#6 acc vd row (fmt ++ rnd ++ b1 mul ++ b1 sat ++ zero ++ part ++ scale))) s)

/-- AWR (R124). -/
def execAwr (c : CoreId) (acc : BitVec 2) (vs1 row : BitVec 5) (zero : BitVec 14) (a : Word) (s : State) : Host.Outcome State Fault Refusal :=
  .next (issueBundle c (decodeA a) (slotAwr acc vs1 row zero) (bundle a (encM 0x23#6 acc vs1 row zero)) s)

end Sys2Proof.Machine
end

