-- ==== Sys2Proof/Machine/Dispatch.lean ====
section
/-! DEFINITION. One arm per command: the direct call of its meaning. -/

namespace Sys2Proof.Machine

/-- The effect of a command on everything but the queue. -/
def exec (i : Instr) (s : State) : Host.Outcome State Fault Refusal :=
  match i with
  | .nop c b => Sys2Proof.Machine.execNop c b s
  | .alu c rd rs1 rs2 fn b => Sys2Proof.Machine.execAlu c rd rs1 rs2 fn b s
  | .addi c rd rs1 imm b => Sys2Proof.Machine.execAddi c rd rs1 imm b s
  | .andi c rd rs1 imm b => Sys2Proof.Machine.execAndi c rd rs1 imm b s
  | .ori c rd rs1 imm b => Sys2Proof.Machine.execOri c rd rs1 imm b s
  | .xori c rd rs1 imm b => Sys2Proof.Machine.execXori c rd rs1 imm b s
  | .slti c rd rs1 imm b => Sys2Proof.Machine.execSlti c rd rs1 imm b s
  | .sltiu c rd rs1 imm b => Sys2Proof.Machine.execSltiu c rd rs1 imm b s
  | .slli c rd rs1 imm b => Sys2Proof.Machine.execSlli c rd rs1 imm b s
  | .srli c rd rs1 imm b => Sys2Proof.Machine.execSrli c rd rs1 imm b s
  | .srai c rd rs1 imm b => Sys2Proof.Machine.execSrai c rd rs1 imm b s
  | .orsh c rd rs1 imm b => Sys2Proof.Machine.execOrsh c rd rs1 imm b s
  | .beq c rs1 rs2 off b => Sys2Proof.Machine.execBeq c rs1 rs2 off b s
  | .bne c rs1 rs2 off b => Sys2Proof.Machine.execBne c rs1 rs2 off b s
  | .blt c rs1 rs2 off b => Sys2Proof.Machine.execBlt c rs1 rs2 off b s
  | .bge c rs1 rs2 off b => Sys2Proof.Machine.execBge c rs1 rs2 off b s
  | .bltu c rs1 rs2 off b => Sys2Proof.Machine.execBltu c rs1 rs2 off b s
  | .bgeu c rs1 rs2 off b => Sys2Proof.Machine.execBgeu c rs1 rs2 off b s
  | .j c off b => Sys2Proof.Machine.execJ c off b s
  | .jal c off b => Sys2Proof.Machine.execJal c off b s
  | .jalr c rd rs1 imm b => Sys2Proof.Machine.execJalr c rd rs1 imm b s
  | .loop c rd rs1 imm b => Sys2Proof.Machine.execLoop c rd rs1 imm b s
  | .loopBackEdge c => Sys2Proof.Machine.execLoopBackEdge c s
  | .waitt c rd rs1 imm b => Sys2Proof.Machine.execWaitt c rd rs1 imm b s
  | .halt c off b => Sys2Proof.Machine.execHalt c off b s
  | .trap c off b => Sys2Proof.Machine.execTrap c off b s
  | .breakpointStop c => Sys2Proof.Machine.execBreakpointStop c s
  | .srd c rd rs1 imm b => Sys2Proof.Machine.execSrd c rd rs1 imm b s
  | .swr c rd rs1 imm b => Sys2Proof.Machine.execSwr c rd rs1 imm b s
  | .ldx c rd rs1 imm b => Sys2Proof.Machine.execLdx c rd rs1 imm b s
  | .stx c rd rs1 imm b => Sys2Proof.Machine.execStx c rd rs1 imm b s
  | .ldv16 c rd rs1 imm b => Sys2Proof.Machine.execLdv16 c rd rs1 imm b s
  | .ldv32 c rd rs1 imm b => Sys2Proof.Machine.execLdv32 c rd rs1 imm b s
  | .ldv64 c rd rs1 imm b => Sys2Proof.Machine.execLdv64 c rd rs1 imm b s
  | .ldv c rd rs1 imm b => Sys2Proof.Machine.execLdv c rd rs1 imm b s
  | .stv16 c rd rs1 imm b => Sys2Proof.Machine.execStv16 c rd rs1 imm b s
  | .stv32 c rd rs1 imm b => Sys2Proof.Machine.execStv32 c rd rs1 imm b s
  | .stv64 c rd rs1 imm b => Sys2Proof.Machine.execStv64 c rd rs1 imm b s
  | .stv c rd rs1 imm b => Sys2Proof.Machine.execStv c rd rs1 imm b s
  | .ldp c rd rs1 imm b => Sys2Proof.Machine.execLdp c rd rs1 imm b s
  | .stp c rd rs1 imm b => Sys2Proof.Machine.execStp c rd rs1 imm b s
  | .bldx c rd rs1 imm b => Sys2Proof.Machine.execBldx c rd rs1 imm b s
  | .bstx c rd rs1 imm b => Sys2Proof.Machine.execBstx c rd rs1 imm b s
  | .bldv c rd rs1 imm b => Sys2Proof.Machine.execBldv c rd rs1 imm b s
  | .bstv c rd rs1 imm b => Sys2Proof.Machine.execBstv c rd rs1 imm b s
  | .billetLoadReturn c => Sys2Proof.Machine.execBilletLoadReturn c s
  | .fld c rd rs1 rs2 cls ord flag size hint b => Sys2Proof.Machine.execFld c rd rs1 rs2 cls ord flag size hint b s
  | .fst c rd rs1 rs2 cls ord size hint b => Sys2Proof.Machine.execFst c rd rs1 rs2 cls ord size hint b s
  | .fstf c rd rs1 rs2 cls ord size hint b => Sys2Proof.Machine.execFstf c rd rs1 rs2 cls ord size hint b s
  | .fat c rd rs1 rs2 cls ord flag size hint b => Sys2Proof.Machine.execFat c rd rs1 rs2 cls ord flag size hint b s
  | .fred c rd rs1 rs2 cls ord flag size hint b => Sys2Proof.Machine.execFred c rd rs1 rs2 cls ord flag size hint b s
  | .fmcs c rd rs1 rs2 cls ord flag size hint b => Sys2Proof.Machine.execFmcs c rd rs1 rs2 cls ord flag size hint b s
  | .ffence c rd rs1 imm b => Sys2Proof.Machine.execFfence c rd rs1 imm b s
  | .fenceTimeout c => Sys2Proof.Machine.execFenceTimeout c s
  | .ownx c rd rs1 rs2 cls ord flag size hint b => Sys2Proof.Machine.execOwnx c rd rs1 rs2 cls ord flag size hint b s
  | .ownr c rd rs1 rs2 cls ord flag size hint b => Sys2Proof.Machine.execOwnr c rd rs1 rs2 cls ord flag size hint b s
  | .etag c rd rs1 imm b => Sys2Proof.Machine.execEtag c rd rs1 imm b s
  | .eview c rd rs1 imm b => Sys2Proof.Machine.execEview c rd rs1 imm b s
  | .ecommit c rd rs1 rs2 cls ord flag size hint b => Sys2Proof.Machine.execEcommit c rd rs1 rs2 cls ord flag size hint b s
  | .bulkq c rd rs1 rs2 cls ord flag size hint b => Sys2Proof.Machine.execBulkq c rd rs1 rs2 cls ord flag size hint b s
  | .bulkPacketStart site cluster => Sys2Proof.Machine.execBulkPacketStart site cluster s
  | .descriptorCompletion c => Sys2Proof.Machine.execDescriptorCompletion c s
  | .vfp c vd vs1 vs2 pm fn a => Sys2Proof.Machine.execVfp c vd vs1 vs2 pm fn a s
  | .vint c vd vs1 vs2 pm fn a => Sys2Proof.Machine.execVint c vd vs1 vs2 pm fn a s
  | .vlog c vd vs1 vs2 pm fn a => Sys2Proof.Machine.execVlog c vd vs1 vs2 pm fn a s
  | .vcmp c vd vs1 vs2 pm fn a => Sys2Proof.Machine.execVcmp c vd vs1 vs2 pm fn a s
  | .vpred c vd vs1 vs2 pm fn a => Sys2Proof.Machine.execVpred c vd vs1 vs2 pm fn a s
  | .vxcn c vd vs1 vs2 pm fn a => Sys2Proof.Machine.execVxcn c vd vs1 vs2 pm fn a s
  | .vperm c vd vs1 vs2 pm fn a => Sys2Proof.Machine.execVperm c vd vs1 vs2 pm fn a s
  | .vred c vd vs1 vs2 pm fn a => Sys2Proof.Machine.execVred c vd vs1 vs2 pm fn a s
  | .vcvtRne c vd vs1 vs2 pm fn a => Sys2Proof.Machine.execVcvtRne c vd vs1 vs2 pm fn a s
  | .vcvtRtz c vd vs1 vs2 pm fn a => Sys2Proof.Machine.execVcvtRtz c vd vs1 vs2 pm fn a s
  | .vcvtSr c vd vs1 vs2 pm fn a => Sys2Proof.Machine.execVcvtSr c vd vs1 vs2 pm fn a s
  | .mma c acc vs1 vs2 fmtA fmtB mode scale a => Sys2Proof.Machine.execMma c acc vs1 vs2 fmtA fmtB mode scale a s
  | .aclr c acc zero a => Sys2Proof.Machine.execAclr c acc zero a s
  | .acvt c acc vd row fmt rnd mul sat zero part scale a => Sys2Proof.Machine.execAcvt c acc vd row fmt rnd mul sat zero part scale a s
  | .awr c acc vs1 row zero a => Sys2Proof.Machine.execAwr c acc vs1 row zero a s
  | .bankYield c bank id => Sys2Proof.Machine.execBankYield c bank id s
  | .start c => Sys2Proof.Machine.execStart c s
  | .stop c => Sys2Proof.Machine.execStop c s
  | .stopDrainDone c => Sys2Proof.Machine.execStopDrainDone c s
  | .resume c => Sys2Proof.Machine.execResume c s
  | .step c => Sys2Proof.Machine.execStep c s
  | .siteGo site => Sys2Proof.Machine.execSiteGo site s
  | .debugDataRead via c hi => Sys2Proof.Machine.execDebugDataRead via c hi s
  | .debugDataWrite via c hi val => Sys2Proof.Machine.execDebugDataWrite via c hi val s
  | .siteJobCfgWrite site n order val => Sys2Proof.Machine.execSiteJobCfgWrite site n order val s
  | .coreFence c => Sys2Proof.Machine.execCoreFence c s
  | .registerWrite via addr val => Sys2Proof.Machine.execRegisterWrite via addr val s
  | .routerForward c port vc => Sys2Proof.Machine.execRouterForward c port vc s
  | .redholdExpiry id => Sys2Proof.Machine.execRedholdExpiry id s
  | .multicastAnswer ctx => Sys2Proof.Machine.execMulticastAnswer ctx s
  | .routerFault r => Sys2Proof.Machine.execRouterFault r s
  | .billetRequest site slice bank ecc => Sys2Proof.Machine.execBilletRequest site slice bank ecc s
  | .scrubRead site slices => Sys2Proof.Machine.execScrubRead site slices s
  | .billetCfgWrite site val => Sys2Proof.Machine.execBilletCfgWrite site val s
  | .hearthPortRequest id => Sys2Proof.Machine.execHearthPortRequest id s
  | .rd id => Sys2Proof.Machine.execRd id s
  | .wr8 id => Sys2Proof.Machine.execWr8 id s
  | .wr id => Sys2Proof.Machine.execWr id s
  | .mcs8 id => Sys2Proof.Machine.execMcs8 id s
  | .mcs id => Sys2Proof.Machine.execMcs id s
  | .fatAtHome id => Sys2Proof.Machine.execFatAtHome id s
  | .fredAtHome id => Sys2Proof.Machine.execFredAtHome id s
  | .ownxAtHome id => Sys2Proof.Machine.execOwnxAtHome id s
  | .ownrAtHome id => Sys2Proof.Machine.execOwnrAtHome id s
  | .ecommitAtHome id => Sys2Proof.Machine.execEcommitAtHome id s
  | .epochStateChange ep => Sys2Proof.Machine.execEpochStateChange ep s
  | .commitDrainWriteback ep epoch line => Sys2Proof.Machine.execCommitDrainWriteback ep epoch line s
  | .epochFree ep epoch => Sys2Proof.Machine.execEpochFree ep epoch s
  | .ack id => Sys2Proof.Machine.execAck id s
  | .data8 id => Sys2Proof.Machine.execData8 id s
  | .data id => Sys2Proof.Machine.execData id s
  | .heldRequestRelease id => Sys2Proof.Machine.execHeldRequestRelease id s
  | .flagWriteRelease id => Sys2Proof.Machine.execFlagWriteRelease id s
  | .ownCfgWrite ep val => Sys2Proof.Machine.execOwnCfgWrite ep val s
  | .ownForceRelRegion ep off => Sys2Proof.Machine.execOwnForceRelRegion ep off s
  | .ownForceRelAll ep => Sys2Proof.Machine.execOwnForceRelAll ep s
  | .creditReturn src dst rb => Sys2Proof.Machine.execCreditReturn src dst rb s
  | .inputQueueRelease k => Sys2Proof.Machine.execInputQueueRelease k s
  | .combEntryFree g => Sys2Proof.Machine.execCombEntryFree g s
  | .gatewayRedholdExpiry g id => Sys2Proof.Machine.execGatewayRedholdExpiry g id s
  | .jobKill tag => Sys2Proof.Machine.execJobKill tag s
  | .jobKillDone => Sys2Proof.Machine.execJobKillDone s
  | .jobKillRelease tag => Sys2Proof.Machine.execJobKillRelease tag s
  | .grantRequest g dst => Sys2Proof.Machine.execGrantRequest g dst s
  | .grant g dst => Sys2Proof.Machine.execGrant g dst s
  | .grantEnd dst rb => Sys2Proof.Machine.execGrantEnd dst rb s
  | .l0Packet ep => Sys2Proof.Machine.execL0Packet ep s
  | .loopFailure l1 => Sys2Proof.Machine.execLoopFailure l1 s
  | .opticalWindowFail id lane => Sys2Proof.Machine.execOpticalWindowFail id lane s
  | .waveguideFailure k g => Sys2Proof.Machine.execWaveguideFailure k g s
  | .gwPortCfgWrite g p val => Sys2Proof.Machine.execGwPortCfgWrite g p val s
  | .portTraining g p half peer lanes => Sys2Proof.Machine.execPortTraining g p half peer lanes s
  | .portTrainingTimeout g p half => Sys2Proof.Machine.execPortTrainingTimeout g p half s
  | .portTrainingRetry g p half => Sys2Proof.Machine.execPortTrainingRetry g p half s
  | .mismatchRecheck g p half peer => Sys2Proof.Machine.execMismatchRecheck g p half peer s
  | .portLaneFailure g p slot => Sys2Proof.Machine.execPortLaneFailure g p slot s
  | .portDown g p half => Sys2Proof.Machine.execPortDown g p half s
  | .linkFrame g f => Sys2Proof.Machine.execLinkFrame g f s
  | .e2eAck f ctrl seq => Sys2Proof.Machine.execE2eAck f ctrl seq s
  | .rtoExpiry f ctrl => Sys2Proof.Machine.execRtoExpiry f ctrl s
  | .deadTimeout f => Sys2Proof.Machine.execDeadTimeout f s
  | .gwRouteWrite f val => Sys2Proof.Machine.execGwRouteWrite f val s
  | .revive f => Sys2Proof.Machine.execRevive f s
  | .pcArbiterGrant k pc bank ecc => Sys2Proof.Machine.execPcArbiterGrant k pc bank ecc s
  | .ageCap k pc => Sys2Proof.Machine.execAgeCap k pc s
  | .refresh k pc bank => Sys2Proof.Machine.execRefresh k pc bank s
  | .hbmTempRead k t0 t1 t2 t3 => Sys2Proof.Machine.execHbmTempRead k t0 t1 t2 t3 s
  | .crucScrubRead k pcs => Sys2Proof.Machine.execCrucScrubRead k pcs s
  | .pcFailed k pc => Sys2Proof.Machine.execPcFailed k pc s
  | .hbmInit k failStep => Sys2Proof.Machine.execHbmInit k failStep s
  | .replay l lane => Sys2Proof.Machine.execReplay l lane s
  | .laneMonitorProbe l lane margin => Sys2Proof.Machine.execLaneMonitorProbe l lane margin s
  | .spareSwap l lane => Sys2Proof.Machine.execSpareSwap l lane s
  | .linkDegrade l lane => Sys2Proof.Machine.execLinkDegrade l lane s
  | .fullRetrain l lanes => Sys2Proof.Machine.execFullRetrain l lanes s
  | .fieldSelfTest f lanes => Sys2Proof.Machine.execFieldSelfTest f lanes s
  | .lockUpdate l delta trim fail => Sys2Proof.Machine.execLockUpdate l delta trim fail s
  | .wrongLineLock l relocked => Sys2Proof.Machine.execWrongLineLock l relocked s
  | .laserDriveUpdate t p diff reading => Sys2Proof.Machine.execLaserDriveUpdate t p diff reading s
  | .combSwap t role okFirst okSecond => Sys2Proof.Machine.execCombSwap t role okFirst okSecond s
  | .quietGap t => Sys2Proof.Machine.execQuietGap t s
  | .forceSwap t role okFirst okSecond => Sys2Proof.Machine.execForceSwap t role okFirst okSecond s
  | .combDark t p => Sys2Proof.Machine.execCombDark t p s
  | .imageSnapshot => Sys2Proof.Machine.execImageSnapshot s
  | .imageRead via => Sys2Proof.Machine.execImageRead via s
  | .stepSwitch n lockFail => Sys2Proof.Machine.execStepSwitch n lockFail s
  | .droopStretch r lowRail => Sys2Proof.Machine.execDroopStretch r lowRail s
  | .refclkLoss => Sys2Proof.Machine.execRefclkLoss s
  | .refclkRestored => Sys2Proof.Machine.execRefclkRestored s
  | .holdoverTimeout => Sys2Proof.Machine.execHoldoverTimeout s
  | .referenceLoss f => Sys2Proof.Machine.execReferenceLoss f s
  | .xtalLoss => Sys2Proof.Machine.execXtalLoss s
  | .boostRequest q => Sys2Proof.Machine.execBoostRequest q s
  | .burstExpiry q => Sys2Proof.Machine.execBurstExpiry q s
  | .regulatorReport anvil => Sys2Proof.Machine.execRegulatorReport anvil s
  | .avsTimeout anvil => Sys2Proof.Machine.execAvsTimeout anvil s
  | .ocAlert => Sys2Proof.Machine.execOcAlert s
  | .ocHoldExpiry => Sys2Proof.Machine.execOcHoldExpiry s
  | .napEntry delay => Sys2Proof.Machine.execNapEntry delay s
  | .handshakeRetry delay => Sys2Proof.Machine.execHandshakeRetry delay s
  | .standbyEntry delay => Sys2Proof.Machine.execStandbyEntry delay s
  | .wake env => Sys2Proof.Machine.execWake env s
  | .regionOn r => Sys2Proof.Machine.execRegionOn r s
  | .regionGatedClock r delay => Sys2Proof.Machine.execRegionGatedClock r delay s
  | .regionRetain r delay => Sys2Proof.Machine.execRegionRetain r delay s
  | .regionOff r delay => Sys2Proof.Machine.execRegionOff r delay s
  | .regionWakeDone r => Sys2Proof.Machine.execRegionWakeDone r s
  | .autoIdle r => Sys2Proof.Machine.execAutoIdle r s
  | .sensorConversion n reading stopped => Sys2Proof.Machine.execSensorConversion n reading stopped s
  | .thermalCapStep u => Sys2Proof.Machine.execThermalCapStep u s
  | .capLift u => Sys2Proof.Machine.execCapLift u s
  | .billetImplausible site => Sys2Proof.Machine.execBilletImplausible site s
  | .faultEvent code detail => Sys2Proof.Machine.execFaultEvent code detail s
  | .collectorMismatch => Sys2Proof.Machine.execCollectorMismatch s
  | .quenchRelease => Sys2Proof.Machine.execQuenchRelease s
  | .perFunctionReset f env => Sys2Proof.Machine.execPerFunctionReset f env s
  | .f0Restart verifies => Sys2Proof.Machine.execF0Restart verifies s
  | .billetInternalReset site => Sys2Proof.Machine.execBilletInternalReset site s
  | .fltHeartbeat beat => Sys2Proof.Machine.execFltHeartbeat beat s
  | .heartbeatMiss verifies => Sys2Proof.Machine.execHeartbeatMiss verifies s
  | .clearC2 => Sys2Proof.Machine.execClearC2 s
  | .coldReset => Sys2Proof.Machine.execColdReset s
  | .startSequence env => Sys2Proof.Machine.execStartSequence env s
  | .startTimeout => Sys2Proof.Machine.execStartTimeout s
  | .csrRd h => Sys2Proof.Machine.execCsrRd h s
  | .csrWr h ws => Sys2Proof.Machine.execCsrWr h ws s
  | .memRd h => Sys2Proof.Machine.execMemRd h s
  | .memWr h ws => Sys2Proof.Machine.execMemWr h ws s
  | .assign h => Sys2Proof.Machine.execAssign h s
  | .assignAck p => Sys2Proof.Machine.execAssignAck p s
  | .assignEnd p => Sys2Proof.Machine.execAssignEnd p s
  | .unassign => Sys2Proof.Machine.execUnassign s
  | .resp p => Sys2Proof.Machine.execResp p s
  | .event p => Sys2Proof.Machine.execEvent p s
  | .evtCredit h => Sys2Proof.Machine.execEvtCredit h s
  | .spasenReplay dn again => Sys2Proof.Machine.execSpasenReplay dn again s
  | .spasenPortDown dn => Sys2Proof.Machine.execSpasenPortDown dn s
  | .fabricNumberAssign val => Sys2Proof.Machine.execFabricNumberAssign val s
  | .flashRecordWrite progOk => Sys2Proof.Machine.execFlashRecordWrite progOk s
  | .flashSlotSwitch verifies progOk => Sys2Proof.Machine.execFlashSlotSwitch verifies progOk s
  | .attestationReport => Sys2Proof.Machine.execAttestationReport s
  | .fuseSequence => Sys2Proof.Machine.execFuseSequence s
  | .fuseWindowCheck => Sys2Proof.Machine.execFuseWindowCheck s
  | .saveCalibrationImage progOk => Sys2Proof.Machine.execSaveCalibrationImage progOk s
  | .secExtend => Sys2Proof.Machine.execSecExtend s
  | .smbusSetPointer addr pecOk => Sys2Proof.Machine.execSmbusSetPointer addr pecOk s
  | .smbusRead pecOk => Sys2Proof.Machine.execSmbusRead pecOk s
  | .smbusWrite val pecOk => Sys2Proof.Machine.execSmbusWrite val pecOk s
  | .smbusHealth => Sys2Proof.Machine.execSmbusHealth s
  | .smbusTemp => Sys2Proof.Machine.execSmbusTemp s
  | .smbusAlertResponse => Sys2Proof.Machine.execSmbusAlertResponse s
  | .idcode => Sys2Proof.Machine.execIdcode s
  | .samplePreload load => Sys2Proof.Machine.execSamplePreload load s
  | .extest => Sys2Proof.Machine.execExtest s
  | .clamp => Sys2Proof.Machine.execClamp s
  | .highz => Sys2Proof.Machine.execHighz s
  | .dbg dr => Sys2Proof.Machine.execDbg dr s
  | .bypass => Sys2Proof.Machine.execBypass s
  | .guestRequest g p => Sys2Proof.Machine.execGuestRequest g p s
  | .guestInboundRequest g id => Sys2Proof.Machine.execGuestInboundRequest g id s
  | .claim => Sys2Proof.Machine.execClaim s
  | .release => Sys2Proof.Machine.execRelease s
  | .resync => Sys2Proof.Machine.execResync s
  | .ownInRise => Sys2Proof.Machine.execOwnInRise s
  | .gatesOpen => Sys2Proof.Machine.execGatesOpen s
  | .switchOver => Sys2Proof.Machine.execSwitchOver s
  | .mirrorEpochClose => Sys2Proof.Machine.execMirrorEpochClose s
  | .mirrorRecord r resync => Sys2Proof.Machine.execMirrorRecord r resync s
  | .mirrorCommit epoch resync => Sys2Proof.Machine.execMirrorCommit epoch resync s
  | .mirrorLinkTimeout => Sys2Proof.Machine.execMirrorLinkTimeout s
  | .takeover g p half f => Sys2Proof.Machine.execTakeover g p half f s
  | .spasenPortUp dn => Sys2Proof.Machine.execSpasenPortUp dn s
  | .aliveToggle => Sys2Proof.Machine.execAliveToggle s
  | .vaonBrownout => Sys2Proof.Machine.execVaonBrownout s
  | .billetControlFault site => Sys2Proof.Machine.execBilletControlFault site s
  | .tapReset => Sys2Proof.Machine.execTapReset s
  | .l1PacketAcknowledgement id => Sys2Proof.Machine.execL1PacketAcknowledgement id s
  | .periodicCalibration l cal => Sys2Proof.Machine.execPeriodicCalibration l cal s

end Sys2Proof.Machine
end

