-- ==== Sys2Proof/Machine/Tick.lean ====
section
/-! DEFINITION. What passes with time when no command waits: one 4 ns period of the 250 MHz reference. Everything else
the manual lets happen with time is a command of its own, guarded by the ticks the state holds. -/

namespace Sys2Proof.Machine

/-- Core cycles a region's clock could give in the period that begins at tick `now`, at `mhz` MHz; those its stretched
cycles have cost it; and those it counts (R347). -/
def cyclesIn (now mhz : Nat) : Nat := (now + 1) * mhz / 250 - now * mhz / 250
def cyclesLost (s : State) (r : Nat) : Nat := min (cyclesIn s.now (regionMHz s r)) (Tab.get 0 s.lag r / 65536)
def cyclesOf (s : State) (r : Nat) : Nat := cyclesIn s.now (regionMHz s r) - cyclesLost s r

/-- A core paused in WAITT or FFENCE counts its cycles while its region runs: the pause is no stall, and fetch reads on
(R19, R27, R38, R49). In every state but RUNNING CORE_CYCLES holds, as the map says of a halted core. (DESIGN CHOICE, log 10) -/
def tickCore (s : State) (c : Nat) (k : Core) : Core :=
  if k.st = .running ∧ k.pause.isSome = true ∧ s.regionState (regionOf c) = 0 ∧ s.frozen = false then
    let n := cyclesOf s (regionOf c)
    readAhead s.mem c n (coast n k) else k

/-- Every core of a table, each seen by its index; cores as at reset stay unlisted. -/
def mapCores (f : Nat → Core → Core) (t : Tab Core) : Tab Core :=
  (t.map (fun e => (e.1, f e.1 e.2))).filter (fun e => decide (e.2 ≠ Core.reset))

/-- Regions in which a core is RUNNING: their idle time begins afresh (R361). -/
def busyRegions (s : State) : List Nat :=
  s.cores.filterMap (fun e => if e.2.st = .running then some (regionOf e.1) else none)

/-- One 4 ns period of the reference: the tick count runs (R342), paused cores count cycles, busy regions are not idle
(R361), the electrical bundles carry what waits at them (R304), the homes may write each line once more (R204), and the mirror link carries what is waiting (R440). (DESIGN CHOICE, log 2) -/
def tickPass (s : State) : State :=
  let s := wiresPass s
  sendRecords
    { s with
      now := s.now + 1
      lag := s.lag.foldl (fun t e => Tab.put 0 t e.1 (e.2 - 65536 * cyclesLost s e.1)) s.lag
      tick := if s.tickRuns then s.tick + 1 else s.tick
      cores := mapCores (tickCore s) s.cores
      wrLines := []
      idleAt := (busyRegions s).foldl (fun t r => Tab.put 0 t r (s.now + 1)) s.idleAt }

end Sys2Proof.Machine
end

