-- ==== Sys2Proof/Machine/Step.lean ====
section
/-! DEFINITION. One step: the command at the front of the queue, or one period of the reference when none waits. -/

namespace Sys2Proof.Machine

/-- Run the command at the front of the queue on the state with the queue's rest; with no command, time passes. (DESIGN CHOICE, log 2, log 49) -/
def step (s : State) : Host.Outcome State Fault Refusal :=
  match s.pending with
  | [] => .next (tickPass s)
  | c :: cs => exec c { s with pending := cs }

/-- The state with the command that a table word spells in front of its queue; unchanged where it spells none. (DESIGN CHOICE, log 49) -/
def State.withFetchWord (s : State) (nbits w : Nat) : State :=
  match Sys2Proof.decodeTableWord nbits w with
  | some c => { s with pending := c :: s.pending }
  | none => s

end Sys2Proof.Machine
end

