-- ==== Sys2Proof/WellFormed.lean ====
section
/-! DEFINITION. Which commands name parts the device has. The operand types bound every other field: a core, a site, an
endpoint, a port, a sensor always exists. -/

namespace Sys2Proof

/-- The link is one of R322's and the lane one of its lanes (R309). -/
def linkNamed (l : LinkId) (lane : BitVec 9) : Bool :=
  Machine.linkExists l.kind.toNat l.index.toNat && decide (lane.toNat < Machine.linkTotal l.kind.toNat)

/-- The lanes that test results name exist. -/
def testsNamed (l : List (LinkId × LaneTest)) : Bool := l.all (fun x => linkNamed x.1 x.2.lane)

/-- The optical lane is one that OPT_SEL can name (R340). -/
def laneNamed (l : OLane) : Bool := Machine.olaneOk l.kind.toNat l.index.toNat l.lane.toNat

/-- The endpoint has an ownership table: it is a stack or a crucible (R196). -/
def homeNamed (e : EpId) : Bool := decide (e.val % 5 ≤ 2)

/-- Every part the command names exists. (DESIGN CHOICE, log 4) -/
def wellFormed (i : Instr) : Bool :=
  match i with
  | .nop _ _ => true
  | .alu _ _ _ _ _ _ => true
  | .addi _ _ _ _ _ => true
  | .andi _ _ _ _ _ => true
  | .ori _ _ _ _ _ => true
  | .xori _ _ _ _ _ => true
  | .slti _ _ _ _ _ => true
  | .sltiu _ _ _ _ _ => true
  | .slli _ _ _ _ _ => true
  | .srli _ _ _ _ _ => true
  | .srai _ _ _ _ _ => true
  | .orsh _ _ _ _ _ => true
  | .beq _ _ _ _ _ => true
  | .bne _ _ _ _ _ => true
  | .blt _ _ _ _ _ => true
  | .bge _ _ _ _ _ => true
  | .bltu _ _ _ _ _ => true
  | .bgeu _ _ _ _ _ => true
  | .j _ _ _ => true
  | .jal _ _ _ => true
  | .jalr _ _ _ _ _ => true
  | .loop _ _ _ _ _ => true
  | .loopBackEdge _ => true
  | .waitt _ _ _ _ _ => true
  | .halt _ _ _ => true
  | .trap _ _ _ => true
  | .breakpointStop _ => true
  | .srd _ _ _ _ _ => true
  | .swr _ _ _ _ _ => true
  | .ldx _ _ _ _ _ => true
  | .stx _ _ _ _ _ => true
  | .ldv16 _ _ _ _ _ => true
  | .ldv32 _ _ _ _ _ => true
  | .ldv64 _ _ _ _ _ => true
  | .ldv _ _ _ _ _ => true
  | .stv16 _ _ _ _ _ => true
  | .stv32 _ _ _ _ _ => true
  | .stv64 _ _ _ _ _ => true
  | .stv _ _ _ _ _ => true
  | .ldp _ _ _ _ _ => true
  | .stp _ _ _ _ _ => true
  | .bldx _ _ _ _ _ => true
  | .bstx _ _ _ _ _ => true
  | .bldv _ _ _ _ _ => true
  | .bstv _ _ _ _ _ => true
  | .billetLoadReturn _ => true
  | .fld _ _ _ _ _ _ _ _ _ _ => true
  | .fst _ _ _ _ _ _ _ _ _ => true
  | .fstf _ _ _ _ _ _ _ _ _ => true
  | .fat _ _ _ _ _ _ _ _ _ _ => true
  | .fred _ _ _ _ _ _ _ _ _ _ => true
  | .fmcs _ _ _ _ _ _ _ _ _ _ => true
  | .ffence _ _ _ _ _ => true
  | .fenceTimeout _ => true
  | .ownx _ _ _ _ _ _ _ _ _ _ => true
  | .ownr _ _ _ _ _ _ _ _ _ _ => true
  | .etag _ _ _ _ _ => true
  | .eview _ _ _ _ _ => true
  | .ecommit _ _ _ _ _ _ _ _ _ _ => true
  | .bulkq _ _ _ _ _ _ _ _ _ _ => true
  | .bulkPacketStart _ _ => true
  | .descriptorCompletion _ => true
  | .vfp _ _ _ _ _ _ _ => true
  | .vint _ _ _ _ _ _ _ => true
  | .vlog _ _ _ _ _ _ _ => true
  | .vcmp _ _ _ _ _ _ _ => true
  | .vpred _ _ _ _ _ _ _ => true
  | .vxcn _ _ _ _ _ _ _ => true
  | .vperm _ _ _ _ _ _ _ => true
  | .vred _ _ _ _ _ _ _ => true
  | .vcvtRne _ _ _ _ _ _ _ => true
  | .vcvtRtz _ _ _ _ _ _ _ => true
  | .vcvtSr _ _ _ _ _ _ _ => true
  | .mma _ _ _ _ _ _ _ _ _ => true
  | .aclr _ _ _ _ => true
  | .acvt _ _ _ _ _ _ _ _ _ _ _ _ => true
  | .awr _ _ _ _ _ _ => true
  | .bankYield _ _ _ => true
  | .start _ => true
  | .stop _ => true
  | .stopDrainDone _ => true
  | .resume _ => true
  | .step _ => true
  | .siteGo _ => true
  | .debugDataRead _ _ _ => true
  | .debugDataWrite _ _ _ _ => true
  | .siteJobCfgWrite _ _ _ _ => true
  | .coreFence _ => true
  | .registerWrite _ _ _ => true
  | .routerForward _ _ _ => true
  | .redholdExpiry _ => true
  | .multicastAnswer _ => true
  | .routerFault _ => true
  | .billetRequest _ _ _ _ => true
  | .scrubRead _ _ => true
  | .billetCfgWrite _ _ => true
  | .hearthPortRequest _ => true
  | .rd _ => true
  | .wr8 _ => true
  | .wr _ => true
  | .mcs8 _ => true
  | .mcs _ => true
  | .fatAtHome _ => true
  | .fredAtHome _ => true
  | .ownxAtHome _ => true
  | .ownrAtHome _ => true
  | .ecommitAtHome _ => true
  | .epochStateChange _ => true
  | .commitDrainWriteback _ _ _ => true
  | .epochFree _ _ => true
  | .ack _ => true
  | .data8 _ => true
  | .data _ => true
  | .heldRequestRelease _ => true
  | .flagWriteRelease _ => true
  | .ownCfgWrite ep _ => homeNamed ep
  | .ownForceRelRegion ep _ => homeNamed ep
  | .ownForceRelAll ep => homeNamed ep
  | .creditReturn _ _ _ => true
  | .inputQueueRelease _ => true
  | .combEntryFree _ => true
  | .gatewayRedholdExpiry _ _ => true
  | .jobKill _ => true
  | .jobKillDone => true
  | .jobKillRelease _ => true
  | .grantRequest _ _ => true
  | .grant _ _ => true
  | .grantEnd _ _ => true
  | .l0Packet _ => true
  | .loopFailure _ => true
  | .opticalWindowFail _ _ => true
  | .waveguideFailure _ _ => true
  | .gwPortCfgWrite _ _ _ => true
  | .portTraining _ _ _ _ _ => true
  | .portTrainingTimeout _ _ _ => true
  | .portTrainingRetry _ _ _ => true
  | .mismatchRecheck _ _ _ _ => true
  | .portLaneFailure _ _ _ => true
  | .portDown _ _ _ => true
  | .linkFrame _ _ => true
  | .e2eAck _ _ _ => true
  | .rtoExpiry _ _ => true
  | .deadTimeout _ => true
  | .gwRouteWrite _ _ => true
  | .revive _ => true
  | .pcArbiterGrant _ _ _ _ => true
  | .ageCap _ _ => true
  | .refresh _ _ _ => true
  | .hbmTempRead _ _ _ _ _ => true
  | .crucScrubRead _ _ => true
  | .pcFailed _ _ => true
  | .hbmInit _ _ => true
  | .replay l lane => linkNamed l lane
  | .laneMonitorProbe l lane _ => linkNamed l lane
  | .spareSwap l lane => linkNamed l lane
  | .linkDegrade l lane => linkNamed l lane
  | .fullRetrain l lanes => linkNamed l 0 && lanes.all (fun x => linkNamed l x.lane)
  | .fieldSelfTest _ lanes => testsNamed lanes
  | .lockUpdate l _ _ _ => laneNamed l
  | .wrongLineLock l _ => laneNamed l
  | .laserDriveUpdate _ _ _ _ => true
  | .combSwap _ _ _ _ => true
  | .quietGap _ => true
  | .forceSwap _ _ _ _ => true
  | .combDark _ _ => true
  | .imageSnapshot => true
  | .imageRead _ => true
  | .stepSwitch _ _ => true
  | .droopStretch _ _ => true
  | .refclkLoss => true
  | .refclkRestored => true
  | .holdoverTimeout => true
  | .referenceLoss _ => true
  | .xtalLoss => true
  | .boostRequest _ => true
  | .burstExpiry _ => true
  | .regulatorReport _ => true
  | .avsTimeout _ => true
  | .ocAlert => true
  | .ocHoldExpiry => true
  | .napEntry _ => true
  | .handshakeRetry _ => true
  | .standbyEntry _ => true
  | .wake env => testsNamed env.lanes && env.cals.all (fun x => laneNamed x.1)
  | .regionOn _ => true
  | .regionGatedClock _ _ => true
  | .regionRetain _ _ => true
  | .regionOff _ _ => true
  | .regionWakeDone _ => true
  | .autoIdle _ => true
  | .sensorConversion _ _ _ => true
  | .thermalCapStep _ => true
  | .capLift _ => true
  | .billetImplausible _ => true
  | .faultEvent _ _ => true
  | .collectorMismatch => true
  | .quenchRelease => true
  | .perFunctionReset _ env => testsNamed env.lanes
  | .f0Restart _ => true
  | .billetInternalReset _ => true
  | .fltHeartbeat _ => true
  | .heartbeatMiss _ => true
  | .clearC2 => true
  | .coldReset => true
  | .startSequence env => testsNamed env.lanes && env.cals.all (fun x => laneNamed x.1)
  | .startTimeout => true
  | .csrRd _ => true
  | .csrWr _ _ => true
  | .memRd _ => true
  | .memWr _ _ => true
  | .assign _ => true
  | .assignAck _ => true
  | .assignEnd _ => true
  | .unassign => true
  | .resp _ => true
  | .event _ => true
  | .evtCredit _ => true
  | .spasenReplay _ _ => true
  | .spasenPortDown _ => true
  | .fabricNumberAssign _ => true
  | .flashRecordWrite _ => true
  | .flashSlotSwitch _ _ => true
  | .attestationReport => true
  | .fuseSequence => true
  | .fuseWindowCheck => true
  | .saveCalibrationImage _ => true
  | .secExtend => true
  | .smbusSetPointer _ _ => true
  | .smbusRead _ => true
  | .smbusWrite _ _ => true
  | .smbusHealth => true
  | .smbusTemp => true
  | .smbusAlertResponse => true
  | .idcode => true
  | .samplePreload _ => true
  | .extest => true
  | .clamp => true
  | .highz => true
  | .dbg _ => true
  | .bypass => true
  | .guestRequest _ _ => true
  | .guestInboundRequest _ _ => true
  | .claim => true
  | .release => true
  | .resync => true
  | .ownInRise => true
  | .gatesOpen => true
  | .switchOver => true
  | .mirrorEpochClose => true
  | .mirrorRecord _ _ => true
  | .mirrorCommit _ _ => true
  | .mirrorLinkTimeout => true
  | .takeover _ _ _ _ => true
  | .spasenPortUp _ => true
  | .aliveToggle => true
  | .vaonBrownout => true
  | .billetControlFault _ => true
  | .tapReset => true
  | .l1PacketAcknowledgement _ => true
  | .periodicCalibration l _ => laneNamed l

end Sys2Proof
end

