-- ==== Sys2Proof/Safety.lean ====
section
/-! DEFINITION. The terms in which claims about the device are stated: a bundle that issues, what a command leaves
alone, and the invariants of a run. -/

namespace Sys2Proof.Machine

/-! ### The state with one part replaced -/

/-- The state with other cores. -/
def State.withCores (s : State) (x : Tab Core) : State := { s with cores := x }
/-- The state with another memory. -/
def State.withMem (s : State) (m : Memory) : State := { s with mem := m }

/-- A core with its place in the program and its issue timing blanked: what is left is the registers, the accumulators
and their groups, the counters, the job, the requests and the state of the core. -/
def Core.still (k : Core) : Core :=
  { k with next := 0, edge := false, loops := [], begun := false, cycles := 0, pipe := 0, stall := 0, ready := [], array := 0, fetch := [],
           loopBuf := [], noBreak := false, kept := [] }

/-! ### A bundle that issues (R18, R43–R47, R56, R68) -/

/-- The state in the core's issue cycle: the loops' back edges taken and the interlock's stall cycles counted. -/
def issueState (s : State) (c : Nat) (a b : Slot) : State :=
  let s := s.modCore c settle
  let n := waitCycles (s.core c) (bundleKeys a b) b.array
  if n = 0 then s else s.modCore c (fun k => readAhead s.mem c n (interlock n k))

/-- The core in its issue cycle. -/
def issueCore (s : State) (c : Nat) (a b : Slot) : Core := (issueState s c a b).core c

/-- The bundle issues and both slots take effect: the core may issue and is not in a Step, no breakpoint, trap cause or pending load stands
against it, and the engine it needs has room. -/
def bundleRuns (s : State) (c : Nat) (a b : Slot) : Bool :=
  mayIssue s c && !(s.core c).stepping && !breakHit (s.modCore c settle) c (settle (s.core c)) &&
    decide ((settle (s.core c)).next.toNat < 32768) && !conflict a b && !a.illegal && !b.illegal &&
    !((bundleKeys a b).any (fun i => (pendingLoads (settle (s.core c))).contains i)) &&
    (a.cause (issueState s c a b) c (issueCore s c a b)).isNone && !engineFull (issueCore s c a b) a.need

/-- The bundle comes as far as the causes that depend on the core's registers: the core may issue, no breakpoint, fetch,
conflict or slot A encoding cause stops it, and no load is pending on its registers (R56). -/
def bundleReaches (s : State) (c : Nat) (a b : Slot) : Bool :=
  mayIssue s c && !breakHit (s.modCore c settle) c (settle (s.core c)) &&
    decide ((settle (s.core c)).next.toNat < 32768) && !conflict a b && !a.illegal &&
    !((bundleKeys a b).any (fun i => (pendingLoads (settle (s.core c))).contains i))

/-- The core `c` has trapped precisely (R54, R55): FAULT_INFO holds the word given, the groups are closed, the pause is
over, SITE_TRAPPED shows it; no other register of the core, no other core and no byte of memory has changed. -/
def trappedWith (c : Nat) (fault : DWord) (s t : State) : Prop :=
  (t.core c).still = ({ (s.core c).closeAll with st := .trapped, fault := fault, pause := none, trapPend := none, stepping := false } : Core).still ∧
    (∀ d, d ≠ c → t.core d = s.core d) ∧ t.mem = s.mem ∧ t.pool = s.pool ∧ t.pending = s.pending ∧
    t.rf (siteBase (c / 256) + 0x300 + 4 * (c % 256 / 32)) (c % 32) 1 = 1

/-- The state with slot B's effect alone. -/
def beside (s : State) (c : Nat) (a b : Slot) : State := b.run c (issueCore s c a b) (issueState s c a b)

/-- Wherever the bundle `a`, `b` issues on core `c`, command `i` answers a next state in which slot A has done `f` to
the core beside slot B's effect, the next bundle is `nxt`, and nothing else has changed. -/
def slotADoes (i : Instr) (c : Nat) (a b : Slot) (f : Core → Core) (nxt : BitVec 16) (s : State) : Prop :=
  bundleRuns s c a b = true →
    ∃ t, exec i s = .next t ∧ (∀ d, d ≠ c → t.core d = s.core d) ∧ t.withCores s.cores = s ∧
      (t.core c).still = (f ((beside s c a b).core c)).still ∧ (t.core c).next = nxt

/-- Wherever the bundle `a`, `b` issues on core `c`, command `i` answers what slot A makes of a state in which slot B
has done `f` to the core and nothing else has changed. -/
def slotBDoes (i : Instr) (c : Nat) (a b : Slot) (f : Core → Core) (s : State) : Prop :=
  bundleRuns s c a b = true →
    ∃ u, exec i s = .next (a.post c (a.run c (issueCore s c a b) u)) ∧ (∀ d, d ≠ c → u.core d = s.core d) ∧
      u.withCores s.cores = s ∧ (u.core c).still = (f (s.core c)).still

/-- Wherever the bundle `a`, `b` issues, command `i` takes the lowest free entry of core `c` for a request that `is` describes,
with the counter and the destination given, and numbers it; nothing else of the device changes beside slot B's effect. The
request waits last in its core's engine, its block store yet to be read; or, where the device has no fabric number, its job
is being killed or R94 does not let the multicast go (R172, R223), it is answered at once. -/
def requests (i : Instr) (c : Nat) (a b : Slot) (tc : BitVec 3) (dst : Dest) (blk : Option (Nat × Nat)) (is : Pkt → Prop)
    (s : State) : Prop :=
  ∃ q : Pkt, is q ∧ q.job = (s.core c).jobTag ∧ q.srcFab = BitVec.ofNat 6 s.fabNum ∧
    q.srcEp = BitVec.ofNat 5 (siteEp (c / 256)) ∧ q.srcCore = BitVec.ofNat 8 c ∧ q.eng = 0 ∧
    q.tag = BitVec.ofNat 8 (freeTag (s.core c)) ∧ q.seq = Tab.get 0 s.seqs (seqKey q) ∧
    (bundleRuns s c a b = true →
      ∃ t it, exec i s = .next t ∧ t.pool = s.pool ++ [it] ∧ (∀ d, d ≠ c → t.core d = s.core d) ∧
        t.seqs = Tab.put 0 s.seqs (seqKey q) (q.seq + 1) ∧
        { t with cores := s.cores, pool := s.pool, seqs := s.seqs, nextId := s.nextId } = s ∧
        (t.core c).still = ({ (beside s c a b).core c with
          fe := Tab.put none (s.core c).fe (freeTag (s.core c)) (some ⟨tc, dst⟩) } : Core).still ∧
        (let st := sourceStatus s q (mcastBad s c q)
         (st = 0 → it.pkt = q ∧ it.loc = .engine ∧ it.blk = blk) ∧
         (st ≠ 0 → it.loc = .resp ∧ it.pkt.tag = q.tag ∧ it.pkt.comp = compWord st (ackCount q) false)))

/-- `out` is what the `n` values `v` convert to in element type `d`, in ascending order: with `sr` each that rounds takes one
draw of the generator, which goes from `g` to `g'` (R113, R136). -/
def convertsTo (d : Nat) (sat : Bool) (mode : Rnd) (sr : Bool) (n : Nat) (v : Nat → FVal) (g : DWord) (out : Nat → Nat)
    (g' : DWord) : Prop :=
  ∃ G : Nat → DWord, G 0 = g ∧ G n = g' ∧ ∀ i < n,
    if sr && etInexact d (v i) then
      G (i + 1) = (srDraw (G i)).1 ∧ out i = etEncode d sat (.sr ((srDraw (G i)).2.toNat / 2 ^ 32)) (v i) % 2 ^ etBits d
    else G (i + 1) = G i ∧ out i = etEncode d sat mode (v i) % 2 ^ etBits d

/-- Request `id` stands at its home, endpoint `e`, and the home serves it now: it has its turn, nothing holds it, no status
of R183 stops it unless its core store is already moving its lines, its target is awake, a memory request has been taken
from its queue, its mirror buffer has room, and nothing is being done to its lines. -/
def servedAt (s : State) (id e : Nat) (it : Item) : Prop :=
  s.quench = false ∧ s.item id = some it ∧ placeEp it.loc = some e ∧ it.held = false ∧ it.lead = none ∧
    isResp it.pkt = false ∧ toGuest it.pkt = false ∧ islandHolds s it = false ∧ homeTurn s it = true ∧
    (underWay it = true ∨ itemStatus s it = 0) ∧ mustWake s it.pkt = none ∧ (memOp it.pkt = true → it.loc = .ready e) ∧
    (memOp it.pkt && mirrorBlocked s e it) = false ∧ lineBusy s (capOf s it) it = false

/-! ### Bundle words (R43, R72, R100) -/

/-- The bundle that a command of one issue cycle puts into the word of an instruction stream, and its core. -/
def bundleOf (i : Instr) : Option (CoreId × DWord) :=
  match i with
  | .nop c b => some (c, bundle (0#32) b)
  | .alu c rd rs1 rs2 fn b => some (c, bundle (encR 0x01#6 rd rs1 rs2 fn) b)
  | .addi c rd rs1 imm b => some (c, bundle (encI 0x02#6 rd rs1 imm) b)
  | .andi c rd rs1 imm b => some (c, bundle (encI 0x03#6 rd rs1 imm) b)
  | .ori c rd rs1 imm b => some (c, bundle (encI 0x04#6 rd rs1 imm) b)
  | .xori c rd rs1 imm b => some (c, bundle (encI 0x05#6 rd rs1 imm) b)
  | .slti c rd rs1 imm b => some (c, bundle (encI 0x06#6 rd rs1 imm) b)
  | .sltiu c rd rs1 imm b => some (c, bundle (encI 0x07#6 rd rs1 imm) b)
  | .slli c rd rs1 imm b => some (c, bundle (encI 0x08#6 rd rs1 imm) b)
  | .srli c rd rs1 imm b => some (c, bundle (encI 0x09#6 rd rs1 imm) b)
  | .srai c rd rs1 imm b => some (c, bundle (encI 0x0A#6 rd rs1 imm) b)
  | .orsh c rd rs1 imm b => some (c, bundle (encI 0x0B#6 rd rs1 imm) b)
  | .beq c rs1 rs2 off b => some (c, bundle (encI 0x10#6 rs1 rs2 off) b)
  | .bne c rs1 rs2 off b => some (c, bundle (encI 0x11#6 rs1 rs2 off) b)
  | .blt c rs1 rs2 off b => some (c, bundle (encI 0x12#6 rs1 rs2 off) b)
  | .bge c rs1 rs2 off b => some (c, bundle (encI 0x13#6 rs1 rs2 off) b)
  | .bltu c rs1 rs2 off b => some (c, bundle (encI 0x14#6 rs1 rs2 off) b)
  | .bgeu c rs1 rs2 off b => some (c, bundle (encI 0x15#6 rs1 rs2 off) b)
  | .j c off b => some (c, bundle (encJ 0x16#6 off) b)
  | .jal c off b => some (c, bundle (encJ 0x17#6 off) b)
  | .jalr c rd rs1 imm b => some (c, bundle (encI 0x18#6 rd rs1 imm) b)
  | .loop c rd rs1 imm b => some (c, bundle (encI 0x19#6 rd rs1 imm) b)
  | .waitt c rd rs1 imm b => some (c, bundle (encI 0x1A#6 rd rs1 imm) b)
  | .halt c off b => some (c, bundle (encJ 0x1B#6 off) b)
  | .trap c off b => some (c, bundle (encJ 0x1C#6 off) b)
  | .srd c rd rs1 imm b => some (c, bundle (encI 0x1D#6 rd rs1 imm) b)
  | .swr c rd rs1 imm b => some (c, bundle (encI 0x1E#6 rd rs1 imm) b)
  | .ldx c rd rs1 imm b => some (c, bundle (encI 0x20#6 rd rs1 imm) b)
  | .stx c rd rs1 imm b => some (c, bundle (encI 0x21#6 rd rs1 imm) b)
  | .ldv16 c rd rs1 imm b => some (c, bundle (encI 0x22#6 rd rs1 imm) b)
  | .ldv32 c rd rs1 imm b => some (c, bundle (encI 0x23#6 rd rs1 imm) b)
  | .ldv64 c rd rs1 imm b => some (c, bundle (encI 0x24#6 rd rs1 imm) b)
  | .ldv c rd rs1 imm b => some (c, bundle (encI 0x25#6 rd rs1 imm) b)
  | .stv16 c rd rs1 imm b => some (c, bundle (encI 0x26#6 rd rs1 imm) b)
  | .stv32 c rd rs1 imm b => some (c, bundle (encI 0x27#6 rd rs1 imm) b)
  | .stv64 c rd rs1 imm b => some (c, bundle (encI 0x28#6 rd rs1 imm) b)
  | .stv c rd rs1 imm b => some (c, bundle (encI 0x29#6 rd rs1 imm) b)
  | .ldp c rd rs1 imm b => some (c, bundle (encI 0x2A#6 rd rs1 imm) b)
  | .stp c rd rs1 imm b => some (c, bundle (encI 0x2B#6 rd rs1 imm) b)
  | .bldx c rd rs1 imm b => some (c, bundle (encI 0x2C#6 rd rs1 imm) b)
  | .bstx c rd rs1 imm b => some (c, bundle (encI 0x2D#6 rd rs1 imm) b)
  | .bldv c rd rs1 imm b => some (c, bundle (encI 0x2E#6 rd rs1 imm) b)
  | .bstv c rd rs1 imm b => some (c, bundle (encI 0x2F#6 rd rs1 imm) b)
  | .fld c rd rs1 rs2 cls ord flag size hint b => some (c, bundle (encF 0x30#6 rd rs1 rs2 cls ord flag size hint) b)
  | .fat c rd rs1 rs2 cls ord flag size hint b => some (c, bundle (encF 0x32#6 rd rs1 rs2 cls ord flag size hint) b)
  | .fred c rd rs1 rs2 cls ord flag size hint b => some (c, bundle (encF 0x33#6 rd rs1 rs2 cls ord flag size hint) b)
  | .fmcs c rd rs1 rs2 cls ord flag size hint b => some (c, bundle (encF 0x34#6 rd rs1 rs2 cls ord flag size hint) b)
  | .ownx c rd rs1 rs2 cls ord flag size hint b => some (c, bundle (encF 0x36#6 rd rs1 rs2 cls ord flag size hint) b)
  | .ownr c rd rs1 rs2 cls ord flag size hint b => some (c, bundle (encF 0x37#6 rd rs1 rs2 cls ord flag size hint) b)
  | .ecommit c rd rs1 rs2 cls ord flag size hint b => some (c, bundle (encF 0x3A#6 rd rs1 rs2 cls ord flag size hint) b)
  | .bulkq c rd rs1 rs2 cls ord flag size hint b => some (c, bundle (encF 0x3B#6 rd rs1 rs2 cls ord flag size hint) b)
  | .fst c rd rs1 rs2 cls ord size hint b => some (c, bundle (encF 0x31#6 rd rs1 rs2 cls ord false size hint) b)
  | .fstf c rd rs1 rs2 cls ord size hint b => some (c, bundle (encF 0x31#6 rd rs1 rs2 cls ord true size hint) b)
  | .ffence c rd rs1 imm b => some (c, bundle (encI 0x35#6 rd rs1 imm) b)
  | .etag c rd rs1 imm b => some (c, bundle (encI 0x38#6 rd rs1 imm) b)
  | .eview c rd rs1 imm b => some (c, bundle (encI 0x39#6 rd rs1 imm) b)
  | .vfp c vd vs1 vs2 pm fn a => some (c, bundle a (encV 0x01#6 vd vs1 vs2 pm fn))
  | .vint c vd vs1 vs2 pm fn a => some (c, bundle a (encV 0x02#6 vd vs1 vs2 pm fn))
  | .vlog c vd vs1 vs2 pm fn a => some (c, bundle a (encV 0x03#6 vd vs1 vs2 pm fn))
  | .vcmp c vd vs1 vs2 pm fn a => some (c, bundle a (encV 0x04#6 vd vs1 vs2 pm fn))
  | .vpred c vd vs1 vs2 pm fn a => some (c, bundle a (encV 0x05#6 vd vs1 vs2 pm fn))
  | .vxcn c vd vs1 vs2 pm fn a => some (c, bundle a (encV 0x06#6 vd vs1 vs2 pm fn))
  | .vperm c vd vs1 vs2 pm fn a => some (c, bundle a (encV 0x07#6 vd vs1 vs2 pm fn))
  | .vred c vd vs1 vs2 pm fn a => some (c, bundle a (encV 0x08#6 vd vs1 vs2 pm fn))
  | .vcvtRne c vd vs1 vs2 pm fn a => some (c, bundle a (encV 0x09#6 vd vs1 vs2 pm fn))
  | .vcvtRtz c vd vs1 vs2 pm fn a => some (c, bundle a (encV 0x0A#6 vd vs1 vs2 pm fn))
  | .vcvtSr c vd vs1 vs2 pm fn a => some (c, bundle a (encV 0x0B#6 vd vs1 vs2 pm fn))
  | .mma c acc vs1 vs2 fmtA fmtB mode scale a => some (c, bundle a (encM 0x20#6 acc vs1 vs2 (fmtA ++ fmtB ++ mode ++ scale)))
  | .aclr c acc zero a => some (c, bundle a ((0x21#6 ++ acc ++ zero : Word)))
  | .acvt c acc vd row fmt rnd mul sat zero part scale a => some (c, bundle a (encM 0x22#6 acc vd row (fmt ++ rnd ++ b1 mul ++ b1 sat ++ zero ++ part ++ scale)))
  | .awr c acc vs1 row zero a => some (c, bundle a (encM 0x23#6 acc vs1 row zero))
  | _ => none

/-! ### What a command leaves alone -/

/-- Every core but `c`, and everything beside the cores, is as before. -/
def onlyCore (c : Nat) (s t : State) : Prop := (∀ d, d ≠ c → t.core d = s.core d) ∧ t.withCores s.cores = s

/-- Everything but the cores' own state and the memory is as before; of the cores only `c` may differ. -/
def onlyCoreAndMem (c : Nat) (s t : State) : Prop :=
  (∀ d, d ≠ c → t.core d = s.core d) ∧ (t.withCores s.cores).withMem s.mem = s

/-- Every byte of memory outside `lo` to `lo + n − 1` reads as before. -/
def onlyBytes (lo n : Nat) (s t : State) : Prop :=
  ∀ a, a < lo ∨ lo + n ≤ a → Memory.byte t.mem a = Memory.byte s.mem a

/-- Registers the damper writes: DAMPER_STATUS, DAMPER_GRANT and CLK_REGION (R352, R367). -/
def damperReg (a : Nat) : Bool :=
  decide (a = 0x20004) || decide (0x20300 ≤ a ∧ a < 0x20390) || decide (0x40200 ≤ a ∧ a < 0x40280)

/-- Only the damper's books, its registers, pending steps with their broadcasts, and the regulators' set points may differ. -/
def damperOnly (s t : State) : Prop :=
  { t with regs := s.regs, reqs := s.reqs, steps := s.steps, avs := s.avs, vcore := s.vcore, wires := s.wires } = s ∧
    ∀ a, damperReg a = false → t.reg a = s.reg a

/-! ### Invariants -/

/-- The memory stands in its canonical form. -/
def memOk (s : State) : Prop := Memory.wf s.mem = true

/-- The device is in quench, with the cores frozen (R389, R390). -/
def quenched (s : State) : Prop := s.quench = true ∧ s.frozen = true

end Sys2Proof.Machine
end

