-- ==== Sys2Proof/Certificates/Slice0/Obligations.lean ====
section
/-! DEFINITION. What the proofs are to show: statements from the numbered rules of spec/. -/

open Sys2Proof Sys2Proof.Machine

/-! ### The queue and the outcomes -/

/-- 95_what_each_step_holds: a step takes the command in front of the queue and runs it on the state with the queue's
rest; with none waiting, one period of the reference passes (log entry 2: the model's choice), in which no memory byte
changes and, while no bundle carries anything, no register and no packet. -/
def Obligations.StepTakesFront : Prop :=
  (∀ (c : Instr) (q : List Instr) (s : State), step { s with pending := c :: q } = exec c { s with pending := q }) ∧
  (∀ s : State, s.pending = [] → ∃ t, step s = .next t ∧ t.now = s.now + 1 ∧ t.pending = [] ∧ t.mem = s.mem ∧
    (t.tick = if s.tickRuns then s.tick + 1 else s.tick) ∧ t.wrLines = [] ∧
    (s.linksUp = false ∨ busyWires s = [] → t.regs = s.regs ∧ t.pool = s.pool))

/-- Every command that names parts the device has answers a next state: none ends a run. The others are refused. -/
def Obligations.NoCommandStops : Prop :=
  ∀ (i : Instr) (s : State),
    if wellFormed i then ∃ t, exec i s = .next t else exec i s = .refused .noSuchPart

/-! ### Slot A: scalar arithmetic (R74, R76, R77) -/

/-- R77: the immediate forms. The count of a shift is imm16[5:0]. -/
def Claims.ImmediateForms : Prop :=
  ∀ (c : CoreId) (rd rs1 : BitVec 5) (imm : BitVec 16) (b : Word) (s : State),
    let a := (s.core c).getX rs1
    let nxt := (settle (s.core c)).next + 1
    let gives (i : Instr) (sl : Slot) (v : DWord) : Prop := slotADoes i c sl (decodeB b) (fun k => k.setX rd v) nxt s
    gives (.addi c rd rs1 imm b) (slotAddi rd rs1 imm) (a + imm.signExtend 64) ∧
    gives (.andi c rd rs1 imm b) (slotAndi rd rs1 imm) (a &&& imm.setWidth 64) ∧
    gives (.ori c rd rs1 imm b) (slotOri rd rs1 imm) (a ||| imm.setWidth 64) ∧
    gives (.xori c rd rs1 imm b) (slotXori rd rs1 imm) (a ^^^ imm.setWidth 64) ∧
    gives (.slti c rd rs1 imm b) (slotSlti rd rs1 imm) (if a.toInt < imm.toInt then 1 else 0) ∧
    gives (.sltiu c rd rs1 imm b) (slotSltiu rd rs1 imm) (if a < imm.signExtend 64 then 1 else 0) ∧
    gives (.slli c rd rs1 imm b) (slotSlli rd rs1 imm) (a <<< (imm.extractLsb' 0 6)) ∧
    gives (.srli c rd rs1 imm b) (slotSrli rd rs1 imm) (a >>> (imm.extractLsb' 0 6)) ∧
    gives (.srai c rd rs1 imm b) (slotSrai rd rs1 imm) (a.sshiftRight' (imm.extractLsb' 0 6)) ∧
    gives (.orsh c rd rs1 imm b) (slotOrsh rd rs1 imm) ((a <<< 16) ||| imm.setWidth 64)

/-- R76: the ALU functions, and NOP, which writes nothing. -/
def Claims.AluFunctions : Prop :=
  ∀ (c : CoreId) (rd rs1 rs2 : BitVec 5) (b : Word) (s : State),
    let x := (s.core c).getX rs1
    let y := (s.core c).getX rs2
    let n := y.extractLsb' 0 6
    let nxt := (settle (s.core c)).next + 1
    let gives (fn : BitVec 11) (v : DWord) : Prop :=
      slotADoes (.alu c rd rs1 rs2 fn b) c (slotAlu rd rs1 rs2 fn) (decodeB b) (fun k => k.setX rd v) nxt s
    gives 0x000 (x + y) ∧ gives 0x001 (x - y) ∧ gives 0x002 (x &&& y) ∧ gives 0x003 (x ||| y) ∧ gives 0x004 (x ^^^ y) ∧
    gives 0x005 (x <<< n) ∧ gives 0x006 (x >>> n) ∧ gives 0x007 (x.sshiftRight' n) ∧
    gives 0x008 (if x.toInt < y.toInt then 1 else 0) ∧ gives 0x009 (if x < y then 1 else 0) ∧
    gives 0x00A (if x.toInt ≤ y.toInt then x else y) ∧ gives 0x00B (if x.toInt ≤ y.toInt then y else x) ∧
    gives 0x00C (if x ≤ y then x else y) ∧ gives 0x00D (if x ≤ y then y else x) ∧ gives 0x010 (x * y) ∧
    slotADoes (.nop c b) c slotNop (decodeB b) id nxt s

/-- R42: x0 reads as zero and p0 as all ones, and a write to either is discarded. -/
def Claims.HardwiredRegisters : Prop :=
  ∀ (k : Core) (r : BitVec 5) (q : BitVec 3) (v : DWord) (w : PWord),
    k.getX 0 = 0 ∧ k.getP 0 = BitVec.allOnes 128 ∧ k.setX 0 v = k ∧ k.setP 0 w = k ∧
    (r ≠ 0 → (k.setX r v).getX r = v ∧ ∀ r', r' ≠ r → (k.setX r v).getX r' = k.getX r') ∧
    (q ≠ 0 → (k.setP q w).getP q = w ∧ ∀ q', q' ≠ q → (k.setP q w).getP q' = k.getP q')

/-! ### Slot A: transfers, loops and pauses (R49–R52, R78–R80) -/

/-- R78: the branches and jumps go to (pc + off) modulo 32,768, JALR to x[rs1][14:0]; the link is pc + 1. -/
def Claims.Transfers : Prop :=
  ∀ (c : CoreId) (rd rs1 rs2 : BitVec 5) (off : BitVec 16) (far : BitVec 26) (b : Word) (s : State),
    let x := (s.core c).getX rs1
    let y := (s.core c).getX rs2
    let pc := (settle (s.core c)).next
    let at' (n : Int) : BitVec 16 := BitVec.ofInt 16 (((pc.toNat : Int) + n) % 32768)
    let link : DWord := BitVec.ofNat 64 (pc.toNat + 1)
    let branch (i : Instr) (sl : Slot) (taken : Prop) : Prop :=
      (taken → slotADoes i c sl (decodeB b) id (at' off.toInt) s) ∧ (¬taken → slotADoes i c sl (decodeB b) id (pc + 1) s)
    branch (.beq c rs1 rs2 off b) (slotBeq rs1 rs2 off) (x = y) ∧
    branch (.bne c rs1 rs2 off b) (slotBne rs1 rs2 off) (x ≠ y) ∧
    branch (.blt c rs1 rs2 off b) (slotBlt rs1 rs2 off) (x.toInt < y.toInt) ∧
    branch (.bge c rs1 rs2 off b) (slotBge rs1 rs2 off) (y.toInt ≤ x.toInt) ∧
    branch (.bltu c rs1 rs2 off b) (slotBltu rs1 rs2 off) (x < y) ∧
    branch (.bgeu c rs1 rs2 off b) (slotBgeu rs1 rs2 off) (y ≤ x) ∧
    slotADoes (.j c far b) c (slotJ far) (decodeB b) id (at' far.toInt) s ∧
    slotADoes (.jal c far b) c (slotJal far) (decodeB b) (fun k => k.setX 31 link) (at' far.toInt) s ∧
    slotADoes (.jalr c rd rs1 0 b) c (slotJalr rd rs1 0) (decodeB b) (fun k => k.setX rd link)
      (BitVec.ofNat 16 (x.toNat % 32768)) s

/-- R50, R51: LOOP reads its count from x[rs1][31:0] and pushes its body, or skips it at a count of 0; at the end of a
body the innermost loop takes its back edge first, and the outer one when the inner count is exhausted. -/
def Claims.Loops : Prop :=
  (∀ (c : CoreId) (rs1 : BitVec 5) (imm : BitVec 16) (b : Word) (s : State),
    let a := slotLoop 0 rs1 imm
    let pc := (settle (s.core c)).next
    let ls := (settle (s.core c)).loops
    let count := ((s.core c).getX rs1).extractLsb' 0 32
    bundleRuns s c a (decodeB b) = true →
      ∃ t, exec (.loop c 0 rs1 imm b) s = .next t ∧ (∀ d : Nat, d ≠ c → t.core d = s.core d) ∧ t.withCores s.cores = s ∧
        (t.core c).still = ((beside s c a (decodeB b)).core c).still ∧ 1 ≤ imm.toNat ∧ imm.toNat ≤ 64 ∧
        (count = 0 → (t.core c).next = pc + 1 + imm ∧ (t.core c).loops = ls) ∧
        (count ≠ 0 → (t.core c).next = pc + 1 ∧ (t.core c).loops = ⟨count, pc + 1, pc + imm⟩ :: ls)) ∧
  (∀ (c : CoreId) (s : State) (l : LoopLvl) (ls : List LoopLvl),
    s.quench = false → (s.core c).edge = true → (s.core c).loops = l :: ls → (s.core c).next = l.last + 1 →
      (1 < l.remain.toNat → exec (.loopBackEdge c) s = .next (s.setCore c { s.core c with
        next := l.first, loops := { l with remain := l.remain - 1 } :: ls, edge := false })) ∧
      (l.remain.toNat ≤ 1 → ls = [] → exec (.loopBackEdge c) s = .next (s.setCore c { s.core c with
        loops := [], edge := false, loopBuf := [] })) ∧
      (∀ m ms, l.remain.toNat ≤ 1 → ls = m :: ms → m.last = l.last → 1 < m.remain.toNat →
        exec (.loopBackEdge c) s = .next (s.setCore c { s.core c with
          next := m.first, loops := { m with remain := m.remain - 1 } :: ms, edge := false })))

/-- R31, R49, R98: WAITT pauses its core unless Count − v is zero or positive as a signed number; FFENCE pauses it while
an entry or a descriptor names a counter of its mask or, with Billet set, a billet store waits, and else does nothing. -/
def Claims.Pauses : Prop :=
  ∀ (c : CoreId) (tc : BitVec 3) (rs1 : BitVec 5) (imm : BitVec 16) (mask : BitVec 9) (b : Word) (s : State),
    let k := s.core c
    let nxt := (settle k).next + 1
    let v := (k.getX rs1 + imm.signExtend 64).extractLsb' 0 32
    let count := (Tab.get 0 k.tc tc.toNat).extractLsb' 0 32
    let rd := tc.setWidth 5
    let m := mask.setWidth 16
    let waits : Prop := (∃ e ∈ k.fe, ∃ n, e.2 = some n ∧ mask.getLsbD n.tc.toNat = true) ∨
      (∃ d ∈ k.bulk, mask.getLsbD d.tc.toNat = true) ∨ (mask.getLsbD 8 = true ∧ ∃ x ∈ k.billet, x.store = true)
    let waitt (f : Core → Core) : Prop := slotADoes (.waitt c rd rs1 imm b) c (slotWaitt rd rs1 imm) (decodeB b) f nxt s
    let fence (f : Core → Core) : Prop := slotADoes (.ffence c 0 0 m b) c (slotFfence 0 0 m) (decodeB b) f nxt s
    (0 ≤ (count - v).toInt → waitt id) ∧ ((count - v).toInt < 0 → waitt (fun k => { k with pause := some (.waitt tc v) })) ∧
    (¬waits → fence id) ∧ (waits → fence (fun k => { k with pause := some (.ffence mask s.now) }))

/-- R80, R139: HALT moves the core to HALTED after its bundle, and its open groups close. -/
def Claims.Halt : Prop :=
  ∀ (c : CoreId) (b : Word) (s : State),
    bundleRuns s c (slotHalt 0) (decodeB b) = true →
      ∃ t, exec (.halt c 0 b) s = .next t ∧ (∀ d : Nat, d ≠ c → t.core d = s.core d) ∧ t.withCores s.cores = s ∧
        (t.core c).still = ({ ((beside s c (slotHalt 0) (decodeB b)).core c).closeAll with st := .halted } : Core).still

/-- R54, R55, R80: TRAP takes its trap with cause 0x80 + code, and neither slot takes effect. -/
def Claims.TrapInstruction : Prop :=
  ∀ (c : CoreId) (code : BitVec 7) (b : Word) (s : State),
    let off := code.setWidth 26
    bundleReaches s c (slotTrap off) (decodeB b) = true →
      ∃ t, exec (.trap c off b) s = .next t ∧
        trappedWith c (BitVec.ofNat 64 (0x80 + code.toNat + 2 ^ 8 + (settle (s.core c)).next.toNat * 2 ^ 17)) s t

/-- R24, R38, R44, R50, R51, R54–R56, R89: which bundles trap, and with which cause. The first of these that holds stops
the bundle: its index lies past the last, both slots have one destination, slot A is illegal, slot A's own cause, slot B is
illegal. Of the causes of LOOP the lowest code is taken (log 8: the model's choice). -/
def Obligations.PreciseTraps : Prop :=
  (∀ (i : Instr) (c : CoreId) (w : DWord), bundleOf i = some (c, w) → ∀ s : State,
    let a := decodeA (w.extractLsb' 0 32)
    let b := decodeB (w.extractLsb' 32 32)
    let k := settle (s.core c)
    let traps (cause slot addr : Nat) : Prop := ∃ t, exec i s = .next t ∧ trappedWith c
      (BitVec.ofNat 64 (cause + 2 ^ 8 + slot * 2 ^ 16 + k.next.toNat % 2 ^ 15 * 2 ^ 17 + addr % 2 ^ 18 * 2 ^ 32)) s t
    (mayIssue s c = true → breakHit (s.modCore c settle) c k = false →
      (32768 ≤ k.next.toNat → traps 0x0A 0 0) ∧
      (k.next.toNat < 32768 → conflict a b = true → traps 0x03 0 0) ∧
      (k.next.toNat < 32768 → conflict a b = false → a.illegal = true → traps 0x01 0 0)) ∧
    (bundleReaches s c a b = true →
      (∀ code addr, a.cause (issueState s c a b) c (issueCore s c a b) = some (code, addr) → traps code 0 addr) ∧
      (a.cause (issueState s c a b) c (issueCore s c a b) = none → b.illegal = true → traps 0x02 1 0))) ∧
  (∀ (rd rs1 rs2 : BitVec 5) (imm : BitVec 16) (off : BitVec 26) (cls hint : BitVec 3) (ord size : BitVec 2) (flag : Bool) (s : State)
      (c : Nat) (k : Core),
    let at' (sl : Slot) (a n : Nat) : Prop :=
      sl.cause s c k = if 2 ^ 18 < a + n then some (0x05, a) else if a % n ≠ 0 then some (0x04, a) else none
    let mem (sl : Slot) (n : Nat) : Prop := at' sl (k.getX rs1 + imm.signExtend 64).toNat n
    let w := (k.getX rs2).toNat
    let block (sl : Slot) : Prop := sl.cause s c k =
      if size ≠ 3 then none
      else if 2 ^ 18 < w % 2 ^ 18 + 64 * (w / 2 ^ 20 % 8 + 1) then some (0x05, w % 2 ^ 18)
      else if w % 64 ≠ 0 then some (0x04, w % 2 ^ 18) else none
    let special (sl : Slot) : Prop :=
      sl.cause s c k = if imm.toNat ≤ 9 ∨ (16 ≤ imm.toNat ∧ imm.toNat < 32) then none else some (0x06, 0)
    mem (slotLdx rd rs1 imm) 8 ∧ mem (slotStx rd rs1 imm) 8 ∧ mem (slotLdp rd rs1 imm) 16 ∧ mem (slotStp rd rs1 imm) 16 ∧
    (∀ n ∈ [16, 32, 64, 128], mem (slotLdvN n rd rs1 imm) n ∧ mem (slotStvN n rd rs1 imm) n) ∧
    at' (slotBulkq rd rs1 rs2 cls ord flag size hint) (k.getX rs1).toNat 32 ∧
    block (slotFld rd rs1 rs2 cls ord flag size hint) ∧ block (slotFst rd rs1 rs2 cls ord size hint) ∧
    block (slotFstf rd rs1 rs2 cls ord size hint) ∧ block (slotFmcs rd rs1 rs2 cls ord flag size hint) ∧
    special (slotSrd rd rs1 imm) ∧ special (slotSwr rd rs1 imm) ∧
    (slotLoop rd rs1 imm).cause s c k = (if imm = 0 ∨ 64 < imm.toNat then some (0x07, 0) else if 4 ≤ k.loops.length then some (0x08, 0)
      else if k.loops.head?.any (fun l => decide (l.last.toNat < k.next.toNat + imm.toNat)) then some (0x09, 0) else none) ∧
    (slotTrap off).cause s c k = some (0x80 + off.toNat, 0))

/-- R38, R39, R81: SRD reads each special register of the table: CORE_CYCLES, which counts from the first bundle's issue on, and
CORE_STALL as they stand in its issue cycle. -/
def Claims.SpecialReads : Prop :=
  ∀ (c : CoreId) (rd : BitVec 5) (b : Word) (s : State),
    let k := s.core c
    let nxt := (settle k).next + 1
    let reads (n : Nat) (v : DWord) : Prop :=
      slotADoes (.srd c rd 0 (BitVec.ofNat 16 n) b) c (slotSrd rd 0 (BitVec.ofNat 16 n)) (decodeB b) (fun k => k.setX rd v) nxt s
    let step := s.reg (0x40200 + 4 * regionOf c)
    reads 0x00 (BitVec.ofNat 64 (256 * (c.val / 256) + 16 * (c.val % 256 / 16) + c.val % 16)) ∧
    reads 0x01 ((s.reg 0x14).setWidth 64) ∧ reads 0x02 (k.jobTag.setWidth 64) ∧
    reads 0x03 (BitVec.ofNat 64 (k.hint.toNat * 2 ^ 16 + (step.toNat / 2 ^ 12 % 2) * 2 ^ 8 + (step.toNat / 2 ^ 8 % 16) * 16 + step.toNat % 16)) ∧
    reads 0x04 (BitVec.ofNat 64 (k.cycles +
      if k.begun then waitCycles (settle k) (bundleKeys (slotSrd rd 0 4) (decodeB b)) (decodeB b).array else 0)) ∧
    reads 0x05 (issueCore s c (slotSrd rd 0 5) (decodeB b)).stall ∧ reads 0x06 k.seed ∧ reads 0x07 (k.epochTag.setWidth 64) ∧
    reads 0x08 (k.view ++ 1#1) ∧ reads 0x09 k.fault ∧
    (∀ n < 8, reads (0x10 + n) (Tab.get 0 k.tc n)) ∧ (∀ n < 8, reads (0x18 + n) (Tab.get 0 k.tcb n))

/-- R34, R38, R97, R136: SWR, ETAG and EVIEW write their special registers; a tally counter takes the low 32 bits and
its error fields clear; reserved bits of a binding stay 0; EPOCH_VIEW's bit 0 reads 1. -/
def Claims.SpecialWrites : Prop :=
  ∀ (c : CoreId) (rs1 : BitVec 5) (imm : BitVec 16) (b : Word) (s : State),
    let x := (s.core c).getX rs1
    let nxt := (settle (s.core c)).next + 1
    let writes (n : Nat) (f : Core → Core) : Prop :=
      slotADoes (.swr c 0 rs1 (BitVec.ofNat 16 n) b) c (slotSwr 0 rs1 (BitVec.ofNat 16 n)) (decodeB b) f nxt s
    (∀ n ∈ [0x00, 0x01, 0x02, 0x04, 0x05, 0x09], writes n id) ∧
    writes 0x03 (fun k => { k with hint := x.extractLsb' 16 4 }) ∧
    writes 0x06 (fun k => { k with seed := x, gen := x }) ∧
    writes 0x07 (fun k => { k with epochTag := x.extractLsb' 0 6 }) ∧
    writes 0x08 (fun k => { k with view := x.extractLsb' 1 63 }) ∧
    (∀ n < 8, writes (0x10 + n) (fun k => { k with tc := Tab.put 0 k.tc n ((x.extractLsb' 0 32).setWidth 64) })) ∧
    (∀ n < 8, writes (0x18 + n) (fun k => { k with tcb := Tab.put 0 k.tcb n (x &&& 0x10FFF0FFF#64) })) ∧
    slotADoes (.etag c 0 rs1 imm b) c (slotEtag 0 rs1 imm) (decodeB b)
      (fun k => { k with epochTag := (x + imm.signExtend 64).extractLsb' 0 6 }) nxt s ∧
    slotADoes (.eview c 0 rs1 0 b) c (slotEview 0 rs1 0) (decodeB b) (fun k => { k with view := x.extractLsb' 1 63 }) nxt s

/-! ### Core store and billet (R24, R82–R84) -/

/-- R82: a local load writes its register, a partial vector load with zeroes above its bytes, a load into p0 nothing. -/
def Claims.LocalLoads : Prop :=
  ∀ (c : CoreId) (rd rs1 : BitVec 5) (p : BitVec 3) (imm : BitVec 16) (b : Word) (s : State),
    let a := ((s.core c).getX rs1 + imm.signExtend 64).toNat
    let rdm (n : Nat) : Nat := Memory.read s.mem (c.val * 2 ^ 18 + a) n
    let nxt := (settle (s.core c)).next + 1
    let gives (i : Instr) (sl : Slot) (f : Core → Core) : Prop := slotADoes i c sl (decodeB b) f nxt s
    gives (.ldx c rd rs1 imm b) (slotLdx rd rs1 imm) (fun k => k.setX rd (BitVec.ofNat 64 (rdm 8))) ∧
    gives (.ldv16 c rd rs1 imm b) (slotLdvN 16 rd rs1 imm) (fun k => k.setV rd (BitVec.ofNat 1024 (rdm 16))) ∧
    gives (.ldv32 c rd rs1 imm b) (slotLdvN 32 rd rs1 imm) (fun k => k.setV rd (BitVec.ofNat 1024 (rdm 32))) ∧
    gives (.ldv64 c rd rs1 imm b) (slotLdvN 64 rd rs1 imm) (fun k => k.setV rd (BitVec.ofNat 1024 (rdm 64))) ∧
    gives (.ldv c rd rs1 imm b) (slotLdvN 128 rd rs1 imm) (fun k => k.setV rd (BitVec.ofNat 1024 (rdm 128))) ∧
    gives (.ldp c (p.setWidth 5) rs1 imm b) (slotLdp (p.setWidth 5) rs1 imm) (fun k => k.setP p (BitVec.ofNat 128 (rdm 16)))

/-- R82: a local store writes the low bytes of its register at x[rs1] + imm16 of the core's own store, and no other
byte of any memory; no register changes beside slot B's. -/
def Claims.LocalStores : Prop :=
  ∀ (c : CoreId) (rd rs1 : BitVec 5) (p : BitVec 3) (imm : BitVec 16) (b : Word) (s : State),
    let a := ((s.core c).getX rs1 + imm.signExtend 64).toNat
    let lo := c.val * 2 ^ 18 + a
    let puts (i : Instr) (sl : Slot) (n v : Nat) : Prop :=
      bundleRuns s c sl (decodeB b) = true →
        ∃ t, exec i s = .next t ∧ onlyCoreAndMem c s t ∧ (t.core c).still = ((beside s c sl (decodeB b)).core c).still ∧
          onlyBytes lo n s t ∧ (∀ j < n, Memory.byte t.mem (lo + j) = BitVec.ofNat 8 (v / 256 ^ j)) ∧ a + n ≤ 2 ^ 18
    puts (.stx c rd rs1 imm b) (slotStx rd rs1 imm) 8 ((s.core c).getX rd).toNat ∧
    puts (.stv16 c rd rs1 imm b) (slotStvN 16 rd rs1 imm) 16 ((s.core c).getV rd).toNat ∧
    puts (.stv32 c rd rs1 imm b) (slotStvN 32 rd rs1 imm) 32 ((s.core c).getV rd).toNat ∧
    puts (.stv64 c rd rs1 imm b) (slotStvN 64 rd rs1 imm) 64 ((s.core c).getV rd).toNat ∧
    puts (.stv c rd rs1 imm b) (slotStvN 128 rd rs1 imm) 128 ((s.core c).getV rd).toNat ∧
    puts (.stp c (p.setWidth 5) rs1 imm b) (slotStp (p.setWidth 5) rs1 imm) 16 ((s.core c).getP p).toNat

/-- R83, R84: a billet access joins its core's in program order with its offset aligned down to its size; a store takes
its data at issue, and a load leaves its register pending. Nothing is stored yet. -/
def Obligations.BilletAccesses : Prop :=
  ∀ (c : CoreId) (rd rs1 : BitVec 5) (imm : BitVec 16) (b : Word) (s : State),
    let off (n : Nat) : Nat := ((s.core c).getX rs1 + imm.signExtend 64).toNat % 2 ^ 28 / n * n
    let joins (i : Instr) (sl : Slot) (x : BilletOp) : Prop :=
      bundleRuns s c sl (decodeB b) = true →
        ∃ t, exec i s = .next t ∧ (∀ d : Nat, d ≠ c → t.core d = s.core d) ∧
          t.withCores s.cores = { s with nextId := s.nextId + 1 } ∧
          (t.core c).still = (let k := (beside s c sl (decodeB b)).core c
            ({ k with billet := k.billet ++ [x] } : Core)).still
    joins (.bldx c rd rs1 imm b) (slotBldx rd rs1 imm) ⟨false, .x rd, off 8, 8, 0, false, 0, s.now, s.nextId, false, none⟩ ∧
    joins (.bldv c rd rs1 imm b) (slotBldv rd rs1 imm) ⟨false, .v rd 128, off 128, 128, 0, false, 0, s.now, s.nextId, false, none⟩ ∧
    joins (.bstx c rd rs1 imm b) (slotBstx rd rs1 imm)
      ⟨true, .none, off 8, 8, ((s.core c).getX rd).toNat, false, 0, s.now, s.nextId, false, none⟩ ∧
    joins (.bstv c rd rs1 imm b) (slotBstv rd rs1 imm)
      ⟨true, .none, off 128, 128, ((s.core c).getV rd).toNat, false, 0, s.now, s.nextId, false, none⟩

/-! ### Fabric requests and descriptors (R85–R98, R217–R219) -/

/-- R85, R88–R90, R92: FLD and FAT. A load's registers take 8, 64 or 128 B, a block load its block; a fetching atomic
returns to rd, and with rd = x0 it fetches nothing. -/
def Claims.FabricLoadsAndAtomics : Prop :=
  ∀ (c : CoreId) (rd rs1 rs2 : BitVec 5) (tc : BitVec 3) (ord size : BitVec 2) (flag noComb : Bool) (hint : BitVec 3) (b : Word) (s : State),
    let k := s.core c
    let x := k.getX rs1
    let w := k.getX rs2
    let h : BitVec 3 := if noComb then 1 else 0
    let fld (size : BitVec 2) (rd rs2 : BitVec 5) (dst : Dest) (var : BitVec 4) (align : Nat) : Prop :=
      requests (.fld c rd rs1 rs2 tc ord false size h b) c (slotFld rd rs1 rs2 tc ord false size h) (decodeB b) tc dst none
        (fun q => q.op = 0x01 ∧ q.var = var ∧ q.dst = BitVec.ofNat 64 (x.toNat / align * align) ∧ q.ord = ord ∧ q.flag = false ∧
          q.p0 = k.view ++ 1#1 ∧ q.data = []) s
    let wd := 8 * 2 ^ size.toNat
    let op : BitVec 4 := b1 flag ++ hint
    fld 0 rd 0 (.x rd) 0 8 ∧ fld 1 rd 0 (.v rd 64) 1 64 ∧ fld 2 rd 0 (.v rd 128) 2 128 ∧
    fld 3 0 rs2 (.block (w.toNat % 2 ^ 18) (w.toNat / 2 ^ 20 % 8 + 1)) (BitVec.ofNat 4 (w.toNat / 2 ^ 20 % 8 + 1)) 64 ∧
    requests (.fat c rd rs1 rs2 tc ord flag size hint b) c (slotFat rd rs1 rs2 tc ord flag size hint) (decodeB b) tc
      (if rd = 0 then .none else .x rd) none
      (fun q => q.op = 8 + size.setWidth 6 ∧ q.var = op ∧ q.dst = BitVec.ofNat 64 (x.toNat / 2 ^ size.toNat * 2 ^ size.toNat) ∧
        q.ord = ord ∧ q.flag = false ∧ q.p0 = BitVec.ofNat 64 (w.toNat % 2 ^ wd) ∧
        q.p1 = (if op = 8 then BitVec.ofNat 64 ((k.getX rd).toNat % 2 ^ wd) else 0) ∧ q.data = []) s

/-- R88–R91, R94: FST, FSTF and FMCS. The epoch tag rides along; the data is 8 B of rs2, or one or two 64 B units of
v[rs2]; a block store keeps its local address and lines, which are read as its packet is injected. -/
def Claims.FabricStores : Prop :=
  ∀ (c : CoreId) (rd rs1 rs2 : BitVec 5) (tc : BitVec 3) (ord size : BitVec 2) (flag : Bool) (hint : BitVec 3) (b : Word) (s : State),
    let k := s.core c
    let x := k.getX rs1
    let w := k.getX rs2
    let v := k.getV rs2
    let align : Nat := match size.toNat with | 0 => 8 | 2 => 128 | _ => 64
    let lines := w.toNat / 2 ^ 20 % 8 + 1
    let units : Nat := match size.toNat with | 0 => 0 | 1 => 1 | 2 => 2 | _ => lines
    let blk : Option (Nat × Nat) := if size = 3 then some (w.toNat % 2 ^ 18, lines) else none
    let body (small big : BitVec 6) (flag : Bool) (q : Pkt) : Prop :=
      q.op = (if size = 0 then small else big) ∧ q.dst = BitVec.ofNat 64 (x.toNat / align * align) ∧ q.ord = ord ∧ q.flag = flag ∧
      q.epoch = k.epochTag ∧ q.len.toNat = units ∧ (size = 0 → q.p0 = w) ∧
      q.data = (match size.toNat with
        | 1 => [v.extractLsb' 0 512]
        | 2 => [v.extractLsb' 0 512, v.extractLsb' 512 512]
        | _ => [])
    requests (.fst c 0 rs1 rs2 tc ord size 0 b) c (slotFst 0 rs1 rs2 tc ord size 0) (decodeB b) tc .none blk (body 2 3 false) s ∧
    requests (.fstf c 0 rs1 rs2 tc ord size 0 b) c (slotFstf 0 rs1 rs2 tc ord size 0) (decodeB b) tc .none blk (body 2 3 true) s ∧
    requests (.fmcs c rd rs1 rs2 tc ord flag size hint b) c (slotFmcs rd rs1 rs2 tc ord flag size hint) (decodeB b) tc .none blk
      (fun q => body 4 5 flag q ∧ q.mcKind = hint.setWidth 2 ∧ q.members = ((k.getX rd).extractLsb' 0 16).setWidth 18) s

/-- R91, R93, R95, R197: FRED, OWNX, OWNR and ECOMMIT. -/
def Claims.FabricReductionsAndOwnership : Prop :=
  ∀ (c : CoreId) (rd rs1 rs2 : BitVec 5) (tc : BitVec 3) (ord size : BitVec 2) (hint : BitVec 3) (b : Word) (s : State),
    let k := s.core c
    let x := k.getX rs1
    let v := k.getV rs2
    let red (i : Instr) (sl : Slot) (is : Pkt → Prop) : Prop := requests i c sl (decodeB b) tc .none none is s
    let own (op : BitVec 6) (q : Pkt) : Prop := q.op = op ∧ q.var = hint.setWidth 4 ∧ q.dst = x ∧ q.ord = ord ∧ q.data = []
    red (.fred c rd rs1 rs2 tc ord false size hint b) (slotFred rd rs1 rs2 tc ord false size hint)
      (fun q => q.op = 0x10 + size.setWidth 6 ∧ q.var = hint.setWidth 4 ∧ q.ord = ord ∧ q.redId = (k.getX rd).extractLsb' 0 16 ∧
        q.members = 1 ∧
        q.dst = (if hint = 5 then BitVec.ofNat 64 (x.toNat / 64 * 64) else BitVec.ofNat 64 (x.toNat / 128 * 128)) ∧
        q.data = (if hint = 5 then [v.extractLsb' 0 512] else [v.extractLsb' 0 512, v.extractLsb' 512 512])) ∧
    red (.ownx c 0 rs1 0 tc ord false 0 hint b) (slotOwnx 0 rs1 0 tc ord false 0 hint) (own 0x18) ∧
    red (.ownr c 0 rs1 0 tc ord false 0 hint b) (slotOwnr 0 rs1 0 tc ord false 0 hint) (own 0x19) ∧
    red (.ecommit c rd rs1 rs2 tc ord false 0 0 b) (slotEcommit rd rs1 rs2 tc ord false 0 0)
      (fun q => q.op = 0x1A ∧ q.dst = x ∧ q.p0 = k.getX rs2 ∧ q.p1 = k.getX rd ∧ q.data = [])

/-- R96, R172, R217–R219: BULKQ reads four words of the core store at x[rs1], checks the descriptor and takes a slot for
it, refused with its status or with its packets: each of at most 8 lines that cross no 4 KiB boundary, of all its lines. A
descriptor of no line, with a nonzero reserved field or with rows that would overlap is refused. -/
def Claims.BulkQueue : Prop :=
  ∀ (c : CoreId) (rs1 : BitVec 5) (tc : BitVec 3) (b : Word) (s : State),
    let sl := slotBulkq 0 rs1 0 tc 0 false 0 0
    let k := s.core c
    let word (i : Nat) : Nat := Memory.read s.mem (c.val * 2 ^ 18 + ((k.getX rs1).toNat + 8 * i)) 8
    let d : DescWords := ⟨BitVec.ofNat 64 (word 0 / 64 * 64), BitVec.ofNat 64 (word 1 / 64 * 64), BitVec.ofNat 64 (word 2),
      BitVec.ofNat 64 (word 3)⟩
    let st := descCheck s (c.val / 256) k.jobTag.toNat d
    slotADoes (.bulkq c 0 rs1 0 tc 0 false 0 0 b) c sl (decodeB b)
      (fun k => { k with bulk := k.bulk ++
        [⟨tc, d.w3.getLsbD 32, if st = 0 then none else some st, if st = 0 then descPkts d else []⟩] })
      ((settle k).next + 1) s ∧
    (∀ p ∈ descPkts d, 1 ≤ p.n ∧ p.n ≤ 8 ∧ p.src.toNat % 4096 + 64 * p.n ≤ 4096 ∧ p.dst.toNat % 4096 + 64 * p.n ≤ 4096 ∧ p.st = 0) ∧
    ((descPkts d).map BulkPkt.n).sum = d.len ∧
    (d.len = 0 ∨ word 3 / 2 ^ 33 ≠ 0 ∨ word 3 / 2 ^ 24 % 2 ^ 8 ≠ 0 ∨ (d.rowLines ≠ 0 ∧ d.dstStride < d.rowLines) → st ≠ 0) ∧
    (s.fabValid = false → st = 4)

/-! ### Control of the cores (R57–R70, R216) -/

/-- R42, R59, R65, R66: an accepted START sets the architectural state to its value after a start, with the job tag of the
slot that SITE_CORE_JOBSEL names, and wakes the core's region; one that is not accepted sets CmdRefused and changes nothing
else. A core starts only from IDLE, HALTED, TRAPPED or STOPPED, with no entry or descriptor in use, a valid slot with a
tag, and a region that is not OFF and in service. -/
def Claims.Start : Prop :=
  ∀ (c : CoreId) (s : State), sitesOn (c.val / 256) s = true →
    let k := s.core c
    let cfg := s.reg (siteBase (c.val / 256) + 0x100 + 8 * s.rf (coreBase c + 0x0C) 0 3)
    (startOk s c = true → ∃ t, exec (.start c) s = .next t ∧ (t.core c).st = .running ∧
      (t.core c).getX 1 = s.reg64 (coreBase c + 0x10) ∧ (t.core c).getX 2 = s.reg64 (coreBase c + 0x18) ∧
      (∀ r : BitVec 5, r ≠ 1 → r ≠ 2 → (t.core c).getX r = 0) ∧ (∀ r, (t.core c).getV r = 0) ∧
      (∀ p : BitVec 3, p ≠ 0 → (t.core c).getP p = 0) ∧ (∀ a i, (t.core c).getAcc a i = 0) ∧ (t.core c).grp = [] ∧
      (t.core c).loops = [] ∧ (t.core c).fetch = [] ∧ (t.core c).loopBuf = [] ∧
      (t.core c).next = BitVec.ofNat 16 (s.rf (coreBase c + 8) 0 15) ∧ (t.core c).jobTag = cfg.extractLsb' 0 12 ∧
      (t.core c).cycles = 0 ∧ (t.core c).seed = BitVec.ofNat 64 c ∧ (t.core c).hint = 15 ∧ (t.core c).epochTag = 0 ∧
      (t.core c).view = 0 ∧ (t.core c).fault = 0 ∧ (t.core c).tc = [] ∧ (t.core c).tcb = [] ∧
      (∀ d : Nat, d ≠ c → t.core d = s.core d) ∧ t.mem = s.mem ∧ t.regs = s.regs ∧ t.pool = s.pool) ∧
    (startOk s c = false → exec (.start c) s = .next (s.setCore c { k with refused := true })) ∧
    (startOk s c = true ↔ (k.st = .idle ∨ k.st = .halted ∨ k.st = .trapped ∨ k.st = .stopped) ∧ k.fe = [] ∧ k.bulk = [] ∧
      cfg.getLsbD 31 = true ∧ cfg.extractLsb' 0 12 ≠ 0 ∧ s.regionState (regionOf c) ≠ 3 ∧
      s.rf (siteBase (c.val / 256) + 0x8030) (regionOf c % 4) 1 = 1)

/-- R59, R69: SITE_GO starts every armed core of the site, with the job tag of its slot; an armed core that fails the
conditions sets CmdRefused, and a core not armed is left alone. -/
def Claims.SiteGo : Prop :=
  ∀ (site : SiteId) (s : State), sitesOn site.val s = true →
    ∃ t, exec (.siteGo site) s = .next t ∧ t.mem = s.mem ∧ t.regs = s.regs ∧ t.pool = s.pool ∧
      (∀ d : Nat, d / 256 ≠ site.val → t.core d = s.core d) ∧
      ∀ i < 256,
        let c := 256 * site.val + i
        let armed := s.rf (siteBase site.val + 0x200 + 4 * (i / 32)) (i % 32) 1 = 1
        (¬armed → t.core c = s.core c) ∧
        (armed → startOk s c = true → (t.core c).st = .running ∧ (t.core c).next = BitVec.ofNat 16 (s.rf (coreBase c + 8) 0 15) ∧
          (t.core c).jobTag = (s.reg (siteBase site.val + 0x100 + 8 * s.rf (coreBase c + 0x0C) 0 3)).extractLsb' 0 12) ∧
        (armed → startOk s c = false → t.core c = { s.core c with refused := true })

/-- R57, R65, R67, R68: STOP, STOP_DRAIN_DONE, BREAKPOINT_STOP, RESUME and STEP move a core between RUNNING, STOPPING and
STOPPED, and refuse what the table of R65 does not accept. A RESUME keeps the pause of a WAITT or FFENCE whose condition
does not hold. A STEP issues one bundle at the next index, or evaluates a kept pause once. -/
def Obligations.StopResumeStep : Prop :=
  ∀ (c : CoreId) (s : State),
    let k := s.core c
    let refused := s.setCore c { k with refused := true }
    let only (t : State) : Prop := ∀ d : Nat, d ≠ c → t.core d = s.core d
    let on : Prop := s.rf (siteBase (c.val / 256) + 0x8030) (regionOf c % 4) 1 = 1
    let may : Prop := k.st = .stopped ∧ k.cause ≠ .kill ∧ on
    (sitesOn (c.val / 256) s = true → k.st = .running →
      exec (.stop c) s = .next (s.setCore c { k with st := .stopping, cause := .host })) ∧
    (sitesOn (c.val / 256) s = true → k.st ≠ .running → exec (.stop c) s = .next refused) ∧
    (s.quench = false → k.st ≠ .stopping → exec (.stopDrainDone c) s = .next s) ∧
    (s.quench = false → k.st = .stopping → k.trapPend = none → ∃ t, exec (.stopDrainDone c) s = .next t ∧ only t ∧
      t.withCores s.cores = s ∧ (t.core c).still = ({ k.closeAll with st := .stopped } : Core).still ∧
      (t.core c).next = (settle k).next) ∧
    (∀ status tally, s.quench = false → k.st = .stopping → k.trapPend = some (status, tally) →
      ∃ t, exec (.stopDrainDone c) s = .next t ∧ trappedWith c (BitVec.ofNat 64 (0x0B + 2 ^ 8 + tally.toNat * 2 ^ 9 +
        status.toNat * 2 ^ 12 + (settle k).next.toNat % 2 ^ 15 * 2 ^ 17)) s t) ∧
    (mayIssue s c = true → breakHit s c (settle k) = true → ∃ t, exec (.breakpointStop c) s = .next t ∧ only t ∧
      t.withCores s.cores = s ∧ (t.core c).still = ({ k with st := .stopping, cause := .break } : Core).still ∧
      (t.core c).next = (settle k).next) ∧
    (mayIssue s c = false ∨ breakHit s c (settle k) = false → exec (.breakpointStop c) s = .next s) ∧
    (sitesOn (c.val / 256) s = true → may → ∃ t, exec (.resume c) s = .next t ∧ only t ∧
      (t.core c).still = ({ k with st := .running, stepping := false
                                   pause := if pauseMet k then none else freshPause s.now k.pause } : Core).still ∧
      (t.core c).next = k.next ∧ (t.core c).noBreak = true ∧ t.mem = s.mem ∧ t.regs = s.regs ∧ t.pool = s.pool) ∧
    (sitesOn (c.val / 256) s = true → ¬may → exec (.resume c) s = .next refused ∧ exec (.step c) s = .next refused) ∧
    (sitesOn (c.val / 256) s = true → may → k.pause.isSome = true → ∃ t, exec (.step c) s = .next t ∧ only t ∧ t.withCores s.cores = s ∧
      t.core c = { k with cause := .step, pause := if pauseMet k then none else k.pause }) ∧
    (let go : Core := { k with st := .running, noBreak := true, stepping := true }
     sitesOn (c.val / 256) s = true → may → k.pause = none →
      (s.regionState (regionOf c) = 0 → exec (.step c) s = .next (issueWord c (nextWord s c) (s.setCore c go))) ∧
      (s.regionState (regionOf c) ≠ 0 → ∃ t, exec (.step c) s = .next t ∧ t.core c = go ∧ only t ∧
        t.mem = s.mem ∧ t.regs = s.regs ∧ t.pool = s.pool)) ∧
    (∀ b : Word, k.stepping = true → bundleRuns (s.setCore c { k with stepping := false }) c slotNop (decodeB b) = true →
      ∃ t, exec (.nop c b) s = .next t ∧ (t.core c).st = .stopped ∧ (t.core c).cause = .step ∧ (t.core c).stepping = false ∧
        t.mem = s.mem ∧ t.regs = s.regs ∧ only t)

/-- R60: a write to a job slot takes the bits the register has, and is ignored with CfgRefused while a core that names
the slot is RUNNING or STOPPING. -/
def Obligations.JobSlotWrite : Prop :=
  ∀ (site : SiteId) (n : Fin 8) (order : Bool) (val : Word) (s : State), sitesOn site.val s = true →
    let a := siteBase site.val + 0x100 + 8 * n.val + (if order then 4 else 0)
    let busy : Prop := ∃ i < 256, let c := 256 * site.val + i
      ((s.core c).st = .running ∨ (s.core c).st = .stopping) ∧ s.rf (coreBase c + 0x0C) 0 3 = n.val
    (busy → ∃ t, exec (.siteJobCfgWrite site n order val) s = .next t ∧ t.rf (siteBase site.val) 0 1 = 1 ∧
      (∀ x, x ≠ siteBase site.val → t.reg x = s.reg x) ∧ t.cores = s.cores ∧ t.mem = s.mem) ∧
    (¬busy → ∃ t, exec (.siteJobCfgWrite site n order val) s = .next t ∧
      (let m := if order then 1#32 else 0xFFC00FFF#32
       t.reg a = (s.reg a &&& ~~~m) ||| (val &&& m)) ∧
      (∀ x, x ≠ a → t.reg x = s.reg x) ∧ t.cores = s.cores ∧ t.mem = s.mem)

/-- R64, R139, R202: fencing a core closes its groups, clears its entries, descriptors and counters, marks it faulty and
raises the C2 event 0x023, which lowers FAULT_N; what it had on its way completes unseen. A core fenced already stays as it
is. -/
def Claims.CoreFence : Prop :=
  ∀ (c : CoreId) (s : State), s.quench = false →
    ((s.core c).st = .fenced → exec (.coreFence c) s = .next s) ∧
    ((s.core c).st ≠ .fenced → ∃ t, exec (.coreFence c) s = .next t ∧ (t.core c).st = .fenced ∧ (t.core c).fe = [] ∧
      (t.core c).bulk = [] ∧ (t.core c).tc = [] ∧ (t.core c).grp = [] ∧ (t.core c).billet = [] ∧ (t.core c).pause = none ∧
      (t.core c).x = (s.core c).x ∧ (t.core c).v = (s.core c).v ∧ (t.core c).acc = (s.core c).closeAll.acc ∧
      (s.pins.vio = true → t.pins.faultN = false) ∧ t.mem = s.mem ∧ t.rf (siteBase (c.val / 256) + 0x8010 + 4 * (c.val % 256 / 32)) (c.val % 32) 1 = 1 ∧
      (∀ i ∈ t.pool, fromCore s c i = true → i.dead = true) ∧ ∀ d : Nat, d ≠ c → t.core d = s.core d)

/-- R19, R26, R55, R83, R216: BANK_YIELD moves one line of the access whose turn it is at a bank that has been refused it
for 256 cycles, and stalls the core one cycle if the pipeline side needs the bank; FENCE_TIMEOUT traps 1 ms after the pause began with a counter
of the fence outstanding; BILLET_LOAD_RETURN writes the register of the oldest served load. With no such access, fence or
load nothing changes. -/
def Claims.CoreWaits : Prop :=
  ∀ (c : CoreId) (s : State), s.quench = false →
    let k := s.core c
    (∀ (bank : Fin 4) (id : Nat),
      (∀ i, s.item id = some i → ¬(engineBank s c i = some bank.val ∧ firstAtBank s c i = true ∧ 256 ≤ Tab.get 0 k.kept bank.val ∧ i.cyc + 256 ≤ k.cycles)) →
      exec (.bankYield c bank id) s = .next s) ∧
    (∀ (bank : Fin 4) (id : Nat) it, s.item id = some it → engineBank s c it = some bank.val → firstAtBank s c it = true →
      256 ≤ Tab.get 0 k.kept bank.val → it.cyc + 256 ≤ k.cycles → exec (.bankYield c bank id) s = .next
        (if needsBank s c bank.val then (moveLine c it s).modCore c (fun k => fetchAhead s.mem c (2 ^ bank.val) (stallFor 3 1 k))
         else moveLine c it s)) ∧
    (let y := stallFor 3 1 k
     y.cycles = (if k.begun then k.cycles + 1 else k.cycles) ∧ (y.stall.extractLsb' 48 16).toNat = min ((k.stall.extractLsb' 48 16).toNat + 1) 65535 ∧
       y.stall.extractLsb' 0 48 = k.stall.extractLsb' 0 48 ∧ y.still = k.still ∧ y.next = k.next) ∧
    (∀ mask since, k.pause = some (.ffence mask since) →
      let out (i : Fin 8) : Prop := mask.getLsbD i = true ∧
        ((∃ e ∈ k.fe, ∃ n, e.2 = some n ∧ n.tc.toNat = i.val) ∨ ∃ d ∈ k.bulk, d.tc.toNat = i.val)
      (k.st ≠ .running ∨ s.now < since + 250000 ∨ (∀ i, ¬out i) → exec (.fenceTimeout c) s = .next s) ∧
      ∀ i, k.st = .running → since + 250000 ≤ s.now → out i → (∀ j, j < i → ¬out j) →
        ∃ t, exec (.fenceTimeout c) s = .next t ∧
          trappedWith c (BitVec.ofNat 64 (0x0C + 2 ^ 8 + i.val * 2 ^ 9 + (settle k).next.toNat % 2 ^ 15 * 2 ^ 17)) s t) ∧
    (∀ older x rest, k.billet = older ++ x :: rest → (∀ y ∈ older, y.store = true ∨ y.served = false) → x.store = false →
      x.served = true →
      ∃ t, exec (.billetLoadReturn c) s = .next t ∧ t.withCores s.cores = s ∧ (∀ d : Nat, d ≠ c → t.core d = s.core d) ∧
        t.core c = (let u : Core := { k with billet := older ++ rest }
          match x.dst with
          | .x r => u.setX r (BitVec.ofNat 64 x.data)
          | .v r n => u.setV r (BitVec.ofNat 1024 (x.data % 2 ^ (8 * n)))
          | _ => u)) ∧
    ((∀ y ∈ k.billet, y.store = true ∨ y.served = false) → exec (.billetLoadReturn c) s = .next (s.setCore c k))

/-- R32, R37, R57: the first finished descriptor leaves its slot and adds 1 to its counter, with the status of its first
packet that did not complete OK, or the status it was refused with; that status traps the core if its job says so. Which of
several finished descriptors comes first is log 18's choice. -/
def Claims.DescriptorCompletion : Prop :=
  ∀ (c : CoreId) (s : State) (older rest : List Desc) (d : Desc) (st : Nat),
    let k := s.core c
    let done (d : Desc) : Prop := d.refused ≠ none ∨ ∀ p ∈ d.pkts, p.st = 3
    let counted : Core := { k with
      bulk := older ++ rest, tc := Tab.put 0 k.tc d.tc.toNat (tcComplete (Tab.get 0 k.tc d.tc.toNat) 1 st) }
    let old := Tab.get 0 k.tc d.tc.toNat
    let new := Tab.get 0 counted.tc d.tc.toNat
    s.quench = false → k.bulk = older ++ d :: rest → (∀ x ∈ older, ¬done x) → done d →
      (d.refused = some st ∨ d.refused = none ∧
        st = ((d.pkts.find? (fun p => decide (p.status ≠ 0))).map BulkPkt.status).getD 0) →
      (new.extractLsb' 0 32 = old.extractLsb' 0 32 + 1 ∧ (st = 0 → new.extractLsb' 32 32 = old.extractLsb' 32 32)) ∧
      ∃ t, exec (.descriptorCompletion c) s = .next t ∧ t.mem = s.mem ∧ t.pool = s.pool ∧
        (∀ e : Nat, e ≠ c → t.core e = s.core e) ∧
        (s.errTraps c st = false ∨ (k.st ≠ .running ∧ k.st ≠ .stopping) → t.withCores s.cores = s ∧ t.core c = releasePause counted) ∧
        (s.errTraps c st = true → k.st = .running → (t.core c).st = .trapped ∧ (t.core c).tc = counted.tc ∧ (t.core c).bulk = counted.bulk ∧
          (t.core c).fault = BitVec.ofNat 64 (0x0B + 2 ^ 8 + d.tc.toNat * 2 ^ 9 + st * 2 ^ 12 + (settle k).next.toNat % 2 ^ 15 * 2 ^ 17)) ∧
        (s.errTraps c st = true → k.st = .stopping → t.withCores s.cores = s ∧
          t.core c = { counted with trapPend := some (k.trapPend.getD (BitVec.ofNat 4 st, d.tc)) })

/-- R36, R160, R172, R219, R223: the bulk engine starts the next packet of the core whose turn it is, as an RD of the
packet's lines with a free index, which waits at the cluster's hub; one that its source completes is answered at once. Which
free index it takes is log 18's choice. -/
def Claims.BulkPacketStart : Prop :=
  ∀ (site : SiteId) (cl : Fin 16) (s : State) (i n j : Nat) (x : Desc) (p : BulkPkt),
    let core (i : Nat) : Core := s.core (clusterCore site.val cl.val i)
    let c := clusterCore site.val cl.val i
    let last := Tab.get 0 s.rr (100000 + 16 * site.val + cl.val)
    s.quench = false → s.frozen = false → (List.range 16).foldl (fun n i => n + bulkOut (core i)) 0 < 1024 →
    ((List.range 16).map (fun i => (last + 1 + i) % 16)).find? (fun i => (bulkNext (core i).bulk).isSome && decide (bulkOut (core i) < 256)) = some i →
    bulkNext (s.core c).bulk = some (n, j) → (s.core c).bulk[n]? = some x → x.pkts[j]? = some p →
      ∃ t it q, exec (.bulkPacketStart site cl) s = .next t ∧ t.pool = s.pool ++ [it] ∧
        q.op = 1 ∧ q.dst = p.src ∧ q.var = BitVec.ofNat 4 p.n ∧ q.eng = 1 ∧ q.ord = 1 ∧ q.job = (s.core c).jobTag ∧
        q.tag = BitVec.ofNat 8 (bulkTag (s.core c)) ∧
        (let st := sourceStatus s q false
         (st = 0 → it.pkt = q ∧ it.loc = .hub site.val (clusterOf c)) ∧
         (st ≠ 0 → it.loc = .resp ∧ it.pkt.tag = q.tag ∧ it.pkt.comp = compWord st 1 false)) ∧
        t.core c = modBulk n j (fun q => { q with st := 1, tag := BitVec.ofNat 8 (bulkTag (s.core c)) }) (s.core c) ∧
        (∀ d, d ≠ c → t.core d = s.core d) ∧ t.mem = s.mem ∧ t.regs = s.regs

/-! ### Slot B: vector and matrix instructions (R100–R126, R138, R139) -/

/-- R20, R103–R105, R107: VINT. An active element is computed from the elements of the sources at its place, wrapping or
saturating as the operation says; an inactive one keeps its value. Lane types 3, 4 and 5 have 8, 16 and 32 bits. -/
def Claims.VectorIntegers : Prop :=
  ∀ (c : CoreId) (vd vs1 vs2 : BitVec 5) (pm : BitVec 3) (a : Word) (s : State),
    let k := s.core c
    ∀ t w, (t, w) = (3, 8) ∨ (t, w) = (4, 16) ∨ (t, w) = (5, 32) →
      let gives (op : Nat) (vs2 : BitVec 5) (f : BitVec w → BitVec w → BitVec w → BitVec w) : Prop :=
        ∃ v, slotBDoes (.vint c vd vs1 vs2 pm (BitVec.ofNat 8 (32 * t + op)) a) c (decodeA a)
            (slotVint vd vs1 vs2 pm (BitVec.ofNat 8 (32 * t + op))) (fun k => k.setV vd v) s ∧
          ∀ i < 1024 / w, let at' (x : VWord) := x.extractLsb' (w * i) w
            at' v = if (k.getP pm).getLsbD (w / 8 * i) then f (at' (k.getV vs1)) (at' (k.getV vs2)) (at' (k.getV vd)) else at' (k.getV vd)
      let n (y : BitVec w) : Nat := y.toNat % w
      let sat (x : Int) : BitVec w := BitVec.ofInt w (max (-(2 ^ (w - 1) : Int)) (min (2 ^ (w - 1) - 1) x))
      gives 0 vs2 (fun x y _ => x + y) ∧ gives 1 vs2 (fun x y _ => x - y) ∧ gives 2 vs2 (fun x y _ => x * y) ∧
      gives 3 vs2 (fun x y d => d + x * y) ∧ gives 4 vs2 (fun x y _ => if x.toInt ≤ y.toInt then x else y) ∧
      gives 5 vs2 (fun x y _ => if x.toInt ≤ y.toInt then y else x) ∧ gives 6 vs2 (fun x y _ => if x ≤ y then x else y) ∧
      gives 7 vs2 (fun x y _ => if x ≤ y then y else x) ∧ gives 8 vs2 (fun x y _ => x <<< n y) ∧
      gives 9 vs2 (fun x y _ => x >>> n y) ∧ gives 10 vs2 (fun x y _ => x.sshiftRight (n y)) ∧
      gives 11 vs2 (fun x y _ => sat (x.toInt + y.toInt)) ∧ gives 12 vs2 (fun x y _ => sat (x.toInt - y.toInt)) ∧
      gives 13 0 (fun x _ _ => if x.toInt < 0 then -x else x)

/-- R20, R103–R106, R115, R145: VFP and VXCN write the active elements, each rounded once from the elements at its place,
and keep the others; VXCN gives the special operands their exact results. Lane types 0, 1 and 2 are FP32, BF16 and FP16. -/
def Claims.VectorFloats : Prop :=
  ∀ (c : CoreId) (vd vs1 vs2 : BitVec 5) (pm : BitVec 3) (a : Word) (s : State),
    let k := s.core c
    ∀ t w f, (t, w, f) = (0, 32, fmtFP32) ∨ (t, w, f) = (1, 16, fmtBF16) ∨ (t, w, f) = (2, 16, fmtFP16) →
      let gives (i : Instr) (sl : Slot) (vs2 : BitVec 5) (g : Nat → Nat → Nat → Nat) : Prop :=
        ∃ v, slotBDoes i c (decodeA a) sl (fun k => k.setV vd v) s ∧
          ∀ j < 1024 / w, velt w v j = if (k.getP pm).getLsbD (w / 8 * j) then
            g (velt w (k.getV vs1) j) (velt w (k.getV vs2) j) (velt w (k.getV vd) j) % 2 ^ w else velt w (k.getV vd) j
      let vfp (op : Nat) (vs2 : BitVec 5) (g : FVal → FVal → FVal → FVal) : Prop :=
        gives (.vfp c vd vs1 vs2 pm (BitVec.ofNat 8 (32 * t + op)) a) (slotVfp vd vs1 vs2 pm (BitVec.ofNat 8 (32 * t + op))) vs2
          (fun x y d => f.rne (g (f.decode x) (f.decode y) (f.decode d)))
      vfp 0 vs2 (fun x y _ => x.add y) ∧ vfp 1 vs2 (fun x y _ => x.add y.negate) ∧ vfp 2 vs2 (fun x y _ => x.mul y) ∧
      vfp 3 vs2 (fun x y d => (x.mul y).add d) ∧ vfp 4 vs2 (fun x y d => (x.mul y).negate.add d) ∧
      vfp 5 vs2 (fun x y _ => x.minNum y) ∧ vfp 6 vs2 (fun x y _ => x.maxNum y) ∧
      vfp 7 0 (fun x _ _ => x.abs) ∧ vfp 8 0 (fun x _ _ => x.negate) ∧
      (∀ op < 4, gives (.vxcn c vd vs1 0 pm (BitVec.ofNat 8 (32 * t + op)) a) (slotVxcn vd vs1 0 pm (BitVec.ofNat 8 (32 * t + op)))
        0 (fun x _ _ => xcnElem f op x)) ∧
      (let one := f.bias * 2 ^ f.man
       let inf (n : Bool) : Nat := f.signed n f.infBits
       let special (x e l r q : Nat) : Prop := xcnElem f 0 x = e ∧ xcnElem f 1 x = l ∧ xcnElem f 2 x = r ∧ xcnElem f 3 x = q
       special one (one + 2 ^ f.man) 0 one one ∧
       ∀ x < 2 ^ w, match f.decode x with
         | .nan => special x f.qnan f.qnan f.qnan f.qnan
         | .inf false => special x (inf false) (inf false) 0 0
         | .inf true => special x 0 f.qnan (f.signed true 0) f.qnan
         | .fin n 0 _ _ => special x one (inf true) (inf n) (inf n)
         | .fin true _ _ _ => xcnElem f 1 x = f.qnan ∧ xcnElem f 3 x = f.qnan
         | .fin false _ _ _ => True)

/-- R20, R105, R108, R116: VLOG acts byte lane by byte lane, VPERM moves elements of 8, 16 or 32 bits; an inactive lane
or element keeps its value, but VSEL writes every byte. -/
def Claims.VectorLogicAndMoves : Prop :=
  ∀ (c : CoreId) (vd vs1 vs2 : BitVec 5) (pm : BitVec 3) (a : Word) (s : State),
    let k := s.core c
    let x := k.getV vs1
    let y := k.getV vs2
    let p := k.getP pm
    let does (i : Instr) (sl : Slot) (v : VWord) : Prop := slotBDoes i c (decodeA a) sl (fun k => k.setV vd v) s
    let log (op : Nat) (vs2 : BitVec 5) (f : BitVec 8 → BitVec 8 → BitVec 8) : Prop :=
      ∃ v, does (.vlog c vd vs1 vs2 pm (BitVec.ofNat 8 op) a) (slotVlog vd vs1 vs2 pm (BitVec.ofNat 8 op)) v ∧
        ∀ i < 128, v.extractLsb' (8 * i) 8 =
          if p.getLsbD i then f (x.extractLsb' (8 * i) 8) ((k.getV vs2).extractLsb' (8 * i) 8) else (k.getV vd).extractLsb' (8 * i) 8
    log 0 vs2 (fun x y => x &&& y) ∧ log 1 vs2 (fun x y => x ||| y) ∧ log 2 vs2 (fun x y => x ^^^ y) ∧
    log 3 vs2 (fun x y => x &&& ~~~y) ∧ log 4 0 (fun x _ => ~~~x) ∧ log 5 0 (fun x _ => x) ∧
    (∃ v, does (.vlog c vd vs1 vs2 pm 6 a) (slotVlog vd vs1 vs2 pm 6) v ∧
      ∀ i < 128, v.extractLsb' (8 * i) 8 = if p.getLsbD i then x.extractLsb' (8 * i) 8 else y.extractLsb' (8 * i) 8) ∧
    ∀ t w, (t = 0 ∨ t = 5) ∧ w = 32 ∨ (t = 1 ∨ t = 2 ∨ t = 4) ∧ w = 16 ∨ t = 3 ∧ w = 8 →
      let n := 1024 / w
      let perm (op : Nat) (f : Nat → Nat) : Prop :=
        ∃ v, does (.vperm c vd vs1 vs2 pm (BitVec.ofNat 8 (32 * t + op)) a) (slotVperm vd vs1 vs2 pm (BitVec.ofNat 8 (32 * t + op))) v ∧
          ∀ i < n, velt w v i = if p.getLsbD (w / 8 * i) then f i else velt w (k.getV vd) i
      perm 0 (fun i => if velt w y i < n then velt w x (velt w y i) else 0) ∧
      perm 1 (fun i => velt w (if i % 2 = 0 then x else y) (i / 2)) ∧
      perm 2 (fun i => velt w (if i % 2 = 0 then x else y) (n / 2 + i / 2)) ∧
      perm 3 (fun i => if i < n / 2 then velt w x (2 * i) else velt w y (2 * (i - n / 2))) ∧
      perm 4 (fun i => if i < n / 2 then velt w x (2 * i + 1) else velt w y (2 * (i - n / 2) + 1)) ∧
      perm 5 (fun i => velt w x ((i + velt w y 0 % n) % n)) ∧
      perm 6 (fun _ => velt w x (velt w y 0 % n))

/-- R20, R109, R110: VCMP writes each active element's test to all its lanes of the predicate, and keeps the other lanes;
with a NaN only NE and UNORD hold. VPRED writes the whole predicate. A destination p0 takes nothing. -/
def Claims.Predicates : Prop :=
  ∀ (c : CoreId) (vs1 vs2 : BitVec 5) (pd p1 p2 pm : BitVec 3) (a : Word) (s : State),
    let k := s.core c
    let x := k.getP p1
    let y := k.getP p2
    let vd : BitVec 5 := pd.setWidth 5
    let cmp (t w op : Nat) (f : Nat → Nat → Bool) : Prop :=
      ∃ v, slotBDoes (.vcmp c vd vs1 vs2 pm (BitVec.ofNat 8 (32 * t + op)) a) c (decodeA a)
          (slotVcmp vd vs1 vs2 pm (BitVec.ofNat 8 (32 * t + op))) (fun k => k.setP pd v) s ∧
        ∀ i < 128, v.getLsbD i = if (k.getP pm).getLsbD (i / (w / 8) * (w / 8)) then
          f (velt w (k.getV vs1) (i / (w / 8))) (velt w (k.getV vs2) (i / (w / 8))) else (k.getP pd).getLsbD i
    let pred (fn : Nat) (vs1 vs2 : BitVec 5) (v : PWord) : Prop :=
      slotBDoes (.vpred c vd vs1 vs2 0 (BitVec.ofNat 8 fn) a) c (decodeA a) (slotVpred vd vs1 vs2 0 (BitVec.ofNat 8 fn))
        (fun k => k.setP pd v) s
    (∀ t w, (t, w) = (3, 8) ∨ (t, w) = (4, 16) ∨ (t, w) = (5, 32) →
      let z (x : Nat) : Int := (BitVec.ofNat w x).toInt
      cmp t w 0 (fun x y => decide (x = y)) ∧ cmp t w 1 (fun x y => decide (x ≠ y)) ∧ cmp t w 2 (fun x y => decide (z x < z y)) ∧
      cmp t w 3 (fun x y => decide (z x ≤ z y)) ∧ cmp t w 4 (fun x y => decide (z y < z x)) ∧
      cmp t w 5 (fun x y => decide (z y ≤ z x)) ∧ cmp t w 6 (fun x y => decide (x < y)) ∧ cmp t w 7 (fun x y => decide (y ≤ x))) ∧
    (∀ t w f, (t, w, f) = (0, 32, fmtFP32) ∨ (t, w, f) = (1, 16, fmtBF16) ∨ (t, w, f) = (2, 16, fmtFP16) →
      ∀ op < 9, op ≠ 6 → op ≠ 7 → ∃ g, cmp t w op g ∧
        ∀ x y, (f.decode x = .nan ∨ f.decode y = .nan → g x y = decide (op = 1 ∨ op = 8)) ∧
          (f.decode x ≠ .nan → f.decode y ≠ .nan → g x y = match op with
            | 0 => (f.decode x).eqv (f.decode y) | 1 => !(f.decode x).eqv (f.decode y)
            | 2 => (f.decode x).lt (f.decode y) | 3 => !(f.decode y).lt (f.decode x)
            | 4 => (f.decode y).lt (f.decode x) | 5 => !(f.decode x).lt (f.decode y) | _ => false)) ∧
    (let e1 : BitVec 5 := p1.setWidth 5
     let e2 : BitVec 5 := p2.setWidth 5
     pred 0 e1 e2 (x &&& y) ∧ pred 1 e1 e2 (x ||| y) ∧ pred 2 e1 e2 (x ^^^ y) ∧ pred 3 e1 e2 (x &&& ~~~y) ∧
       pred 4 e1 0 (~~~x) ∧ ∀ n < 128, ∃ v, pred (128 + n) 0 0 v ∧ ∀ i < 128, v.getLsbD i = decide (i < n))

/-- R104, R105, R117, R133: VRED writes its result and zeroes the rest of vd. RSUM adds along the pairwise tree in FP32, or
wraps in INT32; RMAX and RMIN give a greatest or least active element, RARGMAX and RARGMIN with the lowest index that holds
it, numbers before NaNs; BSCALE gives the scale of every block of 32. Of active NaNs alone the index is log 31's choice. -/
def Claims.VectorReductions : Prop :=
  ∀ (c : CoreId) (vd vs1 vs2 : BitVec 5) (pm : BitVec 3) (a : Word) (s : State),
    let k := s.core c
    let x := k.getV vs1
    let fn (t op : Nat) : BitVec 8 := BitVec.ofNat 8 (32 * t + op)
    let gives (t op : Nat) (v : VWord) : Prop :=
      slotBDoes (.vred c vd vs1 vs2 pm (fn t op) a) c (decodeA a) (slotVred vd vs1 vs2 pm (fn t op)) (fun k => k.setV vd v) s
    (∀ t w, (t, w) = (3, 8) ∨ (t, w) = (4, 16) ∨ (t, w) = (5, 32) →
      let act (i : Nat) : Prop := i < 1024 / w ∧ (k.getP pm).getLsbD (w / 8 * i) = true
      let e (i : Nat) : BitVec w := x.extractLsb' (w * i) w
      let most (mx : Bool) : BitVec w := BitVec.ofInt w (if mx then -(2 ^ (w - 1) : Int) else 2 ^ (w - 1) - 1)
      let le (mx : Bool) (p q : BitVec w) : Prop := if mx then p.toInt ≤ q.toInt else q.toInt ≤ p.toInt
      gives t 0 (((List.range (1024 / w)).foldl (fun (n : Word) i =>
        if (k.getP pm).getLsbD (w / 8 * i) then n + (e i).signExtend 32 else n) 0).setWidth 1024) ∧
      ∀ mx : Bool, let op := if mx then 1 else 2
        ((∀ i, ¬act i) → gives t op ((most mx).setWidth 1024) ∧
          gives t (op + 2) (((BitVec.allOnes 32 ++ (most mx).signExtend 32 : DWord)).setWidth 1024)) ∧
        ∀ i, act i → (∀ j, act j → le mx (e j) (e i)) → (∀ j, j < i → act j → e j ≠ e i) →
          gives t op ((e i).setWidth 1024) ∧
          gives t (op + 2) (((BitVec.ofNat 32 i ++ (e i).signExtend 32 : DWord)).setWidth 1024)) ∧
    (∀ t w f, (t, w, f) = (0, 32, fmtFP32) ∨ (t, w, f) = (1, 16, fmtBF16) ∨ (t, w, f) = (2, 16, fmtFP16) →
      let act (i : Nat) : Prop := i < 1024 / w ∧ (k.getP pm).getLsbD (w / 8 * i) = true
      let e (i : Nat) : FVal := f.decode (velt w x i)
      (∃ sum : Nat → Nat → Nat, gives t 0 (BitVec.ofNat 1024 (sum (if t = 0 then 5 else 6) 0)) ∧
        (∀ i, (act i → sum 0 i = fmtFP32.rne (e i)) ∧ (¬act i → sum 0 i = 0)) ∧
        ∀ n i, sum (n + 1) i = fmtFP32.rne ((fmtFP32.decode (sum n (2 * i))).add (fmtFP32.decode (sum n (2 * i + 1))))) ∧
      (∀ mx : Bool, let op := if mx then 1 else 2
        let before (p q : FVal) : Prop := if mx then q.ltZ p = true else p.ltZ q = true
        ((∀ i, ¬act i) → gives t op (BitVec.ofNat 1024 (f.rne (.inf mx))) ∧
          gives t (op + 2) (BitVec.ofNat 1024 (fmtFP32.rne (.inf mx) + (2 ^ 32 - 1) * 2 ^ 32))) ∧
        ∀ i, act i → ((∀ j, act j → e j = .nan) ∨ (e i ≠ .nan ∧ ∀ j, act j → e j ≠ .nan → ¬before (e j) (e i))) →
          (∀ j, j < i → act j → e j ≠ .nan ∧ e i ≠ .nan → before (e i) (e j)) → ((∀ j, act j → e j = .nan) → ∀ j, j < i → ¬act j) →
          gives t op (BitVec.ofNat 1024 (f.rne (e i))) ∧ gives t (op + 2) (BitVec.ofNat 1024 (fmtFP32.rne (e i) + i * 2 ^ 32))) ∧
      (etBlock vs2.toNat = true → ∃ v, gives t 5 v ∧
        (∀ j < 1024 / w / 32, scaleAt v j = blockScale vs2.toNat (((List.range 32).filter (fun i =>
          (k.getP pm).getLsbD (w / 8 * (32 * j + i)))).map (fun i => e (32 * j + i)))) ∧
        (∀ j < 64, 1024 / w / 32 ≤ j → scaleAt v j = ⟨0, 0⟩) ∧ v.toNat < 2 ^ 640))

/-- R111–R114, R136: VCVT converts its elements one by one, in ascending order, each multiplied or divided by its block's
scale, and keeps the other bits of vd; only the stochastic opcode moves the generator, by one draw for each element that
rounds. -/
def Claims.VectorConversions : Prop :=
  ∀ (c : CoreId) (vd vs1 vs2 : BitVec 5) (pm : BitVec 3) (fn : BitVec 8) (a : Word) (s : State), vcvtLegal fn vs2 pm = true →
    let k := s.core c
    let x := k.getV vs1
    let from' := fn.toNat % 16
    let dst := fn.toNat / 16
    let ws := etBits from'
    let wd := etBits dst
    let n := 1024 / max ws wd
    let val (i : Nat) : FVal :=
      let e := etElem from' false (velt ws x (if ws < wd then pm.toNat * n + i else i))
      let b := scaleAt (k.getV vs2) (i / 32)
      if etBlock from' then applyScale from' false b e else if etBlock dst then applyScale dst true b e else e
    let lo := if wd < ws then pm.toNat * n else 0
    let cvt (i : Instr) (mode : Rnd) (sr : Bool) : Prop :=
      ∃ v g, slotBDoes i c (decodeA a) (slotVcvt mode sr vd vs1 vs2 pm fn) (fun k => { k.setV vd v with gen := g }) s ∧
        convertsTo dst false mode sr n val k.gen (fun i => velt wd v (lo + i)) g ∧
        (∀ j < 1024 / wd, j < lo ∨ lo + n ≤ j → velt wd v j = velt wd (k.getV vd) j) ∧ (sr = false → g = k.gen)
    cvt (.vcvtRne c vd vs1 vs2 pm fn a) .rne false ∧ cvt (.vcvtRtz c vd vs1 vs2 pm fn a) .rtz false ∧
      cvt (.vcvtSr c vd vs1 vs2 pm fn a) .rne true

/-- R119, R121, R124, R125, R138, R139: MMA adds its products to the active rows of one accumulator and leaves the other
rows; ACLR clears an accumulator and discards its groups; AWR and ACVT close its groups before they write a row or read
one. No v register changes but ACVT's vd, and no other accumulator. -/
def Obligations.MatrixUnit : Prop :=
  ∀ (c : CoreId) (acc : BitVec 2) (vs1 vs2 vd row : BitVec 5) (fa fb mode : BitVec 4) (scale : BitVec 2) (a : Word) (s : State),
    let k := s.core c
    let sv := if etBlock fa.toNat || etBlock fb.toNat then k.getV (scaleReg scale) else 0
    (∃ m g, slotBDoes (.mma c acc vs1 vs2 fa fb mode scale a) c (decodeA a) (slotMma acc vs1 vs2 fa fb mode scale)
        (fun k => { k with acc := m, grp := g }) s ∧
      ∀ j, let key := j
        (if 32 * acc.toNat ≤ j ∧ j < 32 * acc.toNat + mmaRows mode then
          (Tab.get 0 m key, Tab.get [] g key) =
            mmaRow (mode.getLsbD 0) ⟨fa, fb, mode.getLsbD 1, BitVec.ofNat 5 (j - 32 * acc.toNat),
              (k.getV vs1).extractLsb' (32 * (j - 32 * acc.toNat)) 32, k.getV vs2, sv⟩ (Tab.get 0 k.acc key) (Tab.get [] k.grp key)
         else (Tab.get 0 m key, Tab.get [] g key) = (Tab.get 0 k.acc key, Tab.get [] k.grp key))) ∧
    (∃ m g, slotBDoes (.aclr c acc 0 a) c (decodeA a) (slotAclr acc 0) (fun k => { k with acc := m, grp := g }) s ∧
      ∀ j, (Tab.get 0 m j, Tab.get [] g j) = if j / 32 = acc.toNat then (0, []) else (Tab.get 0 k.acc j, Tab.get [] k.grp j)) ∧
    slotBDoes (.awr c acc vs1 row 0 a) c (decodeA a) (slotAwr acc vs1 row 0)
      (fun k => (k.closeAcc acc).setAcc acc row.toNat (k.getV vs1)) s ∧
    ∀ fmt rnd mul sat part, acvtLegal fmt rnd mul 0 part scale = true →
      let w := etBits fmt.toNat
      let row32 := (k.closeAcc acc).getAcc acc row.toNat
      let val (i : Nat) : FVal :=
        let e := fmtFP32.decode (velt 32 row32 i)
        if mul then e.mul (fmtFP32.decode (velt 32 (k.getV (scaleReg scale)) i)) else e
      ∃ v g, slotBDoes (.acvt c acc vd row fmt rnd mul sat 0 part scale a) c (decodeA a) (slotAcvt acc vd row fmt rnd mul sat 0 part scale)
          (fun k => { (k.closeAcc acc).setV vd v with gen := g }) s ∧
        convertsTo fmt.toNat sat (if rnd = 1 then .rtz else .rne) (decide (rnd = 2)) 32 val k.gen
          (fun i => velt w v (32 * part.toNat + i)) g ∧
        (∀ j < 1024 / w, j < 32 * part.toNat ∨ 32 * part.toNat + 32 ≤ j → velt w v j = velt w (k.getV vd) j) ∧
        (rnd ≠ 2 → g = k.gen)

/-! ### Mesh and billets (R147–R168) -/

/-- R25, R89, R148, R150–R152, R157, R160: a router moves the packet in turn: to the neighbour's input if it has room there,
down to the hub, to the store of its own core, which takes a data request while no answer of its own waits, or as a response
to its own core's engine. A block store stays until its lines are read, as the banks give them. With nothing to send, without
room, or while the device is in quench, nothing changes. A store request that R188 does not hold is checked as it arrives; a
request to a fenced core is answered and a FENCED answer counted, and a response to it discarded. -/
def Claims.RouterForward : Prop :=
  ∀ (c : CoreId) (port : RPort) (vc : Fin 3) (s : State),
    (s.quench = true ∨ nextInput s c port vc = none → exec (.routerForward c port vc) s = .next s) ∧
    ∀ inp it, s.quench = false → nextInput s c port vc = some inp → headFor s c port inp vc = some it →
      let run := exec (.routerForward c port vc) s
      let rest := s.pool.filter (fun i => decide (i.id ≠ it.id))
      let frame (t : State) : Prop := { t with pool := s.pool, rr := s.rr } = s
      let room := outRoom s c port it
      (room = if port = .down then true else if port = .loc then
          decide (pktVc it.pkt ≠ 1) || !(s.pool.any (fun i => decide (i.loc = .store c) && isResp i.pkt))
        else roomAt s (neighbour c port).1 (neighbour c port).2 (pktVc it.pkt) (pktFlits it.pkt)) ∧
      (room = false → run = .next s) ∧
      (∀ a n, room = true → it.blk = some (a, n) →
        let m := min (linesNow s c it) n
        (m = 0 → n ≠ 0 → run = .next s) ∧
        (m ≠ 0 → s.item it.id = some it → ∃ t, run = .next t ∧ frame t ∧
          t.item it.id = some { it with
            blk := if n = m then none else some (a + 64 * m, n - m), cyc := (s.core c).cycles
            pkt := { it.pkt with data := it.pkt.data ++ (List.range m).map (fun j => storeLine s.mem c (a / 64 + j)) } })) ∧
      (room = true → it.blk = none → mcSource it = false → redKey it.pkt = none →
        (port ≠ .loc → port ≠ .down → ∃ t, run = .next t ∧ frame t ∧
            t.pool = rest ++ [{ it with loc := .mesh (neighbour c port).1 (neighbour c port).2, since := s.now }]) ∧
        (port = .down → ∃ t, run = .next t ∧ frame t ∧ t.pool = rest ++ [{ it with
            loc := .hub (c.val / 256) (clusterOf c), since := s.now, via := if isResp it.pkt then c.val else it.via }]) ∧
        (port = .loc → isMeshMc it.pkt = false →
          (isResp it.pkt = true → it.ctx = none → (s.core c).st = .fenced → ∃ t, run = .next t ∧ frame t ∧ t.pool = rest) ∧
          (isResp it.pkt = true → it.ctx = none → (s.core c).st ≠ .fenced → ∃ t y, run = .next t ∧ frame t ∧ t.pool = rest ++ [y] ∧
            y.loc = .resp ∧ y.pkt = it.pkt ∧ y.id = it.id) ∧
          (isResp it.pkt = false → (s.core c).st ≠ .fenced → ∃ t y, run = .next t ∧ frame t ∧ t.pool = rest ++ [y] ∧
            y.loc = .store c ∧ y.pkt = it.pkt ∧ y.id = it.id ∧ (y.held = true ∨ y.chk = some (permBad s it.pkt))) ∧
          (isResp it.pkt = false → (s.core c).st = .fenced → ∃ u, { u with rr := s.rr } = s ∧
            run = .next (noteClosed c (closedStatus s it.pkt) (respond (siteEp (c.val / 256)) it (closedStatus s it.pkt) u)))))

/-- R94, R154, R157: a mesh multicast leaves its source by each output as a copy for the members on that side, the rest
waiting for the other outputs; the first copy opens the count of its answers, and each copy its direction's. At a member the
copy names that core's own store, and the rest of it travels on; a fenced member answers at once. The completion of a direction
is added to the count at the source's router. A multicast of no member completes with count 0. -/
def Claims.RouterMulticasts : Prop :=
  ∀ (c : CoreId) (port : RPort) (vc : Fin 3) (s : State) (inp : Nat) (it : Item), s.quench = false →
    nextInput s c port vc = some inp → headFor s c port inp vc = some it → it.blk = none → outRoom s c port it = true →
    s.item s.nextId = none →
      let run := exec (.routerForward c port vc) s
      let ctx := it.ctx.getD it.id
      let rest := s.pool.filter (fun i => decide (i.id ≠ it.id))
      let m := it.pkt.members.toNat % 2 ^ 16
      let part := sideMask it.pkt c port
      let copy : Pkt := { it.pkt with members := BitVec.ofNat 18 part }
      let kept (n : Nat) : List Item := if n = 0 then rest else s.pool.map (fun i => if i.id = it.id then
        { it with ctx := if mcSource it then some ctx else it.ctx, pkt := { it.pkt with members := BitVec.ofNat 18 n } } else i)
      let opened := if mcSource it = true ∧ it.ctx = none then
        Tab.put none s.mcasts ctx (some ⟨it, popcount m 16, 0, false, []⟩) else s.mcasts
      let local' (n : Nat) : Prop := (s.core c).st ≠ .fenced → ∃ t y, run = .next t ∧ t.pool = kept n ++ [y] ∧ y.id = s.nextId ∧
        y.loc = .store c ∧ y.ctx = some ctx ∧ y.pkt = meshPkt it.pkt c ∧ (y.held = true ∨ y.chk = some (permBad s (meshPkt it.pkt c))) ∧
        t.mcasts = opened ∧ t.regs = s.regs ∧ t.cores = s.cores ∧ t.mem = s.mem
      s.pool.find? (fun i => decide (i.id = it.id)) = some it → (∀ i ∈ s.pool, i.id = it.id → i = it) →
      (mcSource it = true → m = 0 → port = .loc → ∃ u, { u with rr := s.rr } = s ∧
        run = .next (respondWith (siteEp (c.val / 256)) it 0 0 false 0 [] u)) ∧
      (mcSource it = true → m ≠ 0 → port ≠ .loc → port ≠ .down →
        ∃ t y, run = .next t ∧ t.pool = kept (m - part) ++ [y] ∧ y.id = s.nextId ∧
          y.loc = .mesh (neighbour c port).1 (neighbour c port).2 ∧ y.ctx = some s.nextId ∧ y.pkt = copy ∧
          t.mcasts = Tab.put none opened s.nextId
            (some ⟨{ it with id := s.nextId, ctx := some ctx, pkt := copy }, popcount part 16, 0, false, []⟩) ∧
          t.regs = s.regs ∧ t.cores = s.cores ∧ t.mem = s.mem) ∧
      (mcSource it = true → m ≠ 0 → port = .loc → local' (m - part)) ∧
      (mcSource it = false → isResp it.pkt = false → isMeshMc it.pkt = true → port = .loc → redKey it.pkt = none →
        local' (it.pkt.members &&& ~~~(1#18 <<< mcPos it.pkt c)).toNat) ∧
      (∀ x, mcSource it = false → isResp it.pkt = true → it.ctx = some x → port = .loc → redKey it.pkt = none →
        ∃ u, { u with rr := s.rr, pool := s.pool } = s ∧ u.pool = rest ∧
          run = .next (addAnswers x (popcount it.pkt.members.toNat 16) (compCount it.pkt) (decide (it.pkt.comp.toNat / 16 % 2 = 1))
            (compStatus it.pkt) u))

/-- R155, R156, R223: a reduction that may combine waits parked at its output, up to 16 of them; one that finds another of
its key there is merged into it and answered at once. Of a tag armed for JOB_KILL it is answered JOB_KILLED, unless a status
of R183 that also applies goes before; with merging off, or with no place free, it passes, the latter counted. -/
def Claims.RouterReductions : Prop :=
  ∀ (c : CoreId) (port : RPort) (vc : Fin 3) (s : State) (inp : Nat) (it : Item), s.quench = false →
    nextInput s c port vc = some inp → inp ≠ 6 → headFor s c port inp vc = some it → redKey it.pkt ≠ none → it.blk = none →
    outRoom s c port it = true →
      let run := exec (.routerForward c port vc) s
      let e := siteEp (c.val / 256)
      let base := siteBase (c.val / 256) + 0x8000
      let rest := s.pool.filter (fun i => decide (i.id ≠ it.id))
      let mate := s.pool.find? (fun i => decide (i.loc = .parked c) && decide (redKey i.pkt = redKey it.pkt))
      let full := (s.pool.filter (fun i => decide (i.loc = .parked c))).length
      let on : Prop := s.armed it.pkt.job.toNat = false ∧ s.rf base 15 1 = 1
      (s.armed it.pkt.job.toNat = true → ∃ u, { u with rr := s.rr } = s ∧
        run = .next (respond e it (rankStatus s it.pkt 9) u)) ∧
      (on → ∀ q, mate = some q → s.item q.id = some q → ∃ u, { u with pool := s.pool, rr := s.rr } = s ∧
        run = .next ((respondWith e it 0 1 false 0 [] u).incRf (base + 0x40) 0 16 1) ∧
        (u.item q.id).map (fun i => (i.pkt.data, i.pkt.members)) = some (mergeData q.pkt it.pkt, q.pkt.members + it.pkt.members)) ∧
      (on → mate = none → full < 16 → ∃ t, run = .next t ∧ { t with pool := s.pool, rr := s.rr } = s ∧
        t.pool = rest ++ [{ it with loc := .parked c, since := s.now }]) ∧
      (on → mate = none → 16 ≤ full → port ≠ .loc → port ≠ .down → ∃ t, run = .next t ∧
        { t with pool := s.pool, rr := s.rr } = s.incRf (base + 0x40) 16 16 1 ∧
        t.pool = rest ++ [{ it with loc := .mesh (neighbour c port).1 (neighbour c port).2, since := s.now }]) ∧
      (s.armed it.pkt.job.toNat = false → s.rf base 15 1 = 0 → port ≠ .loc → port ≠ .down → ∃ t, run = .next t ∧
        { t with pool := s.pool, rr := s.rr } = s ∧
        t.pool = rest ++ [{ it with loc := .mesh (neighbour c port).1 (neighbour c port).2, since := s.now }])

/-- R150, R154, R155, R180, R215: a parked reduction leaves after its hold, in its turn at the output and where that has room;
a multicast whose members have all answered completes with the number delivered, and so does each direction of one, at the
router of its last member. -/
def Claims.ReductionHoldAndMulticastAnswer : Prop :=
  ∀ (id : Nat) (s : State), s.quench = false →
    (∀ it (c : Nat), s.item id = some it → (∀ i ∈ s.pool, i.id = id → i = it) → it.loc = .parked c →
      let p := outPort s c it.pkt
      let held := regionCycles s (regionOf c) it.since < s.rf (siteBase (c / 256) + 0x8000) 0 6
      let goes : Prop := headFor s c p 6 (pktVc it.pkt) = some it ∧ nextInput s c p (pktVc it.pkt) = some 6 ∧ outRoom s c p it = true
      (held ∨ ¬goes → exec (.redholdExpiry id) s = .next s) ∧
      (goes → p ≠ .loc → p ≠ .down →
        ∃ t, exec (.redholdExpiry id) s = .next t ∧ { t with pool := s.pool, rr := s.rr } = s ∧
          t.pool = s.pool.filter (fun i => decide (i.id ≠ it.id)) ++
            [{ it with loc := .mesh (neighbour c p).1 (neighbour c p).2, since := s.now }]) ∧
      (goes → p = .loc → (s.core c).st ≠ .fenced → isFred it.pkt = true →
        ∃ t y, exec (.redholdExpiry id) s = .next t ∧ { t with pool := s.pool, rr := s.rr } = s ∧
          t.pool = s.pool.filter (fun i => decide (i.id ≠ it.id)) ++ [y] ∧ y.loc = .store c ∧ y.pkt = it.pkt)) ∧
    (∀ it (site cl : Nat), s.item id = some it → it.loc = .hubParked site cl →
      let held := regionCycles s (regionOf (srcCoreIdx it.pkt)) it.since < s.rf (siteBase site + 0x8000) 0 6
      (held → exec (.redholdExpiry id) s = .next s) ∧
      (¬held → ∃ t, exec (.redholdExpiry id) s = .next t ∧ { t with pool := s.pool } = s ∧
        t.pool = s.pool.filter (fun i => decide (i.id ≠ it.id)) ++ [{ it with loc := .hub site cl, since := s.now }])) ∧
    (∀ m : Mcast, Tab.get none s.mcasts id = some m → m.waiting ≠ 0 → exec (.multicastAnswer id) s = .next s) ∧
    (∀ m : Mcast, Tab.get none s.mcasts id = some m → m.waiting = 0 → isMcs m.req.pkt = true → s.ownSrc m.req.pkt = true →
      let answered (l : Loc) (x : Option Nat) : Prop :=
        ∃ t r, exec (.multicastAnswer id) s = .next t ∧ t.pool = s.pool ++ [r] ∧ r.loc = l ∧ r.ctx = x ∧ r.pkt.op = 0x20 ∧
          r.pkt.tag = m.req.pkt.tag ∧ r.pkt.comp = compWord (firstStatus m.statuses) m.count m.fenced ∧
          Tab.get none t.mcasts id = none ∧ { t with pool := s.pool, mcasts := s.mcasts } = s
      (m.req.ctx = none → s.item m.req.id = none → m.req.pkt.srcEp.toNat = m.req.via →
        answered (match routerOf m.req.loc with | some c => .store c | none => ownLoc m.req) none) ∧
      (∀ x, m.req.ctx = some x → m.req.pkt.srcEp.toNat = siteEp (srcCoreIdx m.req.pkt / 256) →
        answered (.store (lastMember m.req.pkt)) (some x)))

/-- R158, R383: a faulty router's region leaves the healthy map, and event 0x022 of class C1 takes the site's function
offline and stops its cores. -/
def Claims.RouterFault : Prop :=
  ∀ (r : RegionId) (s : State), s.quench = false →
    let site := r.val / 4
    let b := siteBase site + 0x8030
    (∃ u, exec (.routerFault r) s = .next (raiseEvent 1 (8 + site) 0x022 (BitVec.ofNat 32 (1 + site)) u) ∧
      u.rf b (r.val % 4) 1 = 0 ∧ u.rf b (4 + r.val % 4) 1 = 1 ∧ (∀ x, x ≠ b → u.reg x = s.reg x) ∧ { u with regs := s.regs } = s) ∧
    ∃ t, exec (.routerFault r) s = .next t ∧ t.funcState (1 + site) = 2 ∧ t.mem = s.mem ∧
      ∀ i < 256, (s.core (256 * site + i)).st = .running → (t.core (256 * site + i)).st = .stopping

/-- R83, R84, R98, R164, R165, R267: the accesses of a cluster's cores take the credits of a slice that its port has free, and
a bank serves one line of the access in its turn. With its last line a load takes its bytes, and a store leaves its core's
queue, its bytes in memory after the committed lines under it; a request of the fabric goes on to its home, its credit owed
back. -/
def Claims.BankService : Prop :=
  ∀ (site : SiteId) (slice : Fin 16) (bank : Fin 4) (s : State), s.quench = false →
    let e := siteEp site.val
    let run := exec (.billetRequest site slice bank ⟨[], [], [], [], []⟩) s
    let adm := admitSlice site.val slice.val s
    let turn := bankNext adm site.val slice.val bank.val
    let idle : Prop := islandOnly s site.val = true ∨ s.devState ≠ 0
    let came (l : List BilletOp) : List BilletOp := l.map (fun b => { b with there := false, at' := 0 })
    ({ adm with cores := s.cores } = s ∧ ∀ d, { adm.core d with billet := (s.core d).billet } = s.core d ∧
      came (adm.core d).billet = came (s.core d).billet) ∧
    (idle → run = .next s) ∧
    (¬idle → turn = none ∨ (∃ r, turn = some (r, .drain)) → run = .next adm) ∧
    (¬idle → ∀ r c b, turn = some (r, .own c b) →
      let u := bankTook site.val slice.val bank.val r false adm
      let left := (linesFrom b.off b.bytes b.lines).length - 1
      (left ≠ 0 → ∃ t, run = .next t ∧ { t with cores := s.cores, rr := s.rr } = s ∧ (∀ d, d ≠ c → t.core d = adm.core d) ∧
        t.core c = { adm.core c with billet := (adm.core c).billet.map (fun o => if o.no = b.no then { o with lines := o.lines + 1 } else o) }) ∧
      (left = 0 → b.store = false → ∃ t, run = .next t ∧ { t with cores := s.cores, rr := s.rr } = s ∧ (∀ d, d ≠ c → t.core d = adm.core d) ∧
        t.core c = { adm.core c with billet := (adm.core c).billet.map (fun o => if o.no = b.no then
          { o with served := true, lines := o.lines + 1
                   data := let v := readBytes { u with epochs := b.old.getD s.epochs } e 1 (billetAddr site.val 0) b.off b.bytes
                           if v.2 then 2 ^ (8 * b.bytes) - 1 else v.1 } else o) }) ∧
      (left = 0 → b.store = true → b.old = none → ∃ t, run = .next t ∧ t.regs = s.regs ∧ t.pool = s.pool ∧ t.own = s.own ∧
        (∀ d, d ≠ c → t.core d = adm.core d) ∧
        t.core c = releasePause { adm.core c with billet := (adm.core c).billet.filter (fun o => decide (o.no ≠ b.no)) } ∧
        t.mem = Memory.write (settleLines e (b.off / 64) ((b.off + b.bytes - 1) / 64) u).mem (billetAddr site.val b.off) b.bytes b.data)) ∧
    (¬idle → ∀ r i, turn = some (r, .req i) → s.item i.id = some i →
      let left := (linesFrom (reqOff i.pkt) (reqBytes i.pkt) i.lines).length - 1
      ∃ t, run = .next t ∧ t.mem = s.mem ∧ t.cores = adm.cores ∧ t.regs = s.regs ∧
        t.item i.id = some { i with lines := i.lines + 1, cred := none, loc := if left = 0 then .ready e else i.loc } ∧
        ∀ src rb, i.cred = some (src, rb) → Tab.get 0 t.credOwed (credKey src i.via rb) = Tab.get 0 s.credOwed (credKey src i.via rb) + 1)

/-- R162, R163, R164, R166, R167: every ScrubInterval microseconds a scrub read of each slice begins to wait for its bank,
which serves it in turn: the scrubber of the slice moves on, words found correctable are counted and those found
uncorrectable poisoned, and a pass is counted once every slice has completed it. A write of BILLET_CFG that would change the
mapping is refused while the site's cores are not quiet; else every byte stays in its slice. -/
def Claims.ScrubAndBilletCfg : Prop :=
  ∀ (site : SiteId) (slices : BitVec 16) (val : Word) (s : State), s.quench = false →
    let a := siteBase site.val + 0x9000
    let runs : Prop := s.rf a 0 8 ≠ 0 ∧ islandOnly s site.val = false ∧ s.devState = 0
    (¬runs → exec (.scrubRead site slices) s = .next s) ∧
    (runs → ∃ t, exec (.scrubRead site slices) s = .next t ∧ { t with scrubT := s.scrubT } = s ∧
      ∀ k < 16,
        let begins : Prop := slices.getLsbD k = true ∧ Tab.get 0 s.scrubT (scrubTimer site.val k) + 250 * s.rf a 0 8 ≤ s.now
        Tab.get 0 t.scrubT (scrubTimer site.val k) = (if begins then s.now else Tab.get 0 s.scrubT (scrubTimer site.val k)) ∧
        Tab.get 0 t.scrubT (scrubKey site.val k) =
          if begins ∧ Tab.get 0 s.scrubT (scrubKey site.val k) = 0 then s.now + 1 else Tab.get 0 s.scrubT (scrubKey site.val k)) ∧
    (∀ (slice : Fin 16) (bank : Fin 4) (x : Ecc) r, islandOnly s site.val = false → s.devState = 0 →
      bankNext (admitSlice site.val slice.val s) site.val slice.val bank.val = some (r, .scrub) →
      let k := scrubKey site.val slice.val
      let o := scrubLine s site.val slice.val
      let inside (y : Nat) : Bool := decide (o ≤ y ∧ y < o + 64)
      ∃ t, exec (.billetRequest site slice bank x) s = .next t ∧ Tab.get 0 t.scrubAt k = Tab.get 0 s.scrubAt k + 1 ∧
        Tab.get 0 t.scrubT k = 0 ∧ t.mem = s.mem ∧ t.cores = (admitSlice site.val slice.val s).cores ∧
        t.rf (a + 0x10) 0 32 = min (s.rf (a + 0x10) 0 32 + (x.ce.filter inside).length) (2 ^ 32 - 1) ∧
        (∀ y ∈ x.ue, inside y = true → poisonedByte t (billetAddr site.val y) = true) ∧
        t.rf (a + 0x1C) 0 32 = if scrubPasses s site.val < scrubPasses t site.val then min (s.rf (a + 0x1C) 0 32 + 1) (2 ^ 32 - 1)
          else s.rf (a + 0x1C) 0 32) ∧
    (let run := exec (.billetCfgWrite site val) s
     let quiet : Prop := ∀ i < 256, let k := s.core (256 * site.val + i)
       (k.st = .idle ∨ k.st = .halted ∨ k.st = .trapped) ∧ k.fe = [] ∧ k.bulk = [] ∧ k.billet = []
     let same : Prop := fld val 16 1 = s.rf a 16 1
     let written (t : State) : Prop := t.reg a = (s.reg a &&& ~~~0x000100FF#32) ||| (val &&& 0x000100FF#32) ∧ ∀ x, x ≠ a → t.reg x = s.reg x
     (same → ∃ t, run = .next t ∧ written t ∧ { t with regs := s.regs } = s) ∧
     (¬same → ¬quiet → ∃ t, run = .next t ∧ t.rf (a + 4) 0 1 = 1 ∧ (∀ x, x ≠ a + 4 → t.reg x = s.reg x) ∧ { t with regs := s.regs } = s) ∧
     (¬same → quiet → memOk s → ∃ t, run = .next t ∧ written t ∧
       { t with regs := s.regs, mem := s.mem, poison := s.poison } = s ∧
       ∀ slice < 16, ∀ n < 2 ^ 24,
         let loc := billetAddr site.val (slice * 2 ^ 24 + n)
         let mix := billetAddr site.val (n / 2 ^ 12 * 2 ^ 16 + slice * 2 ^ 12 + n % 2 ^ 12)
         if fld val 16 1 = 1 then Memory.byte t.mem loc = Memory.byte s.mem mix
         else Memory.byte t.mem mix = Memory.byte s.mem loc))

/-! ### Requests at their home (R173–R195, R203–R213) -/

/-- R149, R179–R181, R205, R240, R241: the answer to a request leaves its home with the request's tag and its completion
word, Var 0, as data for a read or a fetching atomic and with a value for no other; it sets off toward its requester by the
route the request came, by the router of a core's store, or first off its die. The request is gone, and the credit it held is owed back. A member of a multicast answers by such a response
from another endpoint, and is counted in its multicast at its source's own. -/
def Claims.Answers : Prop :=
  ∀ (e st count : Nat) (fenced : Bool) (val : DWord) (data : List (BitVec 512)) (it : Item) (s : State),
    s.item it.id = some it →
    let t := respondWith e it st count fenced val data s
    let gone := s.pool.filter (fun i => decide (i.id ≠ it.id))
    let far := s.ownSrc it.pkt = true ∧ it.pkt.srcEp.toNat ≠ e ∧ it.pkt.members = 0
    let answers (n : Nat) (f : Bool) (v : DWord) (d : List (BitVec 512)) : Prop :=
      (∀ l, backLoc s e it.pkt = some l → ∃ r, t.pool = gone ++ [r] ∧ r.id = it.id ∧ r.pkt.tag = it.pkt.tag ∧
        r.loc = (match routerOf it.loc, l with
          | some c, _ => .store c
          | none, .resp => ownLoc it
          | none, .port x => if onDie x && !atHearth it.loc then .wire (dieOut x it.no) else .port x
          | none, l => l) ∧
        r.pkt.srcEp = it.pkt.srcEp ∧ r.pkt.srcCore = it.pkt.srcCore ∧ r.pkt.eng = it.pkt.eng ∧ r.pkt.p0 = (if r.pkt.op = 0x21 then v else 0) ∧ r.pkt.data = d ∧
        r.pkt.var = 0 ∧ r.pkt.cls = !d.isEmpty ∧ r.pkt.comp = compWord st n f ∧
        r.pkt.op = (if it.pkt.op = 1 then (if it.pkt.var = 0 then 0x21 else 0x22)
          else if isFat it.pkt = true ∧ it.pkt.len ≠ 0 then 0x21 else 0x20)) ∧
      (backLoc s e it.pkt = none → t.pool = gone)
    (it.ctx = none → { t with pool := s.pool, credOwed := s.credOwed } = s ∧ answers count fenced val data) ∧
    (∀ x, it.ctx = some x → far → { t with pool := s.pool, credOwed := s.credOwed } = s ∧ answers 1 (decide (st = 2)) 0 []) ∧
    (∀ x m, it.ctx = some x → ¬far → Tab.get none s.mcasts x = some m → ∃ m', Tab.get none t.mcasts x = some m' ∧
      (let n := (memberPkts it.pkt).length
       m'.waiting = m.waiting - n ∧ m'.count = (if st = 0 then m.count + n else m.count)) ∧
      m'.fenced = (m.fenced || decide (st = 2)) ∧ m'.statuses = (if st = 0 then m.statuses else m.statuses ++ [st]) ∧
      { t with pool := s.pool, mcasts := s.mcasts, credOwed := s.credOwed } = s ∧ t.pool = gone) ∧
    t.credOwed = (match it.cred with
      | none => s.credOwed
      | some (x, rb) => let k := credKey x it.via rb; Tab.put 0 s.credOwed k (Tab.get 0 s.credOwed k + 1))

/-- R25, R190, R191, R205, R211, R265, R266: a read of a core store takes the lines its banks give it now, at most two, and
answers when it has them all, its credit owed back with the first; one of home memory answers the bytes there in the epochs it sees, POISON where one is poisoned, and with no
speculative line and no poison the bytes of memory; every read merged into it is answered with the entry's status. A read
of a control register pair answers its two words, low word first. Memory does not change. -/
def Claims.ReadsAtHome : Prop :=
  ∀ (id e : Nat) (it : Item) (s : State), servedAt s id e it → it.pkt.op = 1 → it.wr = false →
    let n := reqBytes it.pkt
    let units (m v : Nat) : List (BitVec 512) := if it.pkt.var.toNat = 0 then [] else unpackNat v m
    let u := takeTurn it s
    capOf s it ≤ 2 ∧
    (∀ c o, reqTgt it.pkt = .store c o → s.merged id = [] → it.old = none →
      (n ≤ 64 → let v := Memory.read s.mem (storeAddr c o) n
        exec (.rd id) s = .next (respondWith e it 0 1 false (BitVec.ofNat 64 v) (units (n / 64) v) u)) ∧
      (64 < n → let m := min (capOf s it) (n / 64 - it.lines)
        let data := it.pkt.data ++ unpackNat (Memory.read s.mem (storeAddr c (o + 64 * it.lines)) (64 * m)) m
        (n / 64 ≤ it.lines + m → it.lines ≤ n / 64 → exec (.rd id) s = .next (respondWith e it 0 1 false 0 data u)) ∧
        (it.lines + m < n / 64 → ∃ t, exec (.rd id) s = .next t ∧
          { t with pool := s.pool, credOwed := s.credOwed } = u ∧
          t.credOwed = (match it.cred with
            | none => s.credOwed
            | some (x, rb) => let k := credKey x it.via rb; Tab.put 0 s.credOwed k (Tab.get 0 s.credOwed k + 1)) ∧
          t.pool = s.pool.map (fun i => if i.id = id then { s.arriving i with
            lines := it.lines + m, since := i.since, pkt := { i.pkt with data := data }
            cred := if it.cred.isSome then none else i.cred } else i)))) ∧
    ((reqTgt it.pkt).isMem = true →
      let seen : State := { s with epochs := it.old.getD s.epochs }
      let r (m : Item) := readBytes seen (reqEp m.pkt) m.pkt.p0 (memBase (reqEp m.pkt)) (reqOff m.pkt) (reqBytes m.pkt)
      (s.merged id = [] → exec (.rd id) s = .next (if (r it).2 = true then respondWith e it 8 1 false 0 [] u
        else respondWith e it 0 1 false (BitVec.ofNat 64 (r it).1) (units (n / 64) (r it).1) u)) ∧
      (∀ m, s.merged id = [m] → (r it).2 = true ∨ (r m).2 = true →
        exec (.rd id) s = .next (respondWith e m 8 1 false 0 [] (respondWith e it 8 1 false 0 [] u))) ∧
      (s.merged id = [] → s.spec = [] → s.poison = [] →
        let v := Memory.read s.mem (memBase (reqEp it.pkt) + reqOff it.pkt) n
        exec (.rd id) s = .next (respondWith e it 0 1 false (BitVec.ofNat 64 v) (units (n / 64) v) u))) ∧
    (∀ a, ctrlAddr it.pkt = some a → it.old = none →
      let lo := csRead .fabric a u
      let hi := csRead .fabric (a + 4) lo.2
      (it.pkt.var = 0 → exec (.rd id) s = .next (respondWith e it 0 1 false (hi.1 ++ lo.1) [] hi.2)) ∧
      (it.pkt.var ≠ 0 → let r := ctrlReads (n / 4) a u
        let v := r.1.foldr (fun w m => w.toNat + 2 ^ 32 * m) 0
        exec (.rd id) s = .next (respondWith e it 0 1 false (BitVec.ofNat 64 v) (unpackNat v (n / 64)) r.2)))

/-- R25, R33, R173, R184, R190, R204, R205, R263, R267: a write of any of the four opcodes to a core store puts the lines its
banks take now there, at most two, and counts each at every counter bound to it; its credit is owed back with the first, and it
is answered after the last; to home memory with
no epoch it follows the committed lines beneath it; in an epoch it goes into the speculation buffer and leaves memory
alone. No other byte changes. One to control registers writes its words in order. -/
def Claims.WritesAtHome : Prop :=
  ∀ (id e : Nat) (it : Item) (s : State), servedAt s id e it → it.wr = true → it.old = none →
    let p := it.pkt
    let n := reqBytes p
    let i : Option Instr := match p.op.toNat with
      | 2 => some (.wr8 id) | 3 => some (.wr id) | 4 => some (.mcs8 id) | 5 => some (.mcs id) | _ => none
    let begun : State := takeTurn it { s with wrLines := s.wrLines ++ lineKeys (capOf s it) it }
    ∀ cmd, i = some cmd →
      (∀ c o, reqTgt p = .store c o → n ≠ 0 →
        let k := stepLines (capOf s it) it
        let whole := n ≤ 64 ∨ it.lines + k = n / 64
        let lo := if n ≤ 64 then o else o + 64 * it.lines
        let m := if n ≤ 64 then n else 64 * k
        k ≠ 0 → ∃ u, u.mem = Memory.write s.mem (storeAddr c lo) m (if n ≤ 64 then storeVal p else packNat (p.data.drop it.lines)) ∧
        exec cmd s = .next (if whole then respondWith e it 0 1 false 0 [] u
          else (oweCredit id u).modItem id (fun i => { u.arriving i with lines := it.lines + k, since := i.since })) ∧
        (∀ a, a < storeAddr c lo ∨ storeAddr c lo + m ≤ a → Memory.byte u.mem a = Memory.byte s.mem a) ∧
        { u with mem := s.mem, cores := s.cores } = begun ∧ (∀ d, d ≠ c → u.core d = s.core d) ∧
        (u.core c).x = (s.core c).x ∧ (u.core c).v = (s.core c).v ∧
        ∀ j < 8, Tab.get 0 (u.core c).tc j =
          let h := ((List.range ((lo + m - 1) / 64 + 1 - lo / 64)).filter (fun y => bindsLine (Tab.get 0 (s.core c).tcb j) (lo / 64 + y))).length
          if h = 0 then Tab.get 0 (s.core c).tc j else tcAdd (Tab.get 0 (s.core c).tc j) h) ∧
      ((reqTgt p).isMem = true → epochOf p = 0 → n ≠ 0 → ∃ u, exec cmd s = .next (respondWith e it 0 1 false 0 [] u) ∧
        (let w := settleLines (reqEp p) (firstLine p) (lastLine p) begun
         u.mem = Memory.write w.mem (memBase (reqEp p) + reqOff p) n (storeVal p)) ∧
        u.cores = s.cores ∧ u.pool = s.pool ∧ u.own = s.own ∧
        (s.spec = [] → ∀ a, a < memBase (reqEp p) + reqOff p ∨ memBase (reqEp p) + reqOff p + n ≤ a →
          Memory.byte u.mem a = Memory.byte s.mem a)) ∧
      ((reqTgt p).isMem = true → epochOf p ≠ 0 → n ≠ 0 → ∃ u v st, exec cmd s = .next (respondWith e it st 1 false 0 [] u) ∧
        (st, v) = tentative (reqEp p) (epochOf p) (storeParts p) begun ∧
        u = (if st = 0 then noteForeign (reqEp p) p v else v) ∧ u.mem = s.mem ∧ u.cores = s.cores ∧ u.pool = s.pool) ∧
      ((reqTgt p).isMem = true → epochOf p = 0 → n = 0 → exec cmd s = .next (respondWith e it 0 1 false 0 [] begun)) ∧
      (∀ a, ctrlAddr p = some a →
        let v := storeVal p
        exec cmd s = .next (respondWith e it 0 1 false 0 [] (if n = 8 then
          csWrite .fabric (a + 4) (BitVec.ofNat 32 (v / 2 ^ 32)) (csWrite .fabric a (BitVec.ofNat 32 v) begun)
          else ctrlWrites (n / 4) a v begun)))

/-- R95, R157, R173, R179, R183, R223, R284, R365: a request that has its turn and meets a status is answered with it, with
every request merged into it, and does nothing else; the status is the first of R183's order: EXTENT, JOB_KILLED, FENCED,
NOT_POWERED, PERM. FENCED answers of a core's router are counted. -/
def Claims.StatusAtHome : Prop :=
  ∀ (id e : Nat) (it : Item) (s : State), s.quench = false → s.item id = some it → placeEp it.loc = some e → it.held = false →
    it.lead = none → isResp it.pkt = false → toGuest it.pkt = false → islandHolds s it = false → homeTurn s it = true →
    underWay it = false → itemStatus s it ≠ 0 →
      let i : Option Instr := match it.pkt.op.toNat with
        | 0x02 => some (.wr8 id) | 0x03 => some (.wr id) | 0x04 => some (.mcs8 id) | 0x05 => some (.mcs id)
        | 0x08 => some (.fatAtHome id) | 0x09 => some (.fatAtHome id) | 0x0A => some (.fatAtHome id) | 0x0B => some (.fatAtHome id)
        | 0x10 => some (.fredAtHome id) | 0x11 => some (.fredAtHome id) | 0x12 => some (.fredAtHome id) | 0x13 => some (.fredAtHome id)
        | 0x18 => some (.ownxAtHome id) | 0x19 => some (.ownrAtHome id) | 0x1A => some (.ecommitAtHome id) | _ => some (.rd id)
      ∀ cmd, i = some cmd → ∃ u, exec cmd s = .next (respondAll e it (itemStatus s it) (takeTurn it u)) ∧ { u with regs := s.regs } = s ∧
        itemStatus s it = (if extentBad it.pkt = true then 5 else if s.armed it.pkt.job.toNat = true then 9
          else if fencedAt s it.pkt = true then 2 else if unpowered s it.pkt = true then 3 else 6) ∧
        ((∀ c o, reqTgt it.pkt = .store c o → (s.core c).st ≠ .fenced) → u = s) ∧
        (∀ c o, reqTgt it.pkt = .store c o → (s.core c).st = .fenced → itemStatus s it = 2 → u = countFenced c s)

/-- R92, R93, R203, R211, R213: an atomic stores the new item and answers a fetching one with the old, and those merged into it act one after
another; a reduction combines its block with the block in memory. No other byte changes. -/
def Claims.AtomicsAtHome : Prop :=
  (∀ (id e : Nat) (it : Item) (s : State), servedAt s id e it → it.wr = true → it.old = none → (reqTgt it.pkt).isMem = true →
    s.spec = [] → s.poison = [] →
    let p := it.pkt
    let n := reqBytes p
    let a := memBase e + reqOff p
    let old := Memory.read s.mem a n
    let writes (u : State) (v : Nat) : Prop := u.mem = Memory.write s.mem a n v ∧ u.cores = s.cores ∧
      ∀ b, b < a ∨ a + n ≤ b → Memory.byte u.mem b = Memory.byte s.mem b
    (isFat p = true → ∃ t, exec (.fatAtHome id) s = .next t ∧
      writes t ((it :: s.merged id).foldl (fun v m => fatVal m.pkt.var.toNat (8 * n) v m.pkt.p0.toNat m.pkt.p1.toNat) old) ∧
      (s.merged id = [] → ∃ u, { u with regs := s.regs, wrLines := s.wrLines, rr := s.rr } = s ∧
        t.pool = (respondWith e it 0 1 false (BitVec.ofNat 64 old) [] u).pool)) ∧
    (reqEp p = e → isFred p = true → s.merged id = [] →
      ∃ u, exec (.fredAtHome id) s = .next (respondWith e it 0 p.members.toNat false 0 [] u) ∧
        { u with mem := s.mem, regs := s.regs, wrLines := s.wrLines, rr := s.rr, mirrorTx := s.mirrorTx, closing := s.closing } = s ∧
        writes u (fredVal p.var.toNat (p.op.toNat - 0x10) old (packNat p.data)))) ∧
  ∀ (id e c o : Nat) (it : Item) (s : State), servedAt s id e it → it.wr = true → it.old = none → reqTgt it.pkt = .store c o →
    s.merged id = [] →
    let p := it.pkt
    let n := reqBytes p
    let old := Memory.read s.mem (storeAddr c o) n
    let writes (u : State) (v : Nat) : Prop :=
      u.mem = Memory.write s.mem (storeAddr c o) n v ∧
        (∀ a, a < storeAddr c o ∨ storeAddr c o + n ≤ a → Memory.byte u.mem a = Memory.byte s.mem a) ∧
        { u with mem := s.mem, cores := s.cores, wrLines := s.wrLines, rr := s.rr } = s ∧ (∀ d, d ≠ c → u.core d = s.core d) ∧
        (u.core c).x = (s.core c).x ∧ (u.core c).v = (s.core c).v
    (isFat p = true → ∃ u, exec (.fatAtHome id) s = .next (respondWith e it 0 1 false (BitVec.ofNat 64 old) [] u) ∧
      writes u (fatVal p.var.toNat (8 * n) old p.p0.toNat p.p1.toNat)) ∧
    (isFred p = true → ∃ u, exec (.fredAtHome id) s = .next (respondWith e it 0 p.members.toNat false 0 [] u) ∧
      writes u (fredVal p.var.toNat (p.op.toNat - 0x10) old (packNat p.data)))

/-- R196–R198: OWNX takes a region that nobody owns, repeats to its owner, and answers BUSY to any other; OWNR releases the
requester's own entry, completes where there is none, and answers PERM to any other. -/
def Claims.OwnershipAtHome : Prop :=
  ∀ (id e : Nat) (it : Item) (s : State), servedAt s id e it → it.old = none →
    let p := it.pkt
    let region := reqOff p / 2 ^ regionLog s e
    let table := Tab.get [] s.own e
    let mine (o : OwnEnt) : Prop := o.scope.toNat = p.var.toNat ∧ ownMatch o p = true
    let u := takeTurn it s
    (p.op = 0x18 →
      (ownEntry s e region = none → table.length < 4096 → ∃ t, exec (.ownxAtHome id) s = .next (respond e it 0 t) ∧
        { t with own := s.own } = u ∧ (∀ x, x ≠ e → Tab.get [] t.own x = Tab.get [] s.own x) ∧
        Tab.get [] t.own e = table ++ [⟨region, p.var.extractLsb' 0 2, p.srcFab, p.srcEp, p.srcCore, p.job⟩]) ∧
      (ownEntry s e region = none → 4096 ≤ table.length →
        exec (.ownxAtHome id) s = .next (respond e it 1 (u.incRf (epOwn e + 4) 13 16 1))) ∧
      (∀ o, ownEntry s e region = some o → mine o → exec (.ownxAtHome id) s = .next (respond e it 0 u)) ∧
      (∀ o, ownEntry s e region = some o → ¬mine o → exec (.ownxAtHome id) s = .next (respond e it 1 u))) ∧
    (p.op = 0x19 →
      (∀ o, ownEntry s e region = some o → mine o → ∃ t, exec (.ownrAtHome id) s = .next (respond e it 0 t) ∧
        { t with own := s.own } = u ∧ (∀ x, x ≠ e → Tab.get [] t.own x = Tab.get [] s.own x) ∧
        ∀ y, y ∈ Tab.get [] t.own e ↔ y ∈ table ∧ y.region ≠ region) ∧
      (∀ o, ownEntry s e region = some o → ¬mine o → exec (.ownrAtHome id) s = .next (respond e it 6 u)) ∧
      (ownEntry s e region = none → exec (.ownrAtHome id) s = .next (respond e it 0 u)))

/-- R196, R199: OWN_CFG takes a region size of 2^16 to 2^30 bytes while the table is empty and is refused with CfgRefused
otherwise; a forced release removes one region's entry, or all. -/
def Claims.OwnershipRegisters : Prop :=
  ∀ (e : EpId) (val : Word) (off : BitVec 53) (s : State), hasHome e.val = true → s.quench = false →
    let table := Tab.get [] s.own e
    (table = [] → 16 ≤ fld val 0 5 → fld val 0 5 ≤ 30 → ∃ t, exec (.ownCfgWrite e val) s = .next t ∧
      t.rf (epOwn e) 0 5 = fld val 0 5 ∧ (∀ x, x ≠ epOwn e → t.reg x = s.reg x) ∧ { t with regs := s.regs } = s) ∧
    (table ≠ [] ∨ fld val 0 5 < 16 ∨ 30 < fld val 0 5 → ∃ t, exec (.ownCfgWrite e val) s = .next t ∧ t.rf (epOwn e + 4) 31 1 = 1 ∧
      (∀ x, x ≠ epOwn e + 4 → t.reg x = s.reg x) ∧ { t with regs := s.regs } = s) ∧
    (∃ t, exec (.ownForceRelRegion e off) s = .next t ∧ { t with own := s.own } = s ∧
      (∀ y, y ∈ Tab.get [] t.own e ↔ y ∈ table ∧ y.region ≠ off.toNat / 2 ^ regionLog s e) ∧
      ∀ x, x ≠ e.val → Tab.get [] t.own x = Tab.get [] s.own x) ∧
    (∃ t, exec (.ownForceRelAll e) s = .next t ∧ { t with own := s.own } = s ∧ Tab.get [] t.own e = [] ∧
      ∀ x, x ≠ e.val → Tab.get [] t.own x = Tab.get [] s.own x)

/-- R264–R268: a home takes one ECOMMIT into service at a time; tEC later the OPEN epochs of its masks change state,
discarding before committing, and it completes OK, while requests and accesses of cores then in service go on seeing the states
they found; a
billet writes a committed line back in the turn of its bank, a crucible queues it as a write of its own, a discarded
line is dropped, and an epoch with no line left becomes FREE. -/
def Obligations.Epochs : Prop :=
  ∀ (id : Nat) (e : EpId) (n : BitVec 6) (line : Nat) (ecc : Ecc) (s : State),
    (∀ it, servedAt s id e it → it.pkt.op = 0x1A → commitInService s e = none → it.cred = none → it.old = none →
      ∃ t, exec (.ecommitAtHome id) s = .next t ∧ t.item id = some { it with loc := .ready e, since := s.now } ∧
        { t with pool := s.pool, rr := s.rr } = s) ∧
    (∀ it, s.item id = some it → it.loc = .home e → it.pkt.op = 0x1A → (commitInService s e).isSome = true →
      itemStatus s it = 0 → (∀ i ∈ s.pool, i.id = id → i = it) → exec (.ecommitAtHome id) s = .next s) ∧
    (s.quench = false → ∀ it, commitInService s e = some it → s.now < it.since + 2 → exec (.epochStateChange e) s = .next s) ∧
    (s.quench = false → ∀ it, commitInService s e = some it → it.since + 2 ≤ s.now →
      let keep (b : BilletOp) : BilletOp := if b.lines ≠ 0 ∧ b.served = false ∧ b.old = none then { b with old := some s.epochs } else b
      ∃ u, exec (.epochStateChange e) s = .next (respond e it 0 u) ∧ u.mem = s.mem ∧
        (∀ c, u.core c = if isStack e = true ∧ c / 256 = siteOfEp e then { s.core c with billet := (s.core c).billet.map keep } else s.core c) ∧
        u.pool = s.pool.map (fun i => if inService e i && i.old.isNone then { i with old := some s.epochs } else i) ∧
        ∀ k < 64, u.epochSt e k = (if k = 0 ∨ s.epochSt e k ≠ .open then s.epochSt e k
          else if it.pkt.p1.getLsbD k then .discard else if it.pkt.p0.getLsbD k then .commit else .open)) ∧
    (s.quench = false → ∀ l, (isStack e && islandOnly s (siteOfEp e)) = false → specAt s e line n.toNat = some l →
      (s.epochSt e n.toNat = .discard → oldSeen s e = false →
        ∃ t, exec (.commitDrainWriteback e n ⟨line, ecc⟩) s = .next t ∧ { t with spec := s.spec } = s ∧
          ∀ x, x ∈ t.spec ↔ x ∈ s.spec ∧ x ≠ l) ∧
      (s.epochSt e n.toNat = .commit → mayDrain s l = true → isStack e = true → (∀ o ∈ ecc.spec, o / 64 ≠ line) →
        bankNext s (siteOfEp e) (sliceOf s (siteOfEp e) (64 * line)) (bankOf (64 * line)) = some (17, .drain) →
        ∃ t, exec (.commitDrainWriteback e n ⟨line, ecc⟩) s = .next t ∧ (∀ x, x ∈ t.spec ↔ x ∈ s.spec ∧ x ≠ l) ∧ t.cores = s.cores ∧
          t.regs = s.regs ∧ t.pool = s.pool ∧
          ∀ a, Memory.byte t.mem a = (let b := memBase e + 64 * line
            if b ≤ a ∧ a < b + 64 ∧ l.mask.getLsbD (a - b) = true then l.data.extractLsb' (8 * (a - b)) 8 else Memory.byte s.mem a)) ∧
      (s.epochSt e n.toNat = .commit → mayDrain s l = true → isStack e = false →
        let k := e.val / 5
        let pc := pcOf (64 * line)
        pcqLen s k pc < 32 →
        s.pool.any (fun i => ownAccess i && decide (i.loc = .pcq k pc ∧ i.pkt.op = 3 ∧ reqOff i.pkt = 64 * line ∧ i.pkt.epoch = l.epoch)) = false →
        ∃ t w, exec (.commitDrainWriteback e n ⟨line, ecc⟩) s = .next t ∧ t.pool = s.pool ++ [w] ∧
          { t with pool := s.pool, nextId := s.nextId } = s ∧ w.loc = .pcq k pc ∧ w.pkt = drainPkt k l ∧ w.pkt.data = [l.data]) ∧
      (s.epochSt e n.toNat = .free ∨ s.epochSt e n.toNat = .open → exec (.commitDrainWriteback e n ⟨line, ecc⟩) s = .next s)) ∧
    (s.quench = false → ∃ t, exec (.epochFree e n) s = .next t ∧ { t with epochs := s.epochs } = s ∧
      t.epochSt e n.toNat = (if (s.epochSt e n.toNat = .commit ∨ s.epochSt e n.toNat = .discard) ∧ specOf s e n.toNat = 0 then .free
        else s.epochSt e n.toNat) ∧
      ∀ m, m ≠ epochKey e n.toNat → Tab.get .free t.epochs m = Tab.get .free s.epochs m)

/-! ### Completions, credits and held requests (R30–R32, R181, R188, R202, R205, R235, R237, R275) -/

/-- R30–R32, R57: a completion adds its acknowledgements to the counter and records a failing status; where the job's
ErrTrapMask has the status, a RUNNING core traps with FabricError and a STOPPING one keeps it for later. -/
def Claims.CounterCompletion : Prop :=
  ∀ (c tc n st : Nat) (s : State),
    let k := s.core c
    let w := Tab.get 0 k.tc tc
    let k' : Core := { k with tc := Tab.put 0 k.tc tc (tcComplete w n st) }
    let t := completeTally c tc n st s
    ((tcComplete w n st).toNat % 2 ^ 32 = (w.toNat + n) % 2 ^ 32) ∧
    (st = 0 → (tcComplete w n st).toNat / 2 ^ 32 = w.toNat / 2 ^ 32) ∧
    (st ≠ 0 → st < 16 → (tcComplete w n st).toNat / 2 ^ 40 % 256 = min (w.toNat / 2 ^ 40 % 256 + 1) 255 ∧ (tcComplete w n st).getLsbD 36 = true ∧
      (tcComplete w n st).toNat / 2 ^ 32 % 16 = if w.getLsbD 36 = true then w.toNat / 2 ^ 32 % 16 else st) ∧
    (s.errTraps c st = false → t = s.setCore c (releasePause k')) ∧
    (s.errTraps c st = true → k.st = .running →
      trappedWith c (faultWord 0x0B 0 (settle k).next.toNat 0 st tc) (s.setCore c k') t) ∧
    (s.errTraps c st = true → k.st = .stopping →
      t = s.setCore c { k' with trapPend := some (k.trapPend.getD (BitVec.ofNat 4 st, BitVec.ofNat 3 tc)) })

/-- R25, R30, R89, R146, R181, R202, R219: a response that meets its entry frees it, writes its data (or the poison value when
its status is not OK) where the entry says, and completes the entry's counter; a block load's lines reach the core store
as its banks take them, one or two at a time, and it is counted after the last. One whose source has left service is discarded; the tongs take their own. -/
def Claims.Completions : Prop :=
  ∀ (id : Nat) (it : Item) (s : State) (cmd : Instr), s.quench = false → s.item id = some it → it.loc = .resp →
    (it.pkt.op = 0x20 ∧ cmd = .ack id ∨ it.pkt.op = 0x21 ∧ cmd = .data8 id ∨ it.pkt.op = 0x22 ∧ cmd = .data id) →
    let p := it.pkt
    let c := srcCoreIdx p
    let rest := s.pool.filter (fun i => decide (i.id ≠ id))
    (it.dead = true → exec cmd s = .next { s with pool := rest }) ∧
    (∀ n, it.dead = false → p.eng = 0 → Tab.get none (s.core c).fe p.tag.toNat = some n →
      let v := if compStatus p ≠ 0 then 2 ^ 4096 - 1 else match n.dst with | .x _ => p.p0.toNat | _ => packNat p.data
      let done (u : State) (k : Core) : Prop :=
        exec cmd s = .next (completeTally c n.tc.toNat (compCount p) (compStatus p) u) ∧ u.pool = rest ∧
          { u with pool := s.pool, cores := s.cores, mem := s.mem, rr := s.rr } = s ∧ (∀ d, d ≠ c → u.core d = s.core d) ∧
          u.core c = { k with fe := Tab.put none (s.core c).fe p.tag.toNat none }
      ((∀ a lines, n.dst ≠ .block a lines) → ∃ u, done u (loadDest n.dst v (s.core c)) ∧ u.mem = s.mem ∧ u.rr = s.rr) ∧
      (∀ a lines, n.dst = .block a lines →
        let m := min (linesNow s c it) (lines - it.lines)
        let mem := Memory.write s.mem (storeAddr c (a + 64 * it.lines)) (64 * m) (v / 2 ^ (512 * it.lines))
        (m = 0 → it.lines < lines → exec cmd s = .next s) ∧
        (0 < m → it.lines + m = lines → ∃ u, done u (s.core c) ∧ u.mem = mem) ∧
        (0 < m → it.lines + m < lines → ∃ t, exec cmd s = .next t ∧ { t with pool := s.pool, mem := s.mem, rr := s.rr } = s ∧ t.mem = mem ∧
          t.pool = s.pool.map (fun i => if i.id = id then { s.arriving i with lines := it.lines + m, since := i.since } else i)))) ∧
    (it.dead = false → p.eng = 0 → Tab.get none (s.core c).fe p.tag.toNat = none → exec cmd s = .next { s with pool := rest }) ∧
    (∀ d q bs, it.dead = false → p.eng = 1 → (s.core c).bulk = d :: bs → d.pkts = [q] → q.tag = p.tag →
      q.st = 2 ∨ q.st = 1 ∧ compStatus p ≠ 0 →
      ∃ t, exec cmd s = .next t ∧ t.pool = rest ∧ { t with pool := s.pool, cores := s.cores } = s ∧
        (∀ e, e ≠ c → t.core e = s.core e) ∧
        t.core c = { s.core c with bulk := { d with pkts := [{ q with st := 3, status := compStatus p }] } :: bs }) ∧
    (∀ d q bs, it.dead = false → p.eng = 1 → (s.core c).bulk = d :: bs → d.pkts = [q] → q.tag = p.tag → q.st = 1 →
      compStatus p = 0 → ∃ t w x, exec cmd s = .next t ∧ t.pool = rest ++ [w] ∧ x.op = 3 ∧ x.dst = q.dst ∧ x.data = p.data ∧
        x.len = BitVec.ofNat 4 q.n ∧ x.tag = q.tag ∧ x.eng = 1 ∧ x.job = (s.core c).jobTag ∧
        (let st := sourceStatus s x false
         (st = 0 → w.pkt = x ∧ w.loc = .hub (c / 256) (clusterOf c)) ∧
         (st ≠ 0 → w.loc = .resp ∧ w.pkt.tag = x.tag ∧ w.pkt.comp = compWord st 1 false)) ∧
        (∀ e, e ≠ c → t.core e = s.core e) ∧ t.mem = s.mem ∧ t.regs = s.regs ∧
        t.core c = { s.core c with bulk := { d with pkts := [{ q with st := 2 }] } :: bs }) ∧
    (it.dead = false → 2 ≤ p.eng.toNat → exec cmd s =
      .next (if p.srcEp = 4 then tongsResp p { s with pool := rest } else { s with pool := rest }))

/-- R184–R188, R210, R237, R254, R365: a held request is released when the earlier requests of its source let it go and its
target is awake, and not before: injected by its engine, or checked and taken in at its home; the release of flagged writes
and that of the others are separate events at a home. A gateway goes on releasing the frames of a stream in sequence. -/
def Claims.HeldReleases : Prop :=
  ∀ (id : Nat) (it : Item) (s : State), s.quench = false → s.item id = some it → seqMissing s it.pkt = false →
    let neither := exec (.heldRequestRelease id) s = .next s ∧ exec (.flagWriteRelease id) s = .next s
    let flagged := it.pkt.flag && it.chk.isNone
    let released (t : State) : Prop :=
      (flagged = true → exec (.flagWriteRelease id) s = .next t ∧ exec (.heldRequestRelease id) s = .next s) ∧
      (flagged = false → exec (.heldRequestRelease id) s = .next t ∧ exec (.flagWriteRelease id) s = .next s)
    (it.held = false → it.frame = none → neither) ∧
    (it.held = true → it.loc = .engine → exec (.flagWriteRelease id) s = .next s ∧
      (mustHold s it = true → exec (.heldRequestRelease id) s = .next s) ∧
      (mustHold s it = false → ∃ t, exec (.heldRequestRelease id) s = .next t ∧
        { t with pool := s.pool } = s ∧ t.pool = s.pool.map (fun i => if i.id = id then { i with held := false } else i))) ∧
    (∀ g f, it.loc = .gwIn g → it.frame = some f → exec (.flagWriteRelease id) s = .next s ∧
      exec (.heldRequestRelease id) s = .next (if toRelay s g it = true then s else releaseStream g f.src.toNat f.ctrl s)) ∧
    (∀ g f l, toRelay s g it = false → it.loc = .gwIn g → it.frame = some f → framesOf s g f.src.toNat f.ctrl = it :: l →
      isResp it.pkt = false → s.armed it.pkt.job.toNat = false → s.funcState 13 = 0 → it.pkt.flag = false → gwHolds s it = true →
      exec (.heldRequestRelease id) s = .next (sendAck f.src.toNat f.ctrl s)) ∧
    (∀ e, it.held = true → it.loc = .home e → (mustWait s it = true ∨ mustWake s it.pkt ≠ none → neither) ∧
      (mustWait s it = false → mustWake s it.pkt = none → released (takeIn e id s))) ∧
    (∀ c, it.held = true → it.loc = .store c → (mustWait s it = true ∨ mustWake s it.pkt ≠ none → neither) ∧
      (mustWait s it = false → mustWake s it.pkt = none → released { s with pool := s.pool.map (fun i =>
        if i.id = id then { i with chk := some (permBad s i.pkt), held := false } else i) }))

/-- R205, R207, R235, R275: a credit the home owes comes back to its source, one at a time; a crucible's input queue
releases the request in turn to its pseudo-channel's queue, which owes its credit back. -/
def Claims.CreditsAndInputQueues : Prop :=
  (∀ (src dst : EpId) (rb : Fin 80) (s : State), s.quench = false →
    let k := credKey src dst rb
    let used (s : State) (x : Nat) := Tab.get 0 s.credUsed x
    let owed (s : State) (x : Nat) := Tab.get 0 s.credOwed x
    (owed s k = 0 → exec (.creditReturn src dst rb) s = .next s) ∧
    (owed s k ≠ 0 → ∃ t, exec (.creditReturn src dst rb) s = .next t ∧ owed t k = owed s k - 1 ∧ used t k = used s k - 1 ∧
      (∀ x, x ≠ k → owed t x = owed s x ∧ used t x = used s x) ∧ { t with credUsed := s.credUsed, credOwed := s.credOwed } = s)) ∧
  ∀ (k : QuadId) (it : Item) (s : State), s.quench = false →
    let e := 5 * k.val + 2
    (nextTaken s e = some it → wantsMem s e it = true → s.item it.id = some it →
      ∃ t, exec (.inputQueueRelease k) s = .next t ∧ t.pool = s.pool.filter (fun i => decide (i.id ≠ it.id)) ++
        [{ it with loc := .pcq k (pcOf (reqOff it.pkt)), since := s.now, cred := none }] ∧
      { t with pool := s.pool, rr := s.rr, credOwed := s.credOwed } = s ∧
      t.credOwed = (match it.cred with
        | none => s.credOwed
        | some (x, rb) => let c := credKey x it.via rb; Tab.put 0 s.credOwed c (Tab.get 0 s.credOwed c + 1))) ∧
    (nextTaken s e = none ∨ nextTaken s e = some it ∧ wantsMem s e it = false → exec (.inputQueueRelease k) s = .next s)

/-! ### The hearth (R226–R245, R306) -/

/-- R160, R172, R175, R183, R206, R236, R241, R303, R383, R437: a cluster hub sends the packet in turn through its cluster port; an
agent of the tongs and a gateway bring theirs to the source port of their endpoint. The source port completes a request
it cannot send, with those merged into it, hands one for its own endpoint to the home there, and queues the others for L0
or L1. -/
def Claims.HearthPort : Prop :=
  (∀ (id : Nat) (it : Item) (s : State), s.quench = false → s.item id = some it →
    let moved (l : Loc) (t : State) : Prop :=
      t.pool = s.pool.filter (fun i => decide (i.id ≠ it.id)) ++ [{ it with loc := l, since := s.now, lines := 0 }]
    (∀ site cl, it.loc = .hub site cl → hubNext s site cl = some it → ∃ t, exec (.hearthPortRequest id) s = .next t ∧
      moved (.wire (upWire site cl)) t ∧ { t with pool := s.pool, rr := s.rr } = s ∧
      (pktVc it.pkt = 0 → t.rr = s.rr) ∧ (pktVc it.pkt ≠ 0 → Tab.get 0 t.rr (hubKey site cl) = hubPort it)) ∧
    (∀ site cl i, it.loc = .hub site cl → hubNext s site cl = some i → i.id ≠ id → exec (.hearthPortRequest id) s = .next s) ∧
    (let e := it.pkt.srcEp.toNat
     it.loc = .engine → it.pkt.eng = 2 → it.held = false → portRoom s e it.pkt = true →
      (ownStack s e it.pkt = true → portStatus s it.pkt = 0 → exec (.hearthPortRequest id) s = .next (arriveHome e it s)) ∧
      (ownStack s e it.pkt = true → portStatus s it.pkt ≠ 0 → exec (.hearthPortRequest id) s = .next (portExamine e it s)) ∧
      (ownStack s e it.pkt = false → onDie e = true → ∃ t, exec (.hearthPortRequest id) s = .next t ∧
        moved (.wire (dieOut e it.no)) t ∧ { t with pool := s.pool } = s) ∧
      (ownStack s e it.pkt = false → onDie e = false → exec (.hearthPortRequest id) s = .next (portExamine e it s))) ∧
    (∀ g, it.loc = .gwIn g → it.frame = none → it.held = false → it.lead = none →
      (s.funcState 13 = 1 ∨ s.funcState 13 = 2 →
        exec (.hearthPortRequest id) s = .next (respondAll (gwEp g) it (rankStatus s it.pkt 2) s)) ∧
      (¬(s.funcState 13 = 1 ∨ s.funcState 13 = 2) → portRoom s (gwEp g) it.pkt = true →
        ∃ u, { u with pool := s.pool } = s ∧ u.pool = s.pool.map (fun i => if i.id = id then { i with tab := false } else i) ∧
          exec (.hearthPortRequest id) s = .next (portExamine (gwEp g) { it with tab := false } u))) ∧
    (∀ g f, it.loc = .gwIn g → it.frame = some f → toRelay s g it = false → exec (.hearthPortRequest id) s = .next s)) ∧
  ∀ (e : Nat) (it : Item) (s : State),
    let st := portStatus s it.pkt
    let t := portExamine e it s
    let moved (l : Loc) : Prop := { t with pool := s.pool } = s ∧
      t.pool = s.pool.filter (fun i => decide (i.id ≠ it.id)) ++ [{ it with loc := l, since := s.now }]
    (s.fabValid = false ∨ s.ownDst it.pkt = false ∧ routeValid s (dFab it.pkt.dst) = false → st = 4) ∧
    (st = 2 → t = respondAll e it 2 (if it.ctx.isSome then s else s.incRf (0x81010 + 0x40 * e) 0 32 1)) ∧
    (st ≠ 0 → st ≠ 2 → st ≠ 4 ∨ s.fabValid = false → t = respondAll e it st s) ∧
    (st = 4 → s.fabValid = true → t = respondAll e it 4 (reportDead (e / 5) it.pkt.job.toNat s)) ∧
    (st = 0 → isHearthMc it.pkt = false → portDest s it.pkt = e → t = (if onDie e then toWire (dieIn e it.no) it s else arriveHome e it s)) ∧
    (st = 0 → isHearthMc it.pkt = false → portDest s it.pkt ≠ e → moved (if onLoop it.pkt then .l0 e else .port e))

/-- R205, R229–R234, R241: a bundle asks for its receive bundle when no train carries its packets; the arbiter grants the
request in turn, responses and requests by turns, whose train carries at most BurstLimit packets, and a request of the
tongs' management takes it from its holder for one; a request no packet is left for is withdrawn; the grant ends with its packets, its limit, its light or a fence. -/
def Claims.Grants : Prop :=
  ∀ (g : Fin 912) (dst : EpId) (rb : Fin 80) (s : State), s.quench = false →
    let r := rxOf g dst
    let b := 0x81000 + 0x40 * dst.val
    let e := ownerOf g
    let asks (k : Bool) : Bool := (needsBundle s e dst k && decide (nextBundle s e dst k = some g.val)) ||
      (!(lostBy s g dst k).isEmpty && bundleFree s g)
    let mine (q : GrantReq) : Bool := decide (q.g = g.val ∧ q.dst = dst.val)
    let given (q : GrantReq) (limit : Nat) (mgmt : Bool) (first : Option Item) : Prop :=
      ∃ t n, exec (.grant g dst) s = .next t ∧ t.grantAt dst r = some ⟨q.g, n, s.now, q.resp, limit, mgmt⟩ ∧ n ≤ limit ∧
        (∀ x ∈ t.greqs, x ∈ s.greqs ∧ x ≠ q) ∧
        t.rf (b + 4) 0 32 = min (s.rf (b + 4) 0 32 + 1) (2 ^ 32 - 1) ∧
        t.rf (b + 8) 0 16 = max (s.rf (b + 8) 0 16) (min (4 * (s.now - q.since)) 65535) ∧
        (∀ x, x ≠ b + 4 → x ≠ b + 8 → t.reg x = s.reg x) ∧
        t.mem = s.mem ∧ t.cores = s.cores ∧ (∀ i ∈ t.pool, ∃ j ∈ s.pool, j.id = i.id ∧ j.pkt = i.pkt) ∧
        ∀ i, first = some i → 1 ≤ n ∧ ∃ j ∈ t.pool, j.id = i.id ∧ j.loc = .flight g dst
    (e = dst.val ∨ s.epFenced dst = true → exec (.grantRequest g dst) s = .next s) ∧
    (e ≠ dst.val → s.epFenced dst = false → (∀ x, s.grantAt dst r = some x → x.g ≠ g.val) → (asks true || asks false) = true →
      ∃ t, exec (.grantRequest g dst) s = .next t ∧ t.greqs = s.greqs ++ [⟨g, dst, s.now, asks true⟩] ∧
        { t with greqs := s.greqs, rr := s.rr } = s) ∧
    (e ≠ dst.val → s.epFenced dst = false → (∀ x, s.grantAt dst r = some x → x.g ≠ g.val) → (asks true || asks false) = false →
      exec (.grantRequest g dst) s = .next s) ∧
    (∀ x, e ≠ dst.val → s.epFenced dst = false → s.grantAt dst r = some x → x.g = g.val →
      exec (.grantRequest g dst) s = .next (withdraw (sendTrain g dst 64 s))) ∧
    (s.epFenced dst = true ∨ s.greqs.any mine = false ∨ changeDue s dst r = false → exec (.grant g dst) s = .next s) ∧
    (∀ q, s.epFenced dst = false → changeDue s dst r = true → s.greqs.find? mine = some q → s.grantAt dst r = none →
      (nextHolder s dst r = some q → given q (s.rf b 0 6 + 1) false
        (if lostBy s g dst q.resp = [] ∧ heldBy s g < 64 then
          (sendable s g dst q.resp).head?.filter (fun i => !bundleQuiet s g dst i.pkt) else none)) ∧
      (nextHolder s dst r ≠ some q → exec (.grant g dst) s = .next s)) ∧
    (∀ q x, s.epFenced dst = false → changeDue s dst r = true → s.greqs.find? mine = some q → s.grantAt dst r = some x →
      let takes := !q.resp && grantable s q && (sendable s g dst false).any isMgmt
      (takes = true → given q 1 true none) ∧ (takes = false → exec (.grant g dst) s = .next s)) ∧
    (∀ x, s.grantAt dst rb = some x →
      let spent := x.limit ≤ x.sent ∨ s.epFenced dst = true ∨ bundleDark s x.g = true ∨ hasTraffic s x.g dst x.resp = false
      (spent → ∃ t, exec (.grantEnd dst rb) s = .next t ∧ t.grantAt dst rb = none ∧ { t with grants := s.grants } = s) ∧
      (¬spent → exec (.grantEnd dst rb) s = .next s)) ∧
    (s.grantAt dst rb = none → exec (.grantEnd dst rb) s = .next s)

/-- R236, R237, R239, R240, R253, R306: the head of an endpoint's L0 queue crosses while a loop works and has light, a
multicast once for all its members; a packet the receiving port has acknowledged arrives: a response on its way to its
requester, a request at its home, one for another device at its gateway. -/
def Claims.HearthArrivals : Prop :=
  ∀ (e : EpId) (id : Nat) (it : Item) (s : State), s.quench = false →
    let sent := s.incRf (0x8100C + 0x40 * e.val) 0 32 1
    let rest := s.pool.filter (fun i => decide (i.id ≠ it.id))
    let enters (d : Nat) (x : Item) (u : State) : State := if onDie d then toWire (dieIn d x.no) x u else arriveHome d x u
    (loopsOk s = 0 ∨ loopsDark s e = true ∨ s.pool.find? (fun i => decide (i.loc = .l0 e)) = none →
      exec (.l0Packet e) s = .next s) ∧
    (loopsOk s ≠ 0 → loopsDark s e = false → s.pool.find? (fun i => decide (i.loc = .l0 e)) = some it →
      (it.frame = none → isHearthMc it.pkt = false → isResp it.pkt = false → s.ownDst it.pkt = true →
        exec (.l0Packet e) s = .next (enters (portDest s it.pkt) { it with via := portDest s it.pkt } sent)) ∧
      (it.frame = none → isHearthMc it.pkt = true → (∀ i ∈ s.pool, i.id < s.nextId) → ∃ t, exec (.l0Packet e) s = .next t ∧
        (∀ i ∈ t.pool, i.id ≠ it.id) ∧
        ∀ d ∈ hearthMembers it.pkt, onDie d = true → ∃ i ∈ t.pool, i.loc = .wire (dieIn d it.no) ∧ i.pkt = hearthPkt it.pkt d) ∧
      (∀ f, it.frame = some f → exec (.l0Packet e) s =
        .next (frameCrossed (itemDest s it / 5) f { sent with pool := rest }))) ∧
    (∀ g d, s.item id = some it → it.loc = .flight g d →
      (it.held = true → exec (.l1PacketAcknowledgement id) s = .next s) ∧
      (∀ f, it.held = false → it.frame = some f →
        exec (.l1PacketAcknowledgement id) s = .next (frameCrossed (d / 5) f { s with pool := rest })) ∧
      (it.held = false → it.frame = none → isResp it.pkt = true → s.ownSrc it.pkt = true →
        (it.ctx = none → ∃ t r, exec (.l1PacketAcknowledgement id) s = .next t ∧ { t with pool := s.pool } = s ∧
          t.pool = rest ++ [r] ∧ r.id = it.id ∧ r.pkt = it.pkt ∧ r.loc = ownLoc it ∧ r.fails = 0 ∧ r.since = s.now) ∧
        (∀ x, it.ctx = some x → exec (.l1PacketAcknowledgement id) s =
          .next (memberAnswer x 1 (compStatus it.pkt) { s with pool := rest }))) ∧
      (it.held = false → it.frame = none → isResp it.pkt = false → s.ownDst it.pkt = true →
        exec (.l1PacketAcknowledgement id) s = .next (enters d { it with fails := 0 } s)) ∧
      (it.held = false → it.frame = none → isResp it.pkt = true → s.ownSrc it.pkt = false →
        exec (.l1PacketAcknowledgement id) s = .next (gwArrive (d / 5) { it with fails := 0 } s)) ∧
      (it.held = false → it.frame = none → isResp it.pkt = false → s.ownDst it.pkt = false →
        exec (.l1PacketAcknowledgement id) s = .next (gwArrive (d / 5) { it with fails := 0, cred := none } (oweCredit id s))))

/-- R229, R239, R315: a lost control loop raises C2 event 0x060, and the second one C3 event 0x061; a failed waveguide
leaves Working one lower, what it carried moves to a good one nothing uses, with C0 event 0x063, and what is on its way over
it is sent again; C2 event 0x062 is raised as Working falls below Required. -/
def Claims.HearthFailures : Prop :=
  ∀ (l1 : Bool) (k : Fin 8) (g : Fin 912) (s : State), s.quench = false →
    let b := if l1 then 1 else 0
    let a := 0x80020 + 4 * k.val
    let was := s.rf a 16 9
    let req := s.rf a 0 9
    let lane := guideLane s k g
    (s.rf 0x80000 b 1 = 0 → exec (.loopFailure l1) s = .next s) ∧
    (s.rf 0x80000 0 2 = 3 → ∃ u, exec (.loopFailure l1) s = .next (raiseEvent 2 24 0x060 (BitVec.ofNat 32 b) u) ∧
      u.rf 0x80000 0 2 = (if l1 then 1 else 2) ∧ (∀ x, x ≠ 0x80000 → u.reg x = s.reg x) ∧ { u with regs := s.regs } = s) ∧
    (s.rf 0x80000 0 2 = (if l1 then 2 else 1) → ∃ u, exec (.loopFailure l1) s = .next (raiseEvent 3 24 0x061 0 u) ∧
      u.rf 0x80000 0 2 = 0 ∧ (∀ x, x ≠ 0x80000 → u.reg x = s.reg x) ∧ { u with regs := s.regs } = s) ∧
    (crosses k g = false ∨ guideOf s k lane = none ∨ s.devState = 2 → exec (.waveguideFailure k g) s = .next s) ∧
    (∀ w, s.devState ≠ 2 → crosses k g = true → guideOf s k lane = some w → ∃ u, u.rf a 16 9 = was - 1 ∧ u.rf a 0 9 = req ∧
      (∀ x, x ≠ a → u.reg x = s.reg x) ∧ { u with regs := s.regs, pool := s.pool, guides := s.guides, guideBad := s.guideBad } = s ∧
      w ∈ Tab.get [] u.guideBad k ∧ (∀ j, j ≠ lane → guideOf u k j = guideOf s k j) ∧
      (∀ v, guideOf u k lane = some v → v ∉ Tab.get [] u.guideBad k ∧ ∀ j < req, j ≠ lane → guideOf s k j ≠ some v) ∧
      u.pool = s.pool.map (fun x => match x.loc with
        | .flight y e => if guideLane s k y = lane ∧ (bridges (ownerOf y / 5) (e / 5)).contains k.val then { x with held := true } else x
        | _ => x) ∧
      exec (.waveguideFailure k g) s = .next (
        let v := if (guideOf u k lane).isSome then raiseEvent 0 24 0x063 (BitVec.ofNat 32 k) u else u
        if was = req then raiseEvent 2 24 0x062 (BitVec.ofNat 32 k) v else v))

/-- R62, R199, R223, R224: JOB_KILL arms a tag, stops the cores that run it and frees its ownership entries; what
queues held of it is answered; it is refused with no place to arm or for tag 0. The kill is done when nothing holds a request
of the tag. JOB_KILL_RELEASE disarms the tag. In recovery the registers do not answer. -/
def Obligations.JobKill : Prop :=
  (∀ (tag : BitVec 12) (s : State), s.recovery = true →
    exec (.jobKill tag) s = .next s ∧ exec (.jobKillRelease tag) s = .next s) ∧
  ∀ (tag : BitVec 12) (s : State), s.quench = false → s.recovery = false →
    let refused : State := s.setRf 0x8F004 30 1 1
    let arm (k : Nat) : Nat := 0x8F010 + 4 * k
    (exec (.jobKill 0) s = .next refused) ∧
    (tag ≠ 0 → armedAt s tag.toNat = none → armFree s = none → exec (.jobKill tag) s = .next refused) ∧
    (∀ k, tag ≠ 0 → armedAt s tag.toNat = none → armFree s = some k →
      ∃ t, exec (.jobKill tag) s = .next t ∧ t.reg (arm k) = BitVec.ofNat 32 (2 ^ 31 + tag.toNat) ∧ t.rf 0x8F004 31 1 = 1 ∧
        t.rf 0x8F000 0 12 = tag.toNat ∧ t.mem = s.mem ∧
        (∀ c < 2048, (s.core c).jobTag = tag → (s.core c).st = .running ∨ (s.core c).st = .stopping →
          (t.core c).st = .stopping ∧ (t.core c).cause = .kill) ∧
        (∀ c < 2048, (s.core c).jobTag ≠ tag → t.core c = s.core c) ∧
        (∀ e, ∀ o ∈ Tab.get [] t.own e, o.job ≠ tag) ∧ (∀ i ∈ t.pool, isResp i.pkt = true ∨ i ∈ s.pool) ∧
        (∀ i ∈ s.pool, killable tag.toNat s i = true → i ∉ t.pool) ∧
        ∀ x, x ≠ arm k → x ≠ 0x8F000 → x ≠ 0x8F004 → t.reg x = s.reg x) ∧
    (s.pool.any (killWaits (s.rf 0x8F000 0 12) s) = true → exec .jobKillDone s = .next s) ∧
    (s.pool.any (killWaits (s.rf 0x8F000 0 12) s) = false → ∃ t, exec .jobKillDone s = .next t ∧ t.rf 0x8F004 31 1 = 0 ∧ t.rf 0x8F004 0 31 = s.rf 0x8F004 0 31 ∧
      (∀ x, x ≠ 0x8F004 → t.reg x = s.reg x) ∧ { t with regs := s.regs } = s) ∧
    (armedAt s tag.toNat = none → exec (.jobKillRelease tag) s = .next refused) ∧
    (∀ k, armedAt s tag.toNat = some k → ∃ t, exec (.jobKillRelease tag) s = .next t ∧ t.reg (arm k) = 0 ∧
      (∀ x, x ≠ arm k → x ≠ 0x8F000 → x ≠ 0x8F004 → t.reg x = s.reg x) ∧
      (∀ r, r ∈ t.reported ↔ r ∈ s.reported ∧ r % 4096 ≠ tag.toNat) ∧ { t with regs := s.regs, reported := s.reported } = s)

/-! ### Gateways: ports, streams and dead devices (R212, R246–R257) -/

/-- R248, R250, R251: a write of GW_PORT_CFG that disables a port leaves it DISABLED with no lanes; one that enables it, or
splits or joins it, starts training, or leaves it DOWN while the device has no fabric number; any other write makes a port
in MISMATCH repeat its identity exchange. An UP or MISMATCH port goes DOWN when its link is lost, with C2 event 0x043 if it
was UP, and begins to train again. -/
def Claims.PortControl : Prop :=
  ∀ (g : QuadId) (p : PortId) (h : Half) (val : Word) (s : State), s.quench = false →
    let b := portBase g p
    let new := (s.reg b &&& 0x0000FFFF#32) ||| (val &&& 0xFFFF0000#32)
    let halves := if val.getLsbD 30 then [Half.a, .b] else [.full]
    let starts := if mayTrain s g p then 2 else 1
    (val.getLsbD 31 = false → ∃ u, exec (.gwPortCfgWrite g p val) s = .next (portMoved u) ∧ u.reg b = new ∧
      u.reg (b + 4) = 0 ∧ u.reg (b + 8) = 0 ∧ (u.reg (b + 12)) = 0 ∧
      (∀ x, x ≠ b → x ≠ b + 4 → x ≠ b + 8 → x ≠ b + 12 → u.reg x = s.reg x) ∧ { u with regs := s.regs, portT := s.portT } = s) ∧
    (val.getLsbD 31 = true → portEnabled s g p = false → ∃ t, exec (.gwPortCfgWrite g p val) s = .next t ∧ t.reg b = new ∧
      (∀ x ∈ halves, portState t g p x = starts) ∧ (∀ x, x ≠ b → x ≠ b + 4 → x ≠ b + 8 → t.reg x = s.reg x) ∧
      { t with regs := s.regs, portT := s.portT } = s) ∧
    (val.getLsbD 31 = true → portEnabled s g p = true → val.getLsbD 30 ≠ portSplit s g p →
      ∃ t, exec (.gwPortCfgWrite g p val) s = .next t ∧ t.reg b = new ∧ ∀ x ∈ halves, portState t g p x = starts) ∧
    (val.getLsbD 31 = true → portEnabled s g p = true → val.getLsbD 30 = portSplit s g p →
      ∃ t, exec (.gwPortCfgWrite g p val) s = .next t ∧ t.reg b = new ∧ (∀ x, x ≠ b → t.reg x = s.reg x) ∧
        { t with regs := s.regs, portT := s.portT } = s ∧
        ∀ x ∈ halves, portState s g p x = 4 → Tab.get 0 t.portT (dueKey g p x) = 1) ∧
    (halfFits s g p h = true → portState s g p h = 3 ∨ portState s g p h = 4 → ∃ t u, exec (.portDown g p h) s = .next t ∧
      t = beginTraining g p h (portMoved (if portState s g p h = 3 then
        raiseEvent 2 (20 + g) 0x043 (BitVec.ofNat 32 (12 * g + p)) u else u)) ∧
      u = clearLanes g p h (setPortState g p h 1 s) ∧ portState t g p h = starts ∧ t.rf (statAddr g p h) 10 5 = 0) ∧
    (halfFits s g p h = false ∨ portState s g p h ≠ 3 ∧ portState s g p h ≠ 4 → exec (.portDown g p h) s = .next s)

/-- R248–R250, R438, R439: a port that trains carries the slots that train good and comes UP, or stays in MISMATCH with event
0x044 when its peer is not the one expected; it FAILS with too few good slots, with a peer of another kind or out of time,
and tries again 100 ms later. A MISMATCH port repeats the exchange: it comes UP with the peer expected, and reports another
one. A port of the mirror link comes UP with any peer. -/
def Claims.PortTraining : Prop :=
  ∀ (g : QuadId) (p : PortId) (h : Half) (peer : Peer) (lanes : Word) (s : State), s.quench = false → halfFits s g p h = true →
    let a := statAddr g p h
    let began := Tab.get 0 s.portT (portKey g p h)
    let good (u : State) : Prop := u.mem = s.mem ∧ u.cores = s.cores ∧ u.pool = s.pool
    let named (u : State) : Prop := u.rf a 23 6 = peer.fab.toNat ∧ u.rf a 17 6 = peer.port.toNat ∧ u.rf a 15 2 = peer.half.toNat ∧ good u
    let lit (m : Nat) (u : State) : Prop :=
      working u g p = ((working s g p &&& ~~~(BitVec.ofNat 32 (slotMask h))) ||| BitVec.ofNat 32 m)
    let clash : State → State := raiseEvent 2 (20 + g) 0x044 (BitVec.ofNat 32 (12 * g + p))
    let training : Prop := portEnabled s g p = true ∧ mayTrain s g p = true ∧ (portState s g p h = 1 ∨ portState s g p h = 2)
    let again : Prop := portState s g p h = 4 ∧ (Tab.get 0 s.portT (dueKey g p h) = 1 ∨ began + 25000000 ≤ s.now)
    (∀ m, training → s.now ≤ began + 325000 → roleDark s g (portRole p) = false → trainedSlots h lanes.toNat = some m →
      let run := exec (.portTraining g p h peer lanes) s
      (mirrorPort s g p = false → peerFits h peer = true → peerOk s g p h peer.fab.toNat = true →
        ∃ u, run = .next (portMoved u) ∧ portState u g p h = 3 ∧ named u ∧ lit m u) ∧
      (mirrorPort s g p = false → peerFits h peer = true → peerOk s g p h peer.fab.toNat = false →
        ∃ u, run = .next (clash u) ∧ portState u g p h = 4 ∧ named u ∧ lit m u) ∧
      (mirrorPort s g p = false → peerFits h peer = false → ∃ u, run = .next u ∧ portState u g p h = 5 ∧ named u ∧ lit 0 u) ∧
      (mirrorPort s g p = true → ∃ u, run = .next (portMoved u) ∧ portState u g p h = 3 ∧ good u ∧ lit m u ∧
        (peer.role = s.pins.role → u.rf 0x500004 27 1 = 1))) ∧
    (training → s.now ≤ began + 325000 → roleDark s g (portRole p) = true ∨ trainedSlots h lanes.toNat = none →
      ∃ t, exec (.portTraining g p h peer lanes) s = .next t ∧ portState t g p h = 5 ∧ (∀ x, x ≠ a → t.reg x = s.reg x) ∧
        { t with regs := s.regs, portT := s.portT } = s) ∧
    (¬training ∨ began + 325000 < s.now → exec (.portTraining g p h peer lanes) s = .next s) ∧
    (training → began + 50000 ≤ s.now → ∃ t, exec (.portTrainingTimeout g p h) s = .next t ∧ portState t g p h = 5 ∧
      t.rf a 10 5 = 0 ∧ (∀ x, x ≠ a → x ≠ portBase g p + 12 → t.reg x = s.reg x) ∧ { t with regs := s.regs, portT := s.portT } = s) ∧
    (¬training ∨ s.now < began + 50000 → exec (.portTrainingTimeout g p h) s = .next s) ∧
    (portEnabled s g p = true → portState s g p h = 5 → began + 25000000 ≤ s.now → ∃ t, exec (.portTrainingRetry g p h) s = .next t ∧
      portState t g p h = (if mayTrain s g p then 2 else 1) ∧ (∀ x, x ≠ a → t.reg x = s.reg x) ∧
      { t with regs := s.regs, portT := s.portT } = s) ∧
    (portEnabled s g p = false ∨ portState s g p h ≠ 5 ∨ s.now < began + 25000000 → exec (.portTrainingRetry g p h) s = .next s) ∧
    (let run := exec (.mismatchRecheck g p h peer) s
     (again → mirrorPort s g p = false → peerFits h peer = true → peerOk s g p h peer.fab.toNat = true →
      ∃ u, run = .next (portMoved u) ∧ portState u g p h = 3 ∧ named u) ∧
     (again → mirrorPort s g p = false → peerFits h peer = true → peerOk s g p h peer.fab.toNat = false →
      ∃ u, run = .next (if s.rf a 23 6 = peer.fab.toNat then u else clash u) ∧ portState u g p h = 4 ∧ named u) ∧
     (again → mirrorPort s g p = false → peerFits h peer = false → ∃ u, run = .next u ∧ portState u g p h = 5 ∧ named u) ∧
     (again → mirrorPort s g p = true → ∃ u, run = .next (portMoved u) ∧ portState u g p h = 3 ∧ good u) ∧
     (¬again → run = .next s))

/-- R249: a failed slot of a full port moves to the unused spare with C0 event 0x041, which the gateway announces first; with
no spare the port goes on with fewer lanes, its control wavelength where need be on slot 31, and C2 event 0x042, and goes DOWN below its least number of lanes or without a
control slot. -/
def Claims.PortLaneFailures : Prop :=
  ∀ (g : QuadId) (p : PortId) (slot : Fin 32) (s : State), s.quench = false →
    let h := slotHalf s g p slot
    let w := (working s g p).toNat
    let rest := w &&& (2 ^ 32 - 1 - 2 ^ slot.val) &&& slotMask h
    let bad := Tab.get 0 s.portT (badKey g p)
    let part := BitVec.ofNat 32 ((12 * g + p) * 32 + slot)
    let u : State := { s with portT := Tab.put 0 s.portT (badKey g p) (bad ||| 2 ^ slot.val) }
    let told : State := { u with sent := s.sent ++ [⟨g, p, 0, .swap slot⟩], portT := Tab.put 0 u.portT (spareKey g p) (slot + 1) }
    let narrow : State := if h = .full ∧ 30 ≤ slot.val then { u with
      portT := Tab.put 0 u.portT (spareKey g p) (if slot.val = 30 then 31 else 0)
      sent := if slot.val = 30 then s.sent ++ [⟨g, p, 0, .swap slot⟩] else s.sent } else u
    let run := exec (.portLaneFailure g p slot) s
    let spare : Prop := h = .full ∧ Nat.testBit w 31 = false ∧ Nat.testBit bad 31 = false
    let ctrl : Prop := if h = .full then Nat.testBit rest 30 = false ∧ Nat.testBit rest 31 = false ∧ 30 ≤ slot.val
      else slot.val = ctrlSlot h
    let stops : Prop := ctrl ∨ dataLanes h rest < minLanes h
    (portState s g p h ≠ 3 → run = .next s) ∧
    (portState s g p h = 3 → Nat.testBit w slot = false → run = .next u) ∧
    (portState s g p h = 3 → Nat.testBit w slot = true →
      (spare → run = .next (raiseEvent 0 (20 + g) 0x041 part (showLanes g p .full (setWorking g p .full (rest + 2 ^ 31) told)))) ∧
      (¬spare → ¬stops → run = .next (raiseEvent 2 (20 + g) 0x042 part (showLanes g p h (setWorking g p h rest narrow)))) ∧
      (¬spare → stops → run = .next (portDown g p h u)))

/-- R17, R177, R246, R247, R253–R255, R258, R332: a gateway counts the codewords FEC corrects and those it cannot, and
discards a frame of the latter or with a wrong CRC. A frame for this device is taken at the gateway its source's route names,
crossing the hearth to it; it counts only as the next of its stream, and is acknowledged once it is released: its response
completes the request that waits for it, its request goes on from the gateway, or waits there for an earlier one of its source.
A frame for another device goes on with its hop count raised, or is discarded and counted. -/
def Claims.LinkFrames : Prop :=
  ∀ (g : QuadId) (p : PortId) (h : Half) (f : Frame) (x : Fec) (s : State), s.quench = false → (∀ i ∈ s.pool, i.id < s.nextId) →
    let k := f.src.toNat
    let st := s.stream k f.ctrl
    let d := f.dst.toNat
    let run := exec (.linkFrame g ⟨p, h, f, x⟩) s
    let c : State := if f.ctrl then s
      else (s.incRf (portBase g p + 0x10) 0 32 x.corrected).incRf (portBase g p + 0x14) 0 32 x.lost
    let goes := routeValid s k && usedUp s k && !streamQuiet s k
    let acks (n : BitVec 24) : List PortOut :=
      if goes then [⟨routeGw s k, (usedPort s k).1, (usedPort s k).2, .ack k f.ctrl n⟩] else []
    let crosses (y : Frame) : Prop := (∀ i ∈ s.pool, toRelay s g i = true → i.frame.any (fun z => decide (z.ctrl = y.ctrl)) = false) →
      ∃ t it, run = .next t ∧ t.pool = s.pool ++ [it] ∧ it.frame = some y ∧ it.pkt = y.pkt ∧
        it.loc = (if relayRoom s (gwEp g) it y = false then .gwIn g else if y.ctrl then .l0 (gwEp g) else .port (gwEp g)) ∧
        { t with pool := s.pool, nextId := s.nextId } = c
    let taken := s.funcState 13 = 0 ∧ s.fabValid = true ∧ takesFrames s g p h = true
    let here := routeValid s k = false ∨ routeGw s k = g.val
    (¬taken → run = .next s) ∧
    (taken → (if f.ctrl then x.badCrc = true else x.lost ≠ 0) → run = .next c) ∧
    (taken → (if f.ctrl then x.badCrc = false else x.lost = 0) →
      (d = s.fabNum → ¬here → crosses f) ∧
      (d = s.fabNum → here → f.seq ≠ st.rx →
        let owe := st.owe || decide (st.rel ≠ 0)
        ∃ t, run = .next t ∧ t.stream k f.ctrl = { st with owe := owe && !goes } ∧
          t.sent = s.sent ++ (if owe then acks (st.rel - 1) else []) ∧ { t with sent := s.sent, streams := s.streams } = c) ∧
      (d = s.fabNum → here → f.seq = st.rx → framesOf s g k f.ctrl = [] → isResp f.pkt = false →
        s.armed f.pkt.job.toNat = false → combKey f.pkt = none → ∃ t it, run = .next t ∧ t.pool = s.pool ++ [it] ∧
        it.loc = .gwIn g ∧ it.pkt = f.pkt ∧ it.held = false ∧
        { t with pool := s.pool, streams := s.streams, nextId := s.nextId, got := s.got, sent := s.sent } = c ∧
        (if f.pkt.flag = true ∨ seqMissing s f.pkt = false then
           it.frame = none ∧ t.stream k f.ctrl = { st with rx := st.rx + 1, rel := st.rel + 1, owe := !goes } ∧ t.sent = s.sent ++ acks st.rel
         else it.frame = some f ∧ t.got = s.got ∧ t.stream k f.ctrl = { st with rx := st.rx + 1, owe := st.owe && !goes } ∧
           t.sent = s.sent ++ (if st.owe then acks (st.rel - 1) else []))) ∧
      (d = s.fabNum → here → f.seq = st.rx → framesOf s g k f.ctrl = [] → isResp f.pkt = true →
        ∃ u, u.stream k f.ctrl = { st with rx := st.rx + 1 } ∧ { u with streams := s.streams, nextId := s.nextId } = c ∧
        let answered := gwResponse g f.pkt u
        run = .next (sendAck k f.ctrl (answered.setStream k f.ctrl { answered.stream k f.ctrl with rel := st.rel + 1, owe := true })) ∧
        (let waits := s.pool.find? (fun i => !isResp i.pkt && i.frame.isNone && sameSrc i.pkt f.pkt && decide (i.pkt.tag = f.pkt.tag) &&
          (match i.loc with | .gwOut _ => true | _ => false))
         (waits = none → answered = u) ∧ (∀ it, waits = some it → answered = sendBack (gwEp g) it f.pkt (u.dropItem it.id)))) ∧
      (d ≠ s.fabNum → f.hop = 3 ∨ routeValid s d = false → run = .next (c.incRf (gwBase g) 0 16 1)) ∧
      (d ≠ s.fabNum → f.hop ≠ 3 → routeValid s d = true → routeGw s d ≠ g → crosses { f with hop := f.hop + 1 }) ∧
      (d ≠ s.fabNum → f.hop ≠ 3 → routeValid s d = true → routeGw s d = g →
        let pri := priUp s d
        let port := s.rf (0x94000 + 4 * d) (if pri then 24 else 18) 4
        let quiet := inGap s (routeGw s d) (portRole port) 0 || (gapFrames s g).any (fun i => i.frame.any (fun z => decide (z.dst = f.dst)))
        (quiet = true → ∃ t it, run = .next t ∧ t.pool = s.pool ++ [it] ∧ it.loc = .gwOut g ∧ it.frame = some { f with hop := f.hop + 1 } ∧
          { t with pool := s.pool, nextId := s.nextId } = c) ∧
        (quiet = false → ((pri || altUp s d) && gatesOpen s) = false → run = .next c) ∧
        (quiet = false → ((pri || altUp s d) && gatesOpen s) = true → ∃ t, run = .next t ∧
          t.sent = s.sent ++ [⟨routeGw s d, port, s.rf (0x94000 + 4 * d) (if pri then 22 else 16) 2, .frame { f with hop := f.hop + 1 }⟩] ∧
          { t with sent := s.sent } = c)))

/-- R255, R256, R332: an acknowledgement frees the frames up to the one it names, and frames that waited for room are sent,
each with the stream's next number; a stream whose oldest frame has waited RtoUs sends all it has again, until RetryLimit,
when it leaves its port; a stream that has waited DeadMs is Dead, forgets what it held, and its requests are answered
TARGET_DEAD. -/
def Claims.Streams : Prop :=
  ∀ (f : FabId) (ctrl : Bool) (seq : BitVec 24) (s : State), s.quench = false →
    let x := s.stream f ctrl
    let rto := 250 * max 1 (s.rf 0x94200 0 8)
    let limit := max 1 (s.rf 0x94200 8 4)
    let out (m : PortMsg) : PortOut := ⟨routeGw s f, (usedPort s f).1, (usedPort s f).2, m⟩
    let dead := peerState s f = 2 ∧ (s.stream f false).lostAt + 250 * max 1 (s.rf 0x94200 16 16) ≤ s.now
    (∀ pre u post, x.unacked = pre ++ u :: post → u.seq = seq → (∀ v ∈ pre, v.seq ≠ seq) →
      ∃ t, exec (.e2eAck f ctrl seq) s = .next (pumpAll (routeGw s f) t) ∧ t.stream f ctrl = { x with unacked := post, retries := 0 } ∧
        (∀ y, y ≠ 0x94100 + 4 * f.val → t.reg y = s.reg y) ∧ { t with streams := s.streams, regs := s.regs } = s) ∧
    (∀ q, x.queue = [q] → x.unacked.length < (if ctrl then 64 else 512) → retryRoom s f ctrl q = true → x.again = false → peerState s f = 1 →
      gatesOpen s = true → streamQuiet s f = false → ∃ t, pump f ctrl s = t ∧
        t.stream f ctrl = { x with tx := x.tx + 1, queue := [], unacked := x.unacked ++ [⟨x.tx, q, s.now⟩] } ∧
        t.sent = s.sent ++ [out (.frame (frameTo s f ctrl x.tx q))] ∧
        { t with streams := s.streams, regs := s.regs, sent := s.sent } = s) ∧
    ((∀ v ∈ x.unacked, v.seq ≠ seq) → exec (.e2eAck f ctrl seq) s = .next s) ∧
    (x.unacked = [] ∨ peerState s f ≠ 1 ∨ streamQuiet s f = true → exec (.rtoExpiry f ctrl) s = .next s) ∧
    (∀ u rest, x.unacked = u :: rest → s.now < u.at' + rto → exec (.rtoExpiry f ctrl) s = .next s) ∧
    (∀ u rest, x.unacked = u :: rest → peerState s f = 1 → streamQuiet s f = false → u.at' + rto ≤ s.now → x.retries + 1 < limit →
      ∃ t, exec (.rtoExpiry f ctrl) s = .next t ∧
        t.stream f ctrl = { x with retries := x.retries + 1, again := false, unacked := x.unacked.map (fun u => { u with at' := s.now }) } ∧
        t.sent = s.sent ++ x.unacked.map (fun u => out (.frame (frameTo s f ctrl u.seq u.pkt))) ∧
        (∀ y, y ≠ portBase (routeGw s f) (usedPort s f).1 + 0x18 → t.reg y = s.reg y) ∧
        { t with streams := s.streams, regs := s.regs, sent := s.sent } = s) ∧
    (∀ u rest, x.unacked = u :: rest → peerState s f = 1 → streamQuiet s f = false → u.at' + rto ≤ s.now → limit ≤ x.retries + 1 →
      exec (.rtoExpiry f ctrl) s = .next (failover f (s.setStream f ctrl { x with retries := 0 }))) ∧
    (dead → ∃ u, peerState u f = 3 ∧ (u.stream f false).unacked = [] ∧ (u.stream f false).queue = [] ∧
      (u.stream f true).unacked = [] ∧ (u.stream f true).queue = [] ∧ { u with streams := s.streams, regs := s.regs } = s ∧
      (s.pool.filter (waitsFor f) = [] → exec (.deadTimeout f) s = .next (showUnacked f u)) ∧
      (∀ it, s.pool.filter (waitsFor f) = [it] →
        exec (.deadTimeout f) s = .next (showUnacked f (deadAnswer (routeGw s f) it u)))) ∧
    (¬dead → exec (.deadTimeout f) s = .next s)

/-- R210, R212, R213, R252, R256, R257, R332, R383: a route takes effect as written, and a stream that is Up moves to the port it names; a
revived stream waits with its sequences to be reset, and once a port is UP and in no quiet gap sends its SYNC and begins again, which is
refused while a tag is armed; a waiting outbound reduction merges or opens a freed entry, and a parked one leaves after
RedHold while its port can send, or completes FENCED when the gateways are not Online. -/
def Claims.RoutesAndRevival : Prop :=
  ∀ (g : QuadId) (f : FabId) (val : Word) (id : Nat) (it : Item) (s : State), s.quench = false →
    let a := 0x94000 + 4 * f.val
    let waits := s.pool.find? (fun i => i.held && decide (i.loc = .gwOut g))
    let quiet := streamQuiet (s.setStream f false { s.stream f false with onAlt := !priUp s f }) f
    let down := s.funcState 13 = 1 ∨ s.funcState 13 = 2
    (∃ u, u.reg a = (s.reg a &&& 0x0000FFFF#32) ||| (val &&& 0xFFFF0000#32) ∧ (∀ x, x ≠ a → u.reg x = s.reg x) ∧
      { u with regs := s.regs } = s ∧
      (peerState s f = 0 ∨ peerState s f = 3 → exec (.gwRouteWrite f val) s = .next u) ∧
      (peerState s f = 2 → exec (.gwRouteWrite f val) s = .next (tryResume f u)) ∧
      (peerState s f = 1 → exec (.gwRouteWrite f val) s = .next (
        if priUp u f then u.setStream f false { s.stream f false with onAlt := false }
        else if usedUp u f then u else failover f u))) ∧
    (s.rf 0x8F004 0 4 ≠ 0 → exec (.revive f) s = .next (s.setRf (gwBase (routeGw s f)) 31 1 1)) ∧
    (s.rf 0x8F004 0 4 = 0 → (routeValid s f && (priUp s f || altUp s f)) = false → ∃ t, exec (.revive f) s = .next t ∧
      peerState t f = 2 ∧ (t.stream f false).sync = true ∧ (t.stream f false).lostAt = s.now ∧
      (∀ x, x ≠ 0x94100 + 4 * f.val → t.reg x = s.reg x) ∧ { t with regs := s.regs, streams := s.streams } = s) ∧
    (s.rf 0x8F004 0 4 = 0 → (routeValid s f && (priUp s f || altUp s f)) = true → quiet = true → ∃ t, exec (.revive f) s = .next t ∧
      peerState t f = 2 ∧ (t.stream f false).sync = true ∧ (t.stream f false).lostAt = s.now ∧ t.sent = s.sent) ∧
    (s.rf 0x8F004 0 4 = 0 → (routeValid s f && (priUp s f || altUp s f)) = true → quiet = false → ∃ t, exec (.revive f) s = .next t ∧
      peerState t f = 1 ∧ (t.stream f false).sync = false ∧ (t.stream f false).onAlt = !priUp s f ∧
      (t.stream f false).rx = 0 ∧ (t.stream f true).rx = 0 ∧ ∃ o ∈ t.sent, o.gw = routeGw s f ∧ o.msg = .sync f) ∧
    (waits = none → exec (.combEntryFree g) s = .next s) ∧
    (waits = some it → s.item it.id = some it →
      (∀ u, gwMerge g it s = some u → exec (.combEntryFree g) s = .next u) ∧
      (gwMerge g it s = none → combUsed s (gwEp g) < 256 → ∃ t, exec (.combEntryFree g) s = .next t ∧
        t.item it.id = some { it with tab := true, held := false, since := s.now } ∧ { t with pool := s.pool, regs := s.regs } = s) ∧
      (gwMerge g it s = none → 256 ≤ combUsed s (gwEp g) → exec (.combEntryFree g) s = .next s)) ∧
    (∀ l, (gwParked s g).find? (fun i => decide (i.id ≠ it.id) && decide (combKey i.pkt = combKey it.pkt)) = some l →
      ∃ u, gwMerge g it s = some ((respondWith (gwEp g) it 0 1 false 0 [] u).incRf (gwBase g + 0xC04) 0 32 1) ∧
        { u with pool := s.pool } = s ∧ u.pool = s.pool.map (fun i => if i.id = l.id then { i with pkt := { i.pkt with
          data := mergeData i.pkt it.pkt, members := i.pkt.members + it.pkt.members } } else i)) ∧
    (s.item id = some it → it.tab = true → it.loc = .gwOut g → down →
      exec (.gatewayRedholdExpiry g id) s = .next (respondAll (gwEp g) it (rankStatus s it.pkt 2) s)) ∧
    (s.item id = some it → it.tab = true → it.loc = .gwOut g → ¬down → s.rf (gwBase g + 0xC00) 8 8 ≤ 4 * (s.now - it.since) →
      (priUp s (dFab it.pkt.dst) || altUp s (dFab it.pkt.dst)) = true → peerState s (dFab it.pkt.dst) ≤ 1 →
      exec (.gatewayRedholdExpiry g id) s = .next (sendAway g it s)) ∧
    (s.item id = some it → ¬down → 4 * (s.now - it.since) < s.rf (gwBase g + 0xC00) 8 8 → exec (.gatewayRedholdExpiry g id) s = .next s)

/-! ### Crucibles (R274–R286) -/

/-- R268, R276–R278, R280, R282: a bank's arbiter opens the row the next request chooses, or serves the next hit to the row in
force, until HitBurstLimit + 1 are served or no hit may go on; its home may apply a request then, a patrol read moves its
pseudo-channel on, and a drain's write puts its line into memory. A line found uncorrectable is poisoned and counted.
Requests that have waited 1 µs are aged; a refresh that has fallen due goes first and ends a grant in force. -/
def Obligations.RowGrants : Prop :=
  ∀ (k : QuadId) (pc : Fin 128) (bank : Fin 48) (s : State), s.quench = false →
    let key := hbmBank k pc bank
    let b := crucBase k
    let e := 5 * k.val + 2
    let limit := s.rf b 0 6 + 1
    let run := exec (.pcArbiterGrant k pc bank ⟨[], [], [], [], []⟩) s
    let serves (i : Item) (t : State) : Prop :=
      (∀ n, n ∈ t.aged ↔ n ∈ s.aged ∧ n ≠ i.id) ∧ t.cores = s.cores ∧
      (ownAccess i = false → t.mem = s.mem ∧ t.spec = s.spec ∧
        t.pool = s.pool.map (fun j => if j.id = i.id then { j with loc := .ready e } else j)) ∧
      (ownAccess i = true → t.pool = s.pool.filter (fun j => decide (j.id ≠ i.id))) ∧
      (ownAccess i = true → i.pkt.op = 1 → t.mem = s.mem ∧ t.spec = s.spec ∧
        Tab.get 0 t.scrubAt (patrolKey k pc) = Tab.get 0 s.scrubAt (patrolKey k pc) + 1) ∧
      (∀ l, ownAccess i = true → i.pkt.op ≠ 1 → specAt s e (reqOff i.pkt / 64) i.pkt.epoch.toNat = some l →
        s.epochSt e i.pkt.epoch.toNat = .commit → (∀ x, x ∈ t.spec ↔ x ∈ s.spec ∧ x ≠ l) ∧
        ∀ a, Memory.byte t.mem a = (let lo := memBase e + 64 * l.line
          if lo ≤ a ∧ a < lo + 64 ∧ l.mask.getLsbD (a - lo) = true then l.data.extractLsb' (8 * (a - lo)) 8 else Memory.byte s.mem a))
    let left (t : State) (r : RowGrant) : Prop :=
      Tab.get none t.rows key = if limit ≤ r.served ∨ nextHit t k pc bank r = none then none else some r
    (s.devState ≠ 0 ∨ refreshDue s k pc bank = true → ∀ x, exec (.pcArbiterGrant k pc bank x) s = .next s) ∧
    (s.devState = 0 → refreshDue s k pc bank = false → Tab.get none s.rows key = none →
      (rowChooser s k pc bank = none → run = .next s) ∧
      (∀ c, rowChooser s k pc bank = some c → ∃ t, run = .next t ∧ serves c t ∧ left t ⟨(itemRow c).2, 1, s.now⟩ ∧
        t.rf (b + 0x64) 0 32 = min (s.rf (b + 0x64) 0 32 + 1) (2 ^ 32 - 1)) ∧
      (∀ c o, rowChooser s k pc bank = some c → ownAccess c = false → readsMem c.pkt = true → o / 64 = reqOff c.pkt / 64 →
        poisonedByte s (hbmAddr k o) = false → ∃ t, exec (.pcArbiterGrant k pc bank ⟨[], [], [o], [], []⟩) s = .next t ∧
          poisonedByte t (hbmAddr k o) = true ∧ t.rf (b + 0x18) 0 32 = min (s.rf (b + 0x18) 0 32 + 1) (2 ^ 32 - 1) ∧
          t.mem = s.mem)) ∧
    (∀ r, s.devState = 0 → refreshDue s k pc bank = false → Tab.get none s.rows key = some r →
      (∀ i, nextHit s k pc bank r = some i → ∃ t, run = .next t ∧ serves i t ∧ left t { r with served := r.served + 1 } ∧
        t.rf (b + 0x60) 0 32 = min (s.rf (b + 0x60) 0 32 + 1) (2 ^ 32 - 1)) ∧
      (nextHit s k pc bank r = none → ∃ t, run = .next t ∧ Tab.get none t.rows key = none ∧ { t with rows := s.rows } = s)) ∧
    (∃ t, exec (.ageCap k pc) s = .next t ∧ { t with aged := s.aged } = s ∧
      ∀ n, setHas t.aged n = true ↔ setHas s.aged n = true ∨ ∃ i ∈ s.pool, i.loc = .pcq k pc ∧ i.since + 250 ≤ s.now ∧ i.id = n) ∧
    (Tab.get 0 s.refFrom k = 0 ∨ (refAt s k pc).1 % 48 ≠ bank ∨ 32 * s.now < (refAt s k pc).2 → exec (.refresh k pc bank) s = .next s) ∧
    (Tab.get 0 s.refFrom k ≠ 0 → (refAt s k pc).1 % 48 = bank → (refAt s k pc).2 ≤ 32 * s.now →
      ∃ t, exec (.refresh k pc bank) s = .next t ∧
        refAt t k pc = ((refAt s k pc).1 + 1, (refAt s k pc).2 + if s.rf (b + 4) (4 + pc / 32) 1 = 1 then 325 else 650) ∧
        (∀ q, q ≠ pc.val → refAt t k q = refAt s k q) ∧ Tab.get none t.rows key = none ∧
        t.rf (b + 0x68) 0 32 = (if Tab.get none s.rows key = none then s.rf (b + 0x68) 0 32 else min (s.rf (b + 0x68) 0 32 + 1) (2 ^ 32 - 1)) ∧
        (∀ x, x ≠ b + 0x68 → t.reg x = s.reg x) ∧ { t with refNext := s.refNext, rows := s.rows, regs := s.regs } = s)

/-- R278, R279, R282–R284, R363: once in a millisecond a crucible reads its stacks, in RUN. One above 85 °C refreshes at twice the rate and
one at 83 °C or below at the plain rate; 95 °C raises C2 event 0x084 and 105 °C C3 event 0x085; one silent for 10 ms is
treated as at 105 °C. The patrol scrub's reads join their queues, a failed pseudo-channel raises C2 event 0x083, and the
initialisation of a cold start clears the HBM and begins refresh, or raises C1 event 0x086. -/
def Obligations.CrucibleCare : Prop :=
  ∀ (k : QuadId) (i : Fin 4) (v : BitVec 8) (pc : Fin 128) (pcs : BitVec 128) (s : State), s.quench = false →
    let b := crucBase k
    let last (j : Nat) := Tab.get 0 s.lastTemp (4 * k + j)
    let ts (j : Fin 4) : Option (BitVec 8) := if j = i then some v else none
    let ready : Prop := Tab.get 0 s.lastTemp (16 + k) = 0 ∨ Tab.get 0 s.lastTemp (16 + k) - 1 + 250000 ≤ s.now
    let quiet : Prop := s.devState = 0 ∧ ready ∧ ∀ j < 4, j ≠ i.val → last j ≠ 0 ∧ s.now < last j - 1 + 2500000
    let run := exec (.hbmTempRead k (ts 0) (ts 1) (ts 2) (ts 3)) s
    let hot (w : State) : Prop := w.rf (b + 4) (4 + i) 1 = 1 ∧ w.rf (b + 4) (8 + i) 1 = 1 ∧
      (∀ x, x ≠ b + 4 → x ≠ b + 8 → w.reg x = s.reg x) ∧ { w with regs := s.regs, lastTemp := s.lastTemp } = s
    let tells (w : State) : State := if s.rf (b + 4) (8 + i) 1 = 1 then w else raiseEvent 2 (16 + k) 0x084 (BitVec.ofNat 32 i) w
    let iv := s.rf b 8 8
    let due := Tab.get 0 s.scrubT (2000 + k) + 250 * iv ≤ s.now
    let n (q : Nat) := Tab.get 0 s.scrubAt (patrolKey k q)
    let a := b + 0x40 + 4 * (pc / 32)
    (¬ready ∨ s.devState ≠ 0 → run = .next s) ∧
    (v.toNat < 95 → quiet → ∃ t, run = .next t ∧ t.rf (b + 8) (8 * i) 8 = v.toNat ∧
      t.rf (b + 4) (4 + i) 1 = (if 85 < v.toNat then 1 else if v.toNat ≤ 83 then 0 else s.rf (b + 4) (4 + i) 1) ∧
      t.rf (b + 4) (8 + i) 1 = (if v.toNat ≤ 90 then 0 else s.rf (b + 4) (8 + i) 1) ∧
      (∀ x, x ≠ b + 4 → x ≠ b + 8 → t.reg x = s.reg x) ∧ { t with regs := s.regs, lastTemp := s.lastTemp } = s) ∧
    (95 ≤ v.toNat → quiet → ∃ w, w.rf (b + 8) (8 * i) 8 = v.toNat ∧ hot w ∧
      run = .next (if 105 ≤ v.toNat then raiseEvent 3 (16 + k) 0x085 (BitVec.ofNat 32 i) (tells w) else tells w)) ∧
    (quiet → last i ≠ 0 → last i - 1 + 2500000 ≤ s.now → ∃ w, w.reg (b + 8) = s.reg (b + 8) ∧ hot w ∧
      exec (.hbmTempRead k none none none none) s = .next (raiseEvent 3 (16 + k) 0x085 (BitVec.ofNat 32 i) (tells w))) ∧
    (iv = 0 ∨ s.devState ≠ 0 ∨ s.rf (b + 4) 12 1 = 0 → exec (.crucScrubRead k pcs) s = .next s) ∧
    (iv ≠ 0 → s.devState = 0 → s.rf (b + 4) 12 1 = 1 → ∃ t, exec (.crucScrubRead k pcs) s = .next t ∧
      (let count := Tab.get 0 s.scrubAt (2000 + k) + if due then 1 else 0
       Tab.get 0 t.scrubAt (2000 + k) = count ∧ (due → Tab.get 0 t.scrubT (2000 + k) = s.now) ∧
       (∀ q < 128, pcs.getLsbD q = true → n q < count → pcqLen s k q < 32 → (pcQueue s k q).any (fun i => ownAccess i && decide (i.pkt.op = 1)) = false →
        ∃ i ∈ t.pool, i.loc = .pcq k q ∧ i.pkt = patrolPkt k (pcLine q (n q % 18874368)))) ∧
      (∃ l, t.pool = s.pool ++ l) ∧
      { t with pool := s.pool, nextId := s.nextId, scrubAt := s.scrubAt, scrubT := s.scrubT } = s) ∧
    (s.rf a (pc % 32) 1 = 1 ∨ s.devState ≠ 0 → exec (.pcFailed k pc) s = .next s) ∧
    (s.rf a (pc % 32) 1 = 0 → s.devState = 0 → ∃ u, exec (.pcFailed k pc) s = .next (raiseEvent 2 (16 + k) 0x083 (BitVec.ofNat 32 pc) u) ∧
      u.rf a (pc % 32) 1 = 1 ∧ u.rf (b + 4) (pc / 32) 1 = 1 ∧ (∀ x, x ≠ a → x ≠ b + 4 → u.reg x = s.reg x) ∧ { u with regs := s.regs } = s) ∧
    (let f := s.funcState (9 + k)
     let cold := s.rf (b + 4) 12 1 = 0 ∧ f ≠ 2 ∧ f ≠ 3
     (¬cold → ∀ x, exec (.hbmInit k x) s = .next s) ∧
     (cold → ∃ t, exec (.hbmInit k none) s = .next t ∧ t.rf (b + 4) 12 1 = 1 ∧ Tab.get 0 t.refFrom k = s.now + 1 ∧
       t.cores = s.cores ∧ t.pool = s.pool ∧
       ∀ x, Memory.byte t.mem x = if hbmAddr k 0 ≤ x ∧ x < hbmAddr (k + 1) 0 then 0 else Memory.byte s.mem x) ∧
     (cold → ∀ f, ∃ u, exec (.hbmInit k (some f)) s = .next (raiseEvent 1 (16 + k) 0x086 (BitVec.ofNat 32 (9 + k)) u) ∧
       u.rf (b + 4) 12 1 = 0 ∧ Tab.get 0 u.refFrom k = 0 ∧ u.cores = s.cores ∧ u.pool = s.pool))

/-! ### Die links (R303–R322) -/

/-- R304, R305, R307, R308: a unit slot of an electrical bundle carries, every 16th time, the control unit that returns the
credits the receiver has freed; else a unit to be sent again, in order; else one unit of the first class that has a unit
and a credit, unless another has waited 64 slots; else none. -/
def Claims.UnitSlots : Prop :=
  ∀ (k : Nat) (s : State),
    let w := s.wire k
    let t := wireSlot k s
    let w' := t.wire k
    let ready := (chanOrder w).filter (unitOk s k w)
    w'.slot = w.slot + 1 ∧ (∀ j, j ≠ k → t.wire j = s.wire j) ∧ t.cores = s.cores ∧ t.mem = s.mem ∧ t.regs = s.regs ∧
    (w.slot % 16 = 15 → w'.owed = [] ∧ w'.resend = w.resend ∧ w'.buf = w.buf ∧ t.pool = s.pool ∧
      ∀ ch n, w.owed = [(ch, n)] → Tab.get 0 w'.used ch = Tab.get 0 w.used ch - n) ∧
    (w.slot % 16 ≠ 15 → ∀ u rest, w.resend = u :: rest → w'.resend = rest ∧ w'.buf = w.buf ++ [{ u with slot := w.slot }] ∧
      w'.used = w.used ∧ t.pool = s.pool) ∧
    (w.slot % 16 ≠ 15 → w.resend = [] → ready = [] → w'.buf = w.buf ∧ w'.used = w.used ∧ t.pool = s.pool) ∧
    (∀ ch, w.slot % 16 ≠ 15 → w.resend = [] → ready ≠ [] →
      (match ready.find? (fun c => decide (64 ≤ Tab.get 0 w.waited c)) with | some c => some c | none => ready.head?) = some ch →
      Tab.get 0 w.used ch < chanCredits ch ∧ Tab.get 0 w'.used ch = Tab.get 0 w.used ch + 1 ∧ Tab.get 0 w'.waited ch = 0 ∧
      (ch = 0 ∨ ch = 5 → Tab.get 0 w'.extra ch = Tab.get 0 w.extra ch - 1 ∧ t.pool = s.pool) ∧
      (∀ it, ch ≠ 0 → ch ≠ 5 → wireHead s k ch = some it → w'.buf = w.buf ++ [⟨w.slot, ch, it.id, it.lines⟩] ∧
        t.pool = s.pool.map (fun i => if i.id = it.id then { i with lines := i.lines + 1 } else i)))

/-- R305, R311, R313, R333: a failed window of an electrical bundle is counted, and every unit from its first on is sent
again; the eighth failure in succession drops the bundle to degraded width with C2 event 0x0A1. A lane is failing with
CrcLimit mismatches in a millisecond, with the eighth probe below MarginMin in succession, or with no transition for 1 µs:
its swap begins, or waits for the one in progress; a lane that carries nothing is only marked. -/
def Claims.LinkMonitoring : Prop :=
  ∀ (l : LinkId) (lane : BitVec 9) (s : State), s.quench = false →
    let kind := l.kind.toNat
    let p := lane.toNat
    let k := linkKey kind l.index.toNat
    let x := s.link k
    linkExists kind l.index.toNat = true → p < linkTotal kind →
    (let w := s.wire k
     let c := Tab.get (0, 0) x.crcMs p
     let n := (if c.1 = s.now / 250000 then c.2 else 0) + 1
     let run := exec (.replay l lane) s
     let counted (t : State) : Prop :=
      (t.link k).replay = min (x.replay + 1) (2 ^ 32 - 1) ∧
      Tab.get 0 (t.link k).crc p = (if laneUsed kind x p then min (Tab.get 0 x.crc p + 1) 65535 else Tab.get 0 x.crc p) ∧
      (t.link k).map = x.map ∧ (t.link k).failed = x.failed ∧ (∀ j, j ≠ k → t.link j = s.link j ∧ t.wire j = s.wire j) ∧
      (t.wire k).resend = w.buf.filter (fun u => decide (w.passed ≤ u.slot)) ++ w.resend ∧
      { t with links := s.links, wires := s.wires } = s
     (1 < kind ∨ linkRuns s k = false → run = .next s) ∧
     (kind ≤ 1 → linkRuns s k = true → n < s.rf 0x88000 0 8 ∨ laneUsed kind x p = false →
      (w.again < 7 → ∃ t, run = .next t ∧ counted t ∧ (t.link k).width = x.width ∧ (t.wire k).again = w.again + 1) ∧
      (7 ≤ w.again → x.width ≠ 0 → ∃ t, run = .next t ∧ counted t ∧ (t.link k).width = x.width ∧ (t.wire k).again = 0) ∧
      (7 ≤ w.again → x.width = 0 → ∃ u, run = .next (raiseEvent 2 29 0x0A1 (BitVec.ofNat 32 k) u) ∧ counted u ∧
        (u.link k).width = 1 ∧ (u.link k).picked.length ≤ linkHalf kind ∧ (u.wire k).again = 0))) ∧
    (linkRuns s k = false → ∀ m, exec (.laneMonitorProbe l lane m) s = .next s) ∧
    (linkRuns s k = true → exec (.laneMonitorProbe l lane none) s = .next (foundFailing k p s)) ∧
    (∀ m : BitVec 10, linkRuns s k = true →
      let n := if m.toNat < s.rf 0x88004 0 10 then Tab.get 0 x.low p + 1 else 0
      let y : State := s.setLink k { x with margin := Tab.put 0 x.margin p m.toNat, low := Tab.put 0 x.low p (if 8 ≤ n then 0 else n) }
      exec (.laneMonitorProbe l lane (some m)) s = .next (if 8 ≤ n then foundFailing k p y else y)) ∧
    (let n := (if (Tab.get (0, 0) x.crcMs p).1 = s.now / 250000 then (Tab.get (0, 0) x.crcMs p).2 else 0) + 1
     linkRuns s k = true → laneUsed kind x p = true → s.rf 0x88000 0 8 ≤ n →
      ∃ u, crcMiss k p s = foundFailing k p u ∧ { u with links := s.links } = s ∧ Tab.get 0 (u.link k).crc p = min (Tab.get 0 x.crc p + 1) 65535) ∧
    (darkLink s k = true ∨ linkRuns s k = false → foundFailing k p s = s) ∧
    (badLane x p = false → linkRuns s k = true → darkLink s k = false → x.outs.contains p = false → x.failing.contains p = false →
      x.swap ≠ some p →
      (laneUsed kind x p = false → foundFailing k p s = failLane k p s) ∧
      (laneUsed kind x p = true → x.swap = none → foundFailing k p s = s.setLink k { x with swap := some p }) ∧
      (laneUsed kind x p = true → x.swap ≠ none → foundFailing k p s = s.setLink k { x with failing := x.failing ++ [p] }))

/-- R241, R306, R311, R316: the receiving port discards an optical packet, which waits to be sent again under its grant; the CRC
mismatch counts for its lane; a packet for an endpoint fenced meanwhile is answered or dropped; with the eighth discard in succession the counts start afresh and both bundles of the
path drop to degraded width. -/
def Claims.OpticalWindows : Prop :=
  ∀ (id : Nat) (lane : BitVec 9) (it : Item) (g : Nat) (e : Nat) (s : State), s.quench = false → s.item id = some it →
    it.loc = .flight g e →
    let rx := linkKey 3 (128 * e + rxOf g e)
    let p := lane.toNat % 9
    let run := exec (.opticalWindowFail id lane) s
    let discarded (i : Item) : Item := { i with fails := if i.fails = 7 then 0 else i.fails + 1, held := true }
    (it.held = true → run = .next s) ∧
    (it.held = false → ∃ u, u.pool = s.pool.map (fun i => if i.id = id then discarded i else i) ∧
      { u with pool := s.pool } = crcMiss rx p s ∧
      run = .next (if it.fails = 7 then dropWidth (linkKey 2 g) (dropWidth rx (refence e u)) else refence e u) ∧
      (u.epFenced e = false → refence e u = u)) ∧
    (∀ k, (s.link k).width ≠ 0 → dropWidth k s = s) ∧
    (∀ k, (s.link k).width = 0 → ∃ u, dropWidth k s = raiseEvent 2 29 0x0A1 (BitVec.ofNat 32 k) u ∧ { u with links := s.links } = s ∧
      (u.link k).width = 1 ∧ (u.link k).map = (s.link k).map ∧ ∀ j, j ≠ k → u.link j = s.link j)

/-- R312–R316, R333: the swap of a failing lane ends with the lane's failure, and the waiting lane of the lowest logical number is
next: SPARE_SWAP where it finds a replacement, LINK_DEGRADE where it finds none. At full width the lane moves to the lowest
free spare with C0 event 0x0A0; with none the bundle degrades with C2 event 0x0A1, but with no event while the spare is held
for another lane for a time, until that lane fails too; at degraded width a good lane not in use replaces it; below half its lanes the function goes
offline, or the device into quench when the link is the tongs'. -/
def Claims.LaneSparing : Prop :=
  ∀ (l : LinkId) (lane : BitVec 9) (s : State), s.quench = false →
    let kind := l.kind.toNat
    let p := lane.toNat
    let k := linkKey kind l.index.toNat
    let x := s.link k
    let y := withFail x p
    let half := halfWidth kind y
    let part := BitVec.ofNat 32 k
    let spares (z : Link) : Prop := ∃ u, failLane k p s = raiseEvent 0 29 0x0A0 part u ∧
      { u with links := s.links, regs := s.regs } = s ∧ u.link k = z ∧ (∀ j, j ≠ k → u.link j = s.link j) ∧
      u.rf 0x88060 0 16 = min (s.rf 0x88060 0 16 + 1) 65535 ∧ (∀ a, a ≠ 0x88060 → u.reg a = s.reg a)
    let off (z : Link) : Prop := failLane k p s = if linkFunc kind l.index.toNat = 0 then raiseEvent 3 29 0x0A5 part (s.setLink k z)
      else raiseEvent 1 29 0x0A2 (BitVec.ofNat 32 (linkFunc kind l.index.toNat)) (s.setLink k z)
    let idle := (goodLogical kind y).filter (fun j => !y.picked.contains j)
    linkExists kind l.index.toNat = true → p < linkTotal kind →
    (x.swap ≠ some p → exec (.spareSwap l lane) s = .next s ∧ exec (.linkDegrade l lane) s = .next s) ∧
    (x.swap = some p → ∃ t, (if hasSpare kind x p then exec (.spareSwap l lane) s = .next t ∧ exec (.linkDegrade l lane) s = .next s
        else exec (.linkDegrade l lane) s = .next t ∧ exec (.spareSwap l lane) s = .next s) ∧
      (let v := failLane k p (s.setLink k { x with swap := none })
       { t with links := v.links } = v ∧ (∀ j, j ≠ k → t.link j = v.link j) ∧
       (let z := v.link k
        match (List.range (linkData kind)).find? (fun i => z.failing.contains (physIn z.map i)) with
        | some i => t.link k = { z with swap := some (physIn z.map i), failing := z.failing.filter (fun q => decide (q ≠ physIn z.map i)) }
        | none => t.link k = { z with failing := [] }))) ∧
    (badLane x p = true ∨ linkRuns s k = false ∨ darkLink s k = true → failLane k p s = s) ∧
    (badLane x p = false → linkRuns s k = true → darkLink s k = false → laneOn kind x p = none → x.temp = none →
      failLane k p s = s.setLink k y) ∧
    (∀ i, badLane x p = false → linkRuns s k = true → darkLink s k = false → laneOn kind x p = some i →
      (x.width = 1 → x.short = true → y.outs = [] → half.width ≠ 2 →
        failLane k p s = raiseEvent 2 29 0x0A1 part (s.setLink k { half with short := false })) ∧
      (∀ q qs, x.width = 0 → freeSpares kind y = q :: qs → spares { y with map := mapLane y.map i q }) ∧
      (x.width = 0 → freeSpares kind y = [] → x.temp = none → half.width ≠ 2 →
        failLane k p s = raiseEvent 2 29 0x0A1 part (s.setLink k half)) ∧
      (x.width = 0 → freeSpares kind y = [] → x.temp ≠ none → half.width ≠ 2 →
        failLane k p s = s.setLink k { half with short := true }) ∧
      (x.width = 0 → freeSpares kind y = [] → x.temp = none → half.width = 2 → off half) ∧
      (x.width = 1 → x.short = false ∨ y.outs ≠ [] → x.picked.contains i = false → failLane k p s = s.setLink k y) ∧
      (∀ j js, x.width = 1 → x.short = false ∨ y.outs ≠ [] → x.picked.contains i = true → idle = j :: js →
        spares { y with picked := y.picked.filter (fun n => decide (n ≠ i)) ++ [j] }) ∧
      (∀ q qs, x.width = 1 → x.short = false ∨ y.outs ≠ [] → x.picked.contains i = true → idle = [] → freeSpares kind y = q :: qs →
        spares { y with map := mapLane y.map i q }) ∧
      (x.width = 1 → x.short = false ∨ y.outs ≠ [] → x.picked.contains i = true → idle = [] → freeSpares kind y = [] →
        off { y with width := 2, picked := [] }))

/-- R310, R312, R316, R317, R319, R333: a lane fails its test with a bit error or a margin below MarginMin. A full retrain tests
every lane from the fused map and raises the event of the width it reaches; a field self-test begins ten minutes after the
last, with the function's links idle for IdleUs, or forced with C0 event 0x0A4, and ends with the lanes it finds replaced. -/
def Claims.LinkTests : Prop :=
  (∀ (l : LinkId) (lanes : List LaneTest) (s : State), s.quench = false → linkExists l.kind.toNat l.index.toNat = true →
    let kind := l.kind.toNat
    let k := linkKey kind l.index.toNat
    let x := s.link k
    let u := noteMargins k lanes s
    let fails := failsIn s k lanes
    let y : Link := { testLink kind fails (u.link k) with gen := x.gen + 1 }
    let run := exec (.fullRetrain l lanes) s
    let f := linkFunc kind l.index.toNat
    (∀ p, p ∈ fails ↔ ∃ t ∈ lanes, t.lane.toNat = p ∧ p < linkTotal kind ∧ (t.err = true ∨ t.margin.toNat < s.rf 0x88004 0 10)) ∧
    y.failed = fails ∧ y.outs = [] ∧ y.swap = none ∧
    (x.width ≠ 1 ∨ s.linksUp = false ∨ darkLink s k = true → run = .next s) ∧
    (x.width = 1 → s.linksUp = true → darkLink s k = false →
      (y.width = 0 → run = .next (raiseEvent 0 29 0x0A3 (BitVec.ofNat 32 k) (u.setLink k y))) ∧
      (y.width = 1 → run = .next (raiseEvent 2 29 0x0A1 (BitVec.ofNat 32 k) (u.setLink k y))) ∧
      (y.width = 2 → run = .next (if f = 0 then raiseEvent 3 29 0x0A5 (BitVec.ofNat 32 k) (u.setLink k y)
        else raiseEvent 1 29 0x0A2 (BitVec.ofNat 32 f) (u.setLink k y))))) ∧
  ∀ (f : FuncId) (l : List (LinkId × LaneTest)) (s : State), s.quench = false →
    let r := 0x88020 + 4 * f.val
    let run := exec (.fieldSelfTest f l) s
    let mins := (s.now - Tab.get 0 s.testFrom f) / 15000000000
    let force := s.rf 0x88000 24 8
    let may := s.rf r 17 1 = 0 ∧ s.funcState f = 0 ∧ s.devState = 0 ∧ 10 ≤ mins ∧ s.linksUp = true
    let began (forced : Nat) (t : State) : Prop := Tab.get 0 t.testFrom f = s.now ∧ t.rf r 16 1 = forced ∧ t.rf r 17 1 = 1 ∧
      (∀ x, x ≠ r → t.reg x = s.reg x) ∧ { t with regs := s.regs, testFrom := s.testFrom } = s
    (s.rf r 17 1 = 0 → ¬may ∨ linksIdle s f = false ∧ (force = 0 ∨ mins < 10 + force) → run = .next s) ∧
    (may → linksIdle s f = true → ∃ t, run = .next t ∧ began 0 t) ∧
    (may → linksIdle s f = false → force ≠ 0 → 10 + force ≤ mins →
      ∃ u, run = .next (raiseEvent 0 29 0x0A4 (BitVec.ofNat 32 f) u) ∧ began 1 u) ∧
    (s.rf r 17 1 = 1 → ∃ u, u.rf r 17 1 = 0 ∧ (∀ x, x ≠ r → u.reg x = s.reg x) ∧ { u with regs := s.regs } = s ∧
      (s.funcState f ≠ 0 ∨ s.devState ≠ 0 ∨ l = [] → run = .next u) ∧
      (∀ k, s.funcState f = 0 → s.devState = 0 → linksOf l = [k] → linkFunc (keyKind k) (keyIndex k) = f →
        run = .next (failLanes k (failsIn s k (testsOf l k)) (noteMargins k (testsOf l k) u))))

/-! ### Optical control (R323–R340) -/

/-- R324, R325, R327–R329, R333, R335, R336, R359: a lock update moves a heater at most four codes and changes ring, under a
lane swap, at the end of its range; a DAC's failed part is replaced by its spare, and with none left the lane changes ring, or
works on at reduced range. A lane locked to a wrong line goes out, its traffic leaving it; it returns with C0 event 0x0C0, or
fails with C2 event 0x0C1 when it cannot be relocked or needs it again within 1 s. A plausible calibration is taken, an
implausible one recorded; the third in succession takes the lane to its alternate ring, or fails it. In STANDBY the lanes are
off. (How a result's BER is judged is the model's choice, log 21.) -/
def Obligations.OpticalLanes : Prop :=
  (∀ (l : OLane) (d : BitVec 4) (trim : Option (Fin 3 × Bool)) (fail : Option Bool) (b : Bool) (c : Cal) (s : State),
    s.devState = 2 → olaneOk l.kind.toNat l.index.toNat l.lane.toNat = true →
    exec (.lockUpdate l d trim fail) s = .next s ∧ exec (.wrongLineLock l b) s = .next s ∧
    exec (.periodicCalibration l c) s = .next s) ∧
  (∀ (l : OLane) (f : State → State) (s : State),
    let n := l.lane.toNat
    (∀ k, laneLink l = some k →
      let inPlace := (s.link k).outs.contains n || decide ((s.link k).width ≠ 0 ∧ freeSpares (keyKind k) (s.link k) = [])
      (inPlace = true → underSwap l f s = f s) ∧ (inPlace = false → underSwap l f s = laneBack k n (f (laneOut k n s)))) ∧
    (∀ g p, laneLink l = none → lanePort l = some (g, p) →
      let swaps := slotHalf s g p n = .full ∧ n < 31 ∧ portState s g p .full = 3 ∧ Nat.testBit (working s g p).toNat n = true ∧
        Nat.testBit (working s g p).toNat 31 = false ∧ slotBad s g p 31 = false
      (swaps → underSwap l f s = moveBack g p n (f (laneFails g p n s))) ∧ (¬swaps → underSwap l f s = f s)) ∧
    (laneLink l = none → lanePort l = none → underSwap l f s = f s)) ∧
  ∀ (l : OLane) (d : BitVec 4) (trim : Option (Fin 3 × Bool)) (c : Cal) (s : State), s.quench = false → s.devState ≠ 2 →
    olaneOk l.kind.toNat l.index.toNat l.lane.toNat = true →
    let key := laneKey l
    let n := l.lane.toNat
    let x := laneAt s key
    let h := moveHeater (dacTop x) x.heater d
    let y : OptLane := match trim with
      | some (0, up) => { x with heater := h, bias := trimCode x.bias up }
      | some (1, up) => { x with heater := h, depth := trimCode x.depth up }
      | some (_, up) => { x with heater := h, thresh := trimCode x.thresh up }
      | none => { x with heater := h }
    let part : Word := BitVec.ofNat 32 key
    let only (t : State) (z : OptLane) : Prop := Tab.get none t.optics.lanes key = some z ∧
      (∀ j, j ≠ key → Tab.get none t.optics.lanes j = Tab.get none s.optics.lanes j) ∧
      { t.optics with lanes := s.optics.lanes } = s.optics
    let runs (f : Option Bool) := exec (.lockUpdate l d trim f) s
    let turns (r : Host.Outcome State Fault Refusal) (w : State) : Prop := ∃ z : OptLane,
      r = .next (underSwap l (fun u => raiseEvent 0 25 0x0C2 part (setLane key z u)) w) ∧ z.alt = true ∧ heaterOk z.heater = true ∧
      z.segs = 0 ∧ z.sub = false ∧ z.dead = 0 ∧ z.fails = 0
    (h.toNat ≤ dacTop x ∧ (x.heater.toNat ≤ dacTop x → h.toNat ≤ x.heater.toNat + 4 ∧ x.heater.toNat ≤ h.toNat + 4)) ∧
    (heaterOk h = true ∨ x.alt = true → ∃ t, runs none = .next t ∧ only t y ∧ { t with optics := s.optics } = s) ∧
    (heaterOk h = false → x.alt = false → turns (runs none) s) ∧
    (x.segs < 4 → ∃ u, runs (some false) = .next (raiseEvent 0 25 0x0C2 part u) ∧ only u { y with segs := x.segs + 1 } ∧
      { u with optics := s.optics } = s) ∧
    (x.sub = false → ∃ u, runs (some true) = .next (raiseEvent 0 25 0x0C2 part u) ∧ only u { y with sub := true } ∧
      { u with optics := s.optics } = s) ∧
    (∀ sub : Bool, (if sub then x.sub = true else 4 ≤ x.segs) →
      (x.alt = false → turns (runs (some sub)) s) ∧
      (x.alt = true → ∃ t z, runs (some sub) = .next t ∧ only t z ∧ { t with optics := s.optics } = s ∧
        z.dead = min (x.dead + 1) 63 ∧ z.heater.toNat ≤ dacTop z)) ∧
    (let gone := laneGone s l = true ∨ laneDark s l.kind.toNat l.index.toNat = true
     let soon := ∃ t, x.lastRet = some t ∧ s.now ≤ t + 250000000
     let run (b : Bool) := exec (.wrongLineLock l b) s
     let leaves (u : State) : State := match laneLink l, lanePort l with
      | some k, _ => laneOut k n u
      | none, some (g, p) => laneFails g p n u
      | none, none => u
     (gone → ∀ b, run b = .next s) ∧
     (¬gone → x.out = false → ∃ u, only u { x with relocks := min (x.relocks + 1) 15, out := true } ∧
      u.rf 0xA0000 0 16 = min (s.rf 0xA0000 0 16 + 1) 65535 ∧ (∀ a, a ≠ 0xA0000 → u.reg a = s.reg a) ∧
      { u with regs := s.regs, optics := s.optics } = s ∧
      ∀ b, (¬soon → run b = .next (leaves u)) ∧ (soon → run b = .next (recoveryFails l (leaves u)))) ∧
     (¬gone → x.out = true → ∃ u v, only u { x with out := false, lastRet := some s.now } ∧ { u with optics := s.optics } = s ∧
      only v { x with out := false } ∧ { v with optics := s.optics } = s ∧
      (∀ k, laneLink l = some k → run true = .next (laneBack k n (raiseEvent 0 25 0x0C0 part u)) ∧
        run false = .next (raiseEvent 2 25 0x0C1 part (failLane k n v))) ∧
      (laneLink l = none → lanePort l = none → run true = .next (raiseEvent 0 25 0x0C0 part u) ∧
        ∃ w, run false = .next (raiseEvent 2 25 0x0C1 part w) ∧ only w { x with out := false, gone := true } ∧ { w with optics := s.optics } = s) ∧
      (∀ g p, laneLink l = none → lanePort l = some (g, p) →
        let home := onSpare s g p n = true ∧ (portState s g p .full = 3 ∨ portState s g p .full = 4)
        (¬home → run true = .next (if slotBad s g p n then s else raiseEvent 0 25 0x0C0 part u)) ∧
        (home → run true = .next (laneReturns key (moveBack g p n s))) ∧
        ∃ w, run false = .next (raiseEvent 2 25 0x0C1 part w) ∧ slotBad w g p n = true ∧ { w with portT := v.portT } = v))) ∧
    (let c' := judged l x c s
     let r := calReason (some x.heater) c'
     let run := exec (.periodicCalibration l c) s
     (laneLink l = none → c' = c) ∧
     (∀ k, laneLink l = some k →
      let misses := Tab.get 0 (s.link k).crc n - x.calCrc
      let bits := 256 * (s.now - x.calAt)
      let e := c.berExp.toNat
      c' = { c with berOk := decide (misses = 0 ∨ bits ≤ misses * 10 ^ (e + 2) ∧ misses * 10 ^ e ≤ 100 * bits) }) ∧
     (r = 0 → ∃ t, run = .next t ∧ only t { x with
        heater := c.heater, bias := c.bias, depth := c.depth, thresh := c.threshold, eyeW := c.eyeWidth, eyeH := c.eyeHeight,
        ber := c.berExp, fails := 0, calAt := s.now, calCrc := laneCrc s l } ∧ { t with optics := s.optics } = s) ∧
     (r ≠ 0 → ∃ u, u.rf 0xA0030 8 3 = r ∧
      u.rf 0xA0030 0 8 = min (s.rf 0xA0030 0 8 + 1) 255 ∧ u.rf 0xA0030 11 5 = n ∧ u.rf 0xA0030 16 13 = l.index.toNat ∧
      u.rf 0xA0030 29 3 = l.kind.toNat ∧ (∀ a, a ≠ 0xA0030 → u.reg a = s.reg a) ∧ { u with regs := s.regs } = s ∧
      let told := raiseEvent 0 25 0x0C3 part u
      (x.fails < 2 → run = .next (setLane key { x with fails := x.fails + 1 } told)) ∧
      (2 ≤ x.fails → x.alt = false → laneGone told l = false → turns run told) ∧
      (2 ≤ x.fails → x.alt = true ∨ laneGone told l = true →
        run = .next (laneFailing l (setLane key { x with fails := 0 } told)))))

/-- R323, R330–R333, R337, R340, R359, R418: the laser drive follows the received power by 2 mA, and a comb whose drive reaches 370, or
whose margin has been low for 100 ms, asks for a spare; a swap warms the first spare and announces a gap ten ticks ahead, at
whose end the old comb retires with C0 event 0x0E0; with no spare C2 event 0x0E1 is raised. ForceSwap starts a swap. A dark
comb's role asks for a spare at once with C2 event 0x0E2: its ports go DOWN and what its bundles carried goes back to the
hearth port. Writing the image address 0 takes a snapshot. -/
def Obligations.Combs : Prop :=
  ∀ (t : QuadId) (p : Fin 10) (role : Fin 8) (diff : BitVec 16) (margin : BitVec 9) (temp : BitVec 8) (s : State), s.quench = false →
    let k := 10 * t.val + p.val
    let pos := combPos t p
    let d := s.rf pos 17 9
    let n := if diff.toInt < -30 then min (d + 2) 400 else if 30 < diff.toInt then max (d - 2) 250 else d
    let low := if 5 * s.rf 0xA0004 8 8 ≤ margin.toNat ∨ margin = BitVec.allOnes 9 then 0 else if Tab.get 0 s.lowFrom k = 0 then s.now + 2 else Tab.get 0 s.lowFrom k
    let called := 1 < low ∧ low - 2 + 25000000 ≤ s.now
    let asks := d < 370 ∧ 370 ≤ n ∨ called
    let due := combState s t p = 0 ∧ combLit s t p = true ∧ (Tab.get 0 s.laserAt k = 0 ∨ Tab.get 0 s.laserAt k - 1 + 2500000 ≤ s.now)
    let status := 0xA1004 + 0x100 * t.val
    let part (r : Nat) : Word := BitVec.ofNat 32 (8 * t + r)
    (¬due → exec (.laserDriveUpdate t p diff ⟨margin, temp⟩) s = .next s) ∧
    (due → ∃ u, u.rf pos 17 9 = n ∧ u.rf pos 9 8 = temp.toNat ∧ u.rf pos 0 9 = margin.toNat ∧ (∀ a, a ≠ pos → u.reg a = s.reg a) ∧
      Tab.get 0 u.laserAt k = s.now + 1 ∧ Tab.get 0 u.lowFrom k = (if called then 1 else low) ∧
      { u with regs := s.regs, laserAt := s.laserAt, lowFrom := s.lowFrom } = s ∧
      (¬asks → exec (.laserDriveUpdate t p diff ⟨margin, temp⟩) s = .next u) ∧
      (asks → exec (.laserDriveUpdate t p diff ⟨margin, temp⟩) s = .next (needSpare t (combRole s t p) false u))) ∧
    (∀ dark, Tab.get none s.swaps t = none →
      (∀ q qs, sparePos s t = q :: qs → ∃ u, needSpare t role dark s = u ∧ combState u t q = 2 ∧ u.rf (combPos t q) 17 9 = 250 ∧
        u.rf status 16 2 = 1 ∧ Tab.get none u.swaps t = some ⟨role, q, dark, none⟩ ∧
        (∀ a, a ≠ combPos t q → a ≠ status → u.reg a = s.reg a) ∧ { u with regs := s.regs, swaps := s.swaps } = s) ∧
      (sparePos s t = [] → needSpare t role dark s = if dark then s else raiseEvent 2 26 0x0E1 (part role) s)) ∧
    (∀ w, Tab.get none s.swaps t = some w → w.role = role.val → w.gap = none → w.pos < 10 →
      let warmed (q : Nat) (u : State) : Prop := u.rf status 16 2 = 2 ∧
        Tab.get none u.swaps t = some ⟨role.val, q, false, some (s.now + 10)⟩ ∧ u.cores = s.cores ∧ u.mem = s.mem ∧ u.pool = s.pool
      (w.dark = false → ∀ ok2, ∃ u, exec (.combSwap t role true ok2) s = .next u ∧ warmed w.pos u ∧
        (∀ a, a ≠ status → u.reg a = s.reg a)) ∧
      (w.dark = true → ∀ ok2, exec (.combSwap t role true ok2) s = .next (switchComb t w s)) ∧
      (∀ q qs, w.dark = false → sparePos s t = q :: qs → q ≠ w.pos → (∀ x ∈ qs, x ≠ w.pos) →
        ∃ u, exec (.combSwap t role false true) s = .next u ∧ warmed q u ∧ combState u t w.pos = 3 ∧ combState u t q = 2) ∧
      (sparePos s t = [] → ∃ u, exec (.combSwap t role false true) s = .next (swapOver t (raiseEvent 2 26 0x0E1 (part role) u)) ∧
        combState u t w.pos = 3 ∧ u.rf (combPos t w.pos) 17 9 = 0 ∧ { u with regs := s.regs } = s)) ∧
    (Tab.get none s.swaps t = none → exec (.quietGap t) s = .next s ∧ ∀ a b, exec (.combSwap t role a b) s = .next s) ∧
    (∀ w, Tab.get none s.swaps t = some w → (w.gap = none ∨ ∃ g, w.gap = some g ∧ s.now < g + 16) → exec (.quietGap t) s = .next s) ∧
    (∀ w g, Tab.get none s.swaps t = some w → w.gap = some g → g + 16 ≤ s.now → w.dark = false → w.pos < 10 → w.role < 8 →
      rolePos s t w.role ≠ some w.pos → ∃ u,
        exec (.quietGap t) s = .next (pumpAll t (sendTakeovers (swapOver t (raiseEvent 0 26 0x0E0 (part w.role) u)))) ∧
        combState u t w.pos = 0 ∧ u.rf (combPos t w.pos) 26 3 = w.role ∧ u.rf (combPos t w.pos) 17 9 = 250 ∧
        (∀ o, rolePos s t w.role = some o → combState u t o = 3 ∧ u.rf (combPos t o) 17 9 = 0) ∧ { u with regs := s.regs } = s) ∧
    (s.swapWait = [] → ∃ u, swapOver t s = u ∧ u.rf status 16 2 = 0 ∧ Tab.get none u.swaps t = none ∧
      (∀ a, a ≠ status → u.reg a = s.reg a) ∧ { u with regs := s.regs, swaps := s.swaps } = s) ∧
    (s.rf status 16 2 ≠ 0 ∨ s.recovery = true → ∀ a b, exec (.forceSwap t (BitVec.ofNat 3 role) a b) s = .next s) ∧
    (∀ q qs, s.rf status 16 2 = 0 → s.recovery = false → Tab.get none s.swaps t = none → sparePos s t = q :: qs → ∀ b,
      ∃ u, exec (.forceSwap t (BitVec.ofNat 3 role) true b) s = .next u ∧ combState u t q = 2 ∧ u.rf status 16 2 = 2 ∧
        Tab.get none u.swaps t = some ⟨role.val, q, false, some (s.now + 10)⟩ ∧ u.cores = s.cores ∧ u.mem = s.mem) ∧
    (combState s t p ≠ 0 ∨ combLit s t p = false → exec (.combDark t p) s = .next s) ∧
    (∀ r, combState s t p = 0 → combLit s t p = true → combRole s t p = r → r < 6 → s.swaps = [] →
      (∀ e < 20, s.epFenced e = false) → ∃ u,
      exec (.combDark t p) s = .next (needSpare t r true (raiseEvent 2 26 0x0E2 (part r) u)) ∧
        combState u t p = 4 ∧ u.rf pos 17 9 = 0 ∧ (∀ a, a ≠ pos → a ≠ status → u.reg a = s.reg a) ∧ u.cores = s.cores ∧ u.mem = s.mem ∧
        (∀ q ∈ u.greqs, q ∈ s.greqs ∧ ¬(q.g < 912 ∧ ownerOf q.g / 5 = t.val ∧ bundleRole q.g = r)) ∧
        (∀ it g e, s.pool = [it] → it.loc = .flight g e → g < 912 → ownerOf g / 5 = t.val → bundleRole g = r →
          u.pool = [{ it with loc := .port (ownerOf g), cred := none, held := false, since := s.now }])) ∧
    (∀ r, combState s t p = 0 → combLit s t p = true → combRole s t p = r → ∃ u, exec (.combDark t p) s = .next u ∧
      ∀ q ∈ rolePorts r, ∀ h ∈ halvesOf s t q, portState u t q h ≠ 3) ∧
    (∃ u, exec .imageSnapshot s = .next u ∧ u.images = s.images + 1 ∧ u.rf 0xA0020 0 16 = 0 ∧ (∀ a, a ≠ 0xA0020 → u.reg a = s.reg a) ∧
      (∃ m, u.image = some m ∧ m.gen = s.images + 1 ∧ m.opt = s.optics) ∧
      { u with regs := s.regs, images := s.images, image := s.image, free := s.free } = s)

/-! ### Clocking and power (R341–R367) -/

/-- R39, R354, R356: a requester that asks for a lower step gets it at once; one that asks for a higher step while no
other waits gets it where the boost pool covers its charge, for a burst of BurstLimit, and the highest step that fits
where it does not; none is held below its floor step; at a burst's end the step falls to the floor step before the damper grants afresh. -/
def Obligations.BoostGrants : Prop :=
  (∀ (q : ReqId) (s : State), s.quench = false →
    let a := askOf s q
    let run := exec (.boostRequest q) s
    let alone : Prop := ∀ p < 36, p ≠ q.val → askOf s p = s.granted p
    let flat : Prop := s.granted q < s.floorStep q → ∀ n ≤ s.floorStep q, s.needOf q n = 0
    let may : Prop := q.val < 36 ∧ s.devState = 0
    let held : Prop := s.rf 0x20004 31 1 = 1 ∨ s.pins.ocAlertN = false
    (¬may ∨ a = s.granted q ∧ a = asked s q → run = .next s) ∧
    (may → a = s.granted q → a ≠ asked s q → ∃ t, run = .next t ∧ t.granted q = a ∧ asked t q = a ∧ damperOnly s t) ∧
    (may → a < s.granted q → ∃ t, run = .next t ∧ t.granted q = a ∧ damperOnly s t) ∧
    (may → s.granted q < a → alone → flat → ¬held → ∃ t, run = .next t ∧ damperOnly s t ∧
      (∀ p < 36, p ≠ q.val → t.granted p = s.granted p) ∧
      (extra s q a ≤ s.freeBoost → t.granted q = a ∧ (s.needOf q a ≠ 0 → (Tab.get Req.reset s.reqs q).endsAt = none →
        (Tab.get Req.reset t.reqs q).endsAt = some (s.now + 2500 * max 1 (s.rf (0x20200 + 4 * q) 16 8)))) ∧
      (s.freeBoost < extra s q a → t.granted q = max (fitStep s [q.val] a) (s.granted q))) ∧
    (may → s.granted q < a → alone → held → ∃ t, run = .next t ∧ damperOnly s t ∧
      t.granted q = max (s.granted q) (min a (s.floorStep q)))) ∧
  ∀ (q : ReqId) (s : State), s.quench = false →
    let r := Tab.get Req.reset s.reqs q
    (r.endsAt = none → exec (.burstExpiry q) s = .next s) ∧
    (∀ e, r.endsAt = some e → s.now < e → exec (.burstExpiry q) s = .next s) ∧
    (∀ e, r.endsAt = some e → e ≤ s.now → ∃ u, exec (.burstExpiry q) s = .next (damper u) ∧ u.granted q = s.floorStep q ∧
      (Tab.get Req.reset u.reqs q).endsAt = none ∧
      (∀ p n, (p, n) ∈ (Tab.get Req.reset u.reqs q).behind ↔ p < 36 ∧ p ≠ q.val ∧ waits s p = true ∧ n = asked s p) ∧
      (∀ p, p ≠ q.val → Tab.get Req.reset u.reqs p = Tab.get Req.reset s.reqs p) ∧
      (∀ x, x ≠ 0x20300 + 4 * q.val → u.reg x = s.reg x) ∧ { u with regs := s.regs, reqs := s.reqs } = s)

/-- R345, R346: at a broadcast's tick every member region takes the target step, but one whose PLL has not locked, which
keeps its step and raises C2 event 0x104, and is charged for the step it missed until a change succeeds; nothing switches
before. -/
def Claims.StepSwitches : Prop :=
  (∀ (n : BitVec 24) (fails : Word) (s : State), s.quench = false →
    (stepDue s n = false ∨ (∀ e ∈ s.steps, e.n ≠ n) → exec (.stepSwitch n fails) s = .next s)) ∧
  (∀ (n : BitVec 24) (e : StepPend) (s : State), s.quench = false → stepDue s n = true →
    s.steps.filter (fun e => decide (e.n = n)) = [e] →
    ∃ w, exec (.stepSwitch n 0) s = .next (damper w) ∧ (∀ x, x ∈ w.steps ↔ x ∈ s.steps ∧ x.n ≠ n) ∧
      { w with regs := s.regs, steps := s.steps, swallow := s.swallow, vcore := s.vcore, missed := s.missed } = s ∧
      (e.crucible = false → (∀ r < 32, w.inForce r = (if e.mask.getLsbD r then e.target.toNat else s.inForce r) ∧
          (e.mask.getLsbD r = true → Tab.get 0 w.missed r = 0)) ∧
        (∀ x, (x < 0x40200 ∨ 0x40280 ≤ x) → w.reg x = s.reg x)) ∧
      (e.crucible = true → e.target.toNat < 4 →
        (∀ k < 4, w.inForce (32 + k) = (if e.mask.getLsbD k then e.target.toNat else s.inForce (32 + k))) ∧
        (∀ x, x ≠ 0x40010 → w.reg x = s.reg x))) ∧
  ∀ (n : BitVec 24) (r : RegionId) (fails : Word) (target : BitVec 4) (s : State), s.quench = false → stepDue s n = true →
    s.steps.filter (fun e => decide (e.n = n)) = [⟨false, BitVec.ofNat 32 (2 ^ r.val), target, n⟩] → fails.getLsbD r = true →
    s.regionState r = 0 →
    ∃ w, exec (.stepSwitch n fails) s = .next (damper w) ∧ (∀ q < 32, w.inForce q = s.inForce q) ∧ w.rf (0x40200 + 4 * r.val) 31 1 = 1 ∧
      (Tab.get 0 s.missed r = 0 → Tab.get 0 w.missed r = target.toNat + 1) ∧
      (∀ m, Tab.get 0 s.missed r = m + 1 → Tab.get 0 w.missed r = (if s.needOf r target.toNat < s.needOf r m then m else target.toNat) + 1) ∧
      (s.pins.vio = true → w.pins.faultN = false) ∧ w.cores = s.cores ∧ w.mem = s.mem ∧ w.pool = s.pool

/-- R357: once the regulator reports, every rise of its anvil is broadcast; one that has waited 100 µs without a report is
abandoned with C2 event 0x121: the region keeps its step, and does not ask again for the step it gave up. -/
def Claims.Regulators : Prop :=
  ∀ (a : SiteId) (s : State), s.quench = false →
    let late (e : Nat × Nat × Nat) : Prop := e.1 / 4 = a.val ∧ e.2.1 + 25000 ≤ s.now
    ((∀ e ∈ s.avs, e.1 / 4 ≠ a.val) → exec (.regulatorReport a) s = .next s) ∧
    ((∃ e ∈ s.avs, e.1 / 4 = a.val) → ∃ t, exec (.regulatorReport a) s = .next t ∧ (∀ e, e ∈ t.avs ↔ e ∈ s.avs ∧ e.1 / 4 ≠ a.val) ∧
      (∀ r < 32, t.coming r =
        if r / 4 = a.val ∧ s.coming r < s.aim r ∧ s.abandoned r = false then s.aim r else s.coming r) ∧
      (∀ x, (x < 0x40200 ∨ 0x40280 ≤ x) → t.reg x = s.reg x) ∧
      { t with regs := s.regs, steps := s.steps, avs := s.avs, wires := s.wires } = s) ∧
    ((∀ e ∈ s.avs, ¬late e) → exec (.avsTimeout a) s = .next s) ∧
    ((∃ e ∈ s.avs, late e) → ∃ u, exec (.avsTimeout a) s = .next (raiseEvent 2 1 0x121 (BitVec.ofNat 32 a) u) ∧
      (∀ e, e ∈ u.avs ↔ e ∈ s.avs ∧ ¬late e) ∧ Tab.get 642 u.vcore a = u.vNeed a (u.avs.any (fun e => decide (e.1 / 4 = a))) ∧
      (∀ e, s.avs = [e] → late e → (Tab.get Req.reset u.reqs e.1).gaveUp = some e.2.2) ∧
      { u with avs := s.avs, reqs := s.reqs, vcore := s.vcore } = s)

/-- R299, R358: when OC_ALERT_N falls every boost is revoked, the crucibles drop to their floor rate, OC_COUNT counts
and C2 event 0x120 is raised; 100 µs later boosts may be granted again. -/
def Claims.OverCurrent : Prop :=
  ∀ (s : State), s.quench = false →
    (s.pins.vio = false → exec .ocAlert s = .next s) ∧
    (s.pins.vio = true → ∃ t, exec .ocAlert s = .next t ∧ t.ocSince = some s.now ∧ t.rf 0x20004 31 1 = 1 ∧
      t.pins.ocAlertN = false ∧ t.pins.faultN = false ∧ t.rf 0x20008 0 32 = min (s.rf 0x20008 0 32 + 1) (2 ^ 32 - 1) ∧
      (∀ q < 36, t.granted q ≤ s.floorStep q ∧ (Tab.get Req.reset t.reqs q).endsAt = none) ∧
      (∀ k < 4, t.inForce (32 + k) = min (s.inForce (32 + k)) (s.floorStep (32 + k))) ∧
      t.cores = s.cores ∧ t.mem = s.mem ∧ t.pool = s.pool ∧ t.own = s.own) ∧
    (s.ocSince = none → exec .ocHoldExpiry s = .next s) ∧
    (∀ t0, s.ocSince = some t0 →
      (s.now < t0 + 25000 → exec .ocHoldExpiry s = .next s) ∧
      (t0 + 25000 ≤ s.now → ∃ u, exec .ocHoldExpiry s = .next (damper u) ∧ u.rf 0x20004 31 1 = 0 ∧ u.ocSince = none ∧
        u.pins.ocAlertN = true ∧ (∀ x, x ≠ 0x20004 → u.reg x = s.reg x) ∧
        { u with regs := s.regs, ocSince := s.ocSince, pins := s.pins } = s))

/-- R347, R349, R350, R363, R451: a droop stretches a cycle of an ON region by at most half its length and counts it; where
the stretches of a millisecond first pass 1 % of its cycles, or the rail stays low, it raises event 0x106. The reference's loss starts holdover with C2 event 0x100, its return ends it with C0 event
0x101, and more than 1 s raises C3 event 0x102; the loss at a block that has power raises C1 event 0x103, the crystal's C2 event 0x105. -/
def Claims.Clocks : Prop :=
  (∀ (r : RegionId) (low : Bool) (s : State), s.quench = false →
    let a := 0x40300 + 4 * r.val
    let l := (Tab.get [] s.stretch r).filter (fun e => decide (s.now < e.1 + 250000))
    let many : Prop := regionMHz s r * 10 < l.length + 1
    (s.rf 0x40004 0 1 = 0 ∨ s.regionState r ≠ 0 ∨ s.devState ≠ 0 → exec (.droopStretch r low) s = .next s) ∧
    (s.rf 0x40004 0 1 = 1 → s.regionState r = 0 → s.devState = 0 → ∃ u, u.rf a 0 32 = min (s.rf a 0 32 + 1) (2 ^ 32 - 1) ∧
      (∀ x, x ≠ a → u.reg x = s.reg x) ∧ (r.val ∈ u.droopy ↔ many) ∧
      (∃ longer, 1 ≤ longer ∧ longer ≤ 32768 ∧ Tab.get [] u.stretch r = l ++ [(s.now, longer)] ∧ Tab.get 0 u.lag r = Tab.get 0 s.lag r + longer) ∧
      { u with regs := s.regs, stretch := s.stretch, droopy := s.droopy, lag := s.lag, free := s.free } = s ∧
      (low = true ∨ (many ∧ r.val ∉ s.droopy) → exec (.droopStretch r low) s = .next (raiseEvent 0 3 0x106 (BitVec.ofNat 32 r) u)) ∧
      (low = false → ¬ (many ∧ r.val ∉ s.droopy) → exec (.droopStretch r low) s = .next u))) ∧
  ∀ (f : FuncId) (s : State), s.quench = false →
    (s.holdover ≠ none ∨ s.rf 0x40000 30 1 = 1 → exec .refclkLoss s = .next s) ∧
    (s.holdover = none → s.rf 0x40000 30 1 = 0 → ∃ u, exec .refclkLoss s = .next (raiseEvent 2 3 0x100 0 u) ∧ u.holdover = some s.now ∧
      u.rf 0x40000 31 1 = 1 ∧ u.rf 0x40000 0 20 = 0 ∧ (∀ x, x ≠ 0x40000 → u.reg x = s.reg x) ∧
      { u with regs := s.regs, holdover := s.holdover } = s) ∧
    (s.holdover = none → exec .refclkRestored s = .next s ∧ exec .holdoverTimeout s = .next s) ∧
    (∀ t0, s.holdover = some t0 →
      let us := min ((s.now - t0) / 250) (2 ^ 20 - 1)
      (s.now ≤ t0 + 250000000 → exec .holdoverTimeout s = .next s ∧
        ∃ u, exec .refclkRestored s = .next (raiseEvent 0 3 0x101 0 u) ∧ u.holdover = none ∧ u.rf 0x40000 31 1 = 0 ∧ u.rf 0x40000 0 20 = us ∧
          (∀ x, x ≠ 0x40000 → u.reg x = s.reg x) ∧ { u with regs := s.regs, holdover := s.holdover } = s) ∧
      (t0 + 250000000 < s.now → exec .refclkRestored s = .next s ∧
        exec .holdoverTimeout s = .next (raiseEvent 3 3 0x102 0 (s.setRf 0x40000 0 20 us)))) ∧
    exec (.referenceLoss f) s =
      .next (if 1 ≤ f.val ∧ f.val ≤ 13 ∧ s.devState < (if f.val = 13 then 2 else 1) then raiseEvent 1 3 0x103 (BitVec.ofNat 32 f) s else s) ∧
    exec .xtalLoss s = .next (if s.rf 0x40000 30 1 = 1 then s else raiseEvent 2 3 0x105 0 (s.setRf 0x40000 30 1 1))

/-- R276, R359, R360, R362: NAP and STANDBY are entered from a higher state when every block accepts; a refusal names its
reason and block with event 0x123; a DELAY, of a crucible with requests queued too, is asked again, and the fifth counts as a
refusal. NAP stops the stacks' refresh, which a wake begins again. STANDBY loses the cores but for their fence, the memory and
what was on its way; a wake brings RUN back, at the floor steps or the caps below them. (That a crucible delays is the model's
choice, log 30.) -/
def Obligations.DeviceStates : Prop :=
  ∀ (b : BitVec 5) (s : State), s.quench = false →
    let cmd (standby : Bool) (d : Option (BitVec 5)) : Instr := if standby then .standbyEntry d else .napEntry d
    let key (standby : Bool) : Nat := if standby then 2 else 1
    let napped (t : State) : Prop := (∀ k < 4, Tab.get 0 t.refFrom k = 0) ∧ (∀ n < 512, Tab.get none t.refNext n = none) ∧
      ∀ n < 24576, Tab.get none t.rows n = none
    (∀ sb d, key sb ≤ s.devState → exec (cmd sb d) s = .next s) ∧
    (∀ sb d r k, s.devState < key sb → devRefusal s sb = some (r, k) →
      ∃ u, exec (cmd sb d) s = .next (raiseEvent 0 1 0x123 (BitVec.ofNat 32 (key sb)) u) ∧ u.rf 0x50004 28 4 = r ∧
        u.rf 0x50004 23 5 = k ∧ u.devState = s.devState ∧ (∀ e, e ∈ u.entries → e.1 ≠ key sb) ∧
        (∀ x, x ≠ 0x50000 → x ≠ 0x50004 → u.reg x = s.reg x) ∧ { u with regs := s.regs, entries := s.entries } = s) ∧
    (∀ sb d y, s.devState < key sb → s.entries = [] → devRefusal s sb = none → d.or (crucDelay s) = some y →
      ∃ t, exec (cmd sb d) s = .next t ∧
      t.entries = [(key sb, 1, y.toNat)] ∧ t.devState = s.devState ∧ (∀ x, x ≠ 0x50000 → x ≠ 0x50004 → t.reg x = s.reg x) ∧
      { t with regs := s.regs, entries := s.entries } = s) ∧
    (s.devState = 0 → devRefusal s false = none → crucDelay s = none → ∃ t, exec (.napEntry none) s = .next t ∧ t.devState = 1 ∧ napped t ∧
      (∀ x, x ≠ 0x50000 → x ≠ 0x50004 → t.reg x = s.reg x) ∧
      { t with regs := s.regs, entries := s.entries, refFrom := s.refFrom, refNext := s.refNext, rows := s.rows } = s) ∧
    (s.devState < 2 → devRefusal s true = none → crucDelay s = none → s.spsReqs = [] → ∃ t, exec (.standbyEntry none) s = .next t ∧ t.devState = 2 ∧
      (∀ e ∈ t.cores, e.2 = { Core.reset with st := .fenced } ∧ ∃ k, (e.1, k) ∈ s.cores ∧ k.st = .fenced) ∧
      (∀ e ∈ s.cores, e.2.st = .fenced → (t.core e.1).st = .fenced) ∧ t.mem = [] ∧ t.pool = [] ∧ t.own = [] ∧ t.rf 0x50010 31 1 = 1 ∧ t.flash = s.flash ∧ t.fuses = s.fuses ∧
      (∀ x < 0x50000, t.reg x = s.reg x)) ∧
    (s.entries = [] → ∀ d, exec (.handshakeRetry d) s = .next s) ∧
    (∀ n y, s.entries = [(1, n, y)] → devRefusal s false = none → s.devState = 0 →
      (crucDelay s = none → ∃ t, exec (.handshakeRetry none) s = .next t ∧ t.devState = 1 ∧ t.entries = [] ∧ napped t ∧ (∀ x, x ≠ 0x50004 → t.reg x = s.reg x) ∧
        { t with regs := s.regs, entries := s.entries, refFrom := s.refFrom, refNext := s.refNext, rows := s.rows } = s) ∧
      ∀ d z, d.or (crucDelay s) = some z →
        (n ≠ 4 → exec (.handshakeRetry d) s = .next { s with entries := [(1, n + 1, z.toNat)] }) ∧
        (n = 4 → ∃ u, exec (.handshakeRetry d) s = .next (raiseEvent 0 1 0x123 1 u) ∧ u.entries = [] ∧
          u.rf 0x50004 28 4 = 8 ∧ u.rf 0x50004 23 5 = z.toNat ∧ u.devState = 0 ∧ (∀ x, x ≠ 0x50004 → u.reg x = s.reg x) ∧
          { u with regs := s.regs, entries := s.entries } = s)) ∧
    (∀ k z, s.entries = [(k, 1, z)] → k ≤ 2 → s.devState = 0 → s.blockState b.toNat = if z = b.toNat then 0 else k) ∧
    (∀ e, s.devState = 0 → exec (.wake e) s = .next s) ∧
    (∀ e, s.devState = 1 → ∃ t, exec (.wake e) s = .next t ∧ (e.lanes = [] → e.cals = [] → s.links = [] → t.devState = 0 ∧
      t.cores = s.cores ∧ t.mem = s.mem ∧ t.pool = s.pool ∧
      ∀ k < 4, Tab.get 0 t.refFrom k = if s.rf (crucBase k + 4) 12 1 = 1 then s.now + 1 else Tab.get 0 s.refFrom k)) ∧
    (∀ e, s.devState = 2 → ∃ t, exec (.wake e) s = .next t ∧ t.steps = [] ∧
      (∀ q < 36, t.inForce q = min (t.floorStep q) (t.capOf q) ∧ t.granted q = t.floorStep q) ∧
      (newestRec s 3 = none → e.lanes = [] → e.cals = [] → e.guests = [] → s.links = [] → t.devState = 0 ∧ t.mem = []))

/-- R64, R66, R361, R362: a region takes GATED-CLOCK, RETAIN or OFF where no core of it is busy, and refuses with event
0x123 where one is; OFF loses its cores, but for their fence, and their stores. ON begins a wake, whose end makes the region
ON; an idle region with Auto set is gated after AutoIdleUs. A new Target gives up what was begun for the old one,
but for a wake that a start or a request began (the model's choice, log 30). -/
def Obligations.RegionStates : Prop :=
  ∀ (r : RegionId) (n : Fin 3) (s : State), s.quench = false →
    let a := 0x50100 + 4 * r.val
    let goal := n.val + 1
    let key := 100 + 4 * r.val + goal
    let mine (k : Nat) : Prop := 100 + 4 * r.val ≤ k ∧ k < 104 + 4 * r.val
    let cmd (delay : Bool) : Instr := if n = 0 then .regionGatedClock r delay else if n = 1 then .regionRetain r delay else .regionOff r delay
    let change : Prop := s.devState = 0 ∧ s.rf a 4 2 ≠ goal
    (∀ d, s.devState ≠ 0 → exec (cmd d) s = .next s ∧ exec (.regionOn r) s = .next s ∧ exec (.regionWakeDone r) s = .next s ∧
      exec (.autoIdle r) s = .next s) ∧
    (∀ d, s.devState = 0 → s.rf a 4 2 = goal → (∀ e ∈ s.entries, e.1 ≠ key) → exec (cmd d) s = .next s) ∧
    (change → s.regionState r < goal → regionBusy s r = false → ∃ t, exec (cmd false) s = .next t ∧ t.regionState r = goal ∧
      t.rf a 4 2 = goal ∧ (∀ q < 32, q ≠ r.val → t.regionState q = s.regionState q) ∧ t.pool = s.pool ∧
      (∀ c, regionOf c ≠ r → t.core c = s.core c) ∧ (∀ e, e ∈ t.entries ↔ e ∈ s.entries ∧ ¬ mine e.1) ∧
      (goal < 3 → t.cores = s.cores ∧ t.mem = s.mem) ∧
      (goal = 3 → (∀ e ∈ t.cores, regionOf e.1 = r → e.2 = { Core.reset with st := .fenced }) ∧
        ∀ x, Memory.byte t.mem x = if x < 2 ^ 29 ∧ regionOf (x / 2 ^ 18) = r then 0 else Memory.byte s.mem x)) ∧
    (change → goal < s.regionState r → ∀ d, ∃ t, exec (cmd d) s = .next t ∧ t.regionState r = goal ∧ (∀ x, x ≠ a → t.reg x = s.reg x) ∧
      { t with regs := s.regs, entries := s.entries, waking := s.waking } = s) ∧
    (change → s.regionState r < goal → regionBusy s r = true → ∀ d, ∃ u,
      exec (cmd d) s = .next (raiseEvent 0 1 0x123 (BitVec.ofNat 32 key) u) ∧ u.rf a 28 4 = 1 ∧
      u.regionState r = s.regionState r ∧ (∀ x, x ≠ a → u.reg x = s.reg x) ∧ Tab.get 0 u.waking r = Tab.get 0 s.waking r ∧
      { u with regs := s.regs, entries := s.entries, waking := s.waking } = s) ∧
    (change → s.regionState r < goal → regionBusy s r = false → ∃ t, exec (cmd true) s = .next t ∧
      t.regionState r = s.regionState r ∧ (key, 1, 8 + r.val / 4) ∈ t.entries ∧ (∀ x, x ≠ a → t.reg x = s.reg x) ∧
      { t with regs := s.regs, entries := s.entries, waking := s.waking } = s) ∧
    (s.devState = 0 → s.rf a 4 2 ≠ 0 → s.regionState r ≠ 0 → ∃ t, exec (.regionOn r) s = .next t ∧
      Tab.get 0 t.waking r = s.now + 1 ∧ t.rf a 4 2 = 0 ∧ t.regionState r = s.regionState r ∧
      (∀ e, e ∈ t.entries ↔ e ∈ s.entries ∧ ¬ mine e.1) ∧ (∀ x, x ≠ a → t.reg x = s.reg x) ∧
      { t with regs := s.regs, entries := s.entries, waking := s.waking } = s) ∧
    (Tab.get 0 s.waking r = 0 → exec (.regionWakeDone r) s = .next s) ∧
    (s.devState = 0 → Tab.get 0 s.waking r ≠ 0 → ∃ u, exec (.regionWakeDone r) s = .next (damper u) ∧ u.regionState r = 0 ∧
      Tab.get 0 u.waking r = 0 ∧ (∀ x, x ≠ a → u.reg x = s.reg x) ∧
      { u with regs := s.regs, waking := s.waking, idleAt := s.idleAt } = s) ∧
    (s.regionState r ≠ 0 ∨ s.rf a 26 1 = 0 ∨ regionBusy s r = true ∨
      s.now < Tab.get 0 s.idleAt r + 250 * s.rf a 16 10 → exec (.autoIdle r) s = .next s) ∧
    (s.devState = 0 → s.regionState r = 0 → s.rf a 26 1 = 1 → regionBusy s r = false →
      Tab.get 0 s.idleAt r + 250 * s.rf a 16 10 ≤ s.now → ∃ u, exec (.autoIdle r) s = .next (damper u) ∧ u.regionState r = 1 ∧
      (∀ x, x ≠ a → u.reg x = s.reg x) ∧ { u with regs := s.regs, waking := s.waking } = s)

/-! ### Thermal protection (R368–R378) -/

/-- R299, R359, R368, R369, R373, R389: in STANDBY only the tongs convert, and so in quench once 1 ms has passed. A conversion is
kept, and one that is stopped or out of range fails its sensor for good with C0 event 0x144; a second reading of 125 °C in
succession quenches the device with THERM_TRIP_N low. -/
def Claims.Conversions : Prop :=
  ∀ (n : SensorId) (v : BitVec 12) (stopped : Bool) (s : State),
    let x := s.sensor n
    let run := exec (.sensorConversion n v stopped) s
    let bad := stopped = true ∨ v.toInt < -320 ∨ 1200 < v.toInt
    let runs := (320 ≤ n.val ∧ n.val < 324) ∨ (s.devState ≠ 2 ∧ (s.quench = false ∨ s.now ≤ s.quenchAt + 250000))
    (¬runs → run = .next s) ∧
    (runs → ∃ t, run = .next t ∧ t.cores = s.cores ∧ t.mem = s.mem ∧ t.pool = s.pool ∧
      (∀ m, m ≠ n.val → t.sensor m = s.sensor m) ∧
      (t.sensor n).conv = x.conv + 1 ∧ (t.sensor n).uncal = x.uncal ∧ (t.sensor n).temp = (if stopped = true then x.temp else v) ∧
      ((t.sensor n).fail = true ↔ x.fail = true ∨ bad) ∧
      (bad → x.fail = false → t.rf 0x30000 9 8 = min (s.rf 0x30000 9 8 + 1) 255) ∧
      (∀ u, u ∈ unitsOf n ∨ (320 ≤ n.val ∧ n.val < 324 ∧ u + 284 = n.val) → ¬bad → x.fail = false → x.conv ≠ 0 → 1000 ≤ v.toInt + (if x.uncal = true then 48 else 0) →
        Tab.get 0 s.hotAt u = x.conv → t.quench = true ∧ (s.pins.vio = true → t.pins.tripN = false)))

/-- R371: a unit whose temperature comes to 105 °C is capped one step below the step in force, with C2 event 0x140 where no cap
stood, the cap falls one more step every 100 µs while it stays there, and rises one every 1 ms below 100 °C until none remains. -/
def Claims.ThermalCaps : Prop :=
  (∀ (n : SensorId) (v : BitVec 12) (e : Int) (s : State), n.val < 128 → s.quench = false → s.devState ≠ 2 →
    let x := s.sensor n
    let u := 4 * (n.val / 16) + n.val % 16 / 4
    let y : State := { s with sensors := Tab.put Sensor.reset s.sensors n { x with temp := v, conv := x.conv + 1 } }
    x.fail = false → -320 ≤ v.toInt → v.toInt ≤ 1200 → s.rf 0x30000 (n.val / 16) 1 = 0 → s.rf (capReg u) 29 1 = 0 →
    s.rf (capReg u) 31 1 = 0 ∨ (Tab.get (0, 0) s.capAt u).1 ≠ 2 → unitEff y u = some e → 840 ≤ e → e < 920 →
    ∃ t, exec (.sensorConversion n v false) s = .next t ∧ t.rf (capReg u) 31 1 = 1 ∧
      t.capOf u = min (s.capOf u) (s.inForce u - 1) ∧ (s.rf (capReg u) 31 1 = 0 → s.pins.vio = true → t.pins.faultN = false) ∧ t.cores = s.cores ∧ t.mem = s.mem ∧ t.pool = s.pool) ∧
  ∀ (u : UnitId) (s : State), s.quench = false →
    let w := Tab.get (0, 0) s.capAt u
    let c := capReg u
    (s.rf c 31 1 = 0 ∨ s.rf c 29 1 = 1 ∨ w.1 ≠ 2 ∨ s.now < w.2 + 25000 ∨ s.capOf u = 0 → exec (.thermalCapStep u) s = .next s) ∧
    (s.rf c 31 1 = 1 → s.rf c 29 1 = 0 → w.1 = 2 → w.2 + 25000 ≤ s.now → s.capOf u ≠ 0 → s.capOf u ≤ topStep u →
      ∃ t, exec (.thermalCapStep u) s = .next t ∧ t.capOf u = s.capOf u - 1 ∧ t.rf c 31 1 = 1 ∧ Tab.get (0, 0) t.capAt u = (2, s.now) ∧
        (∀ a, damperReg a = false → a ≠ c → t.reg a = s.reg a) ∧
        { t with regs := s.regs, capAt := s.capAt, reqs := s.reqs, steps := s.steps, avs := s.avs, vcore := s.vcore, wires := s.wires } = s) ∧
    (s.rf c 31 1 = 0 ∨ s.rf c 29 1 = 1 ∨ w.1 ≠ 0 ∨ s.now < w.2 + 250000 → exec (.capLift u) s = .next s) ∧
    (s.rf c 31 1 = 1 → s.rf c 29 1 = 0 → w.1 = 0 → w.2 + 250000 ≤ s.now →
      ∃ t, exec (.capLift u) s = .next t ∧ t.capOf u = (if topStep u ≤ s.capOf u + 1 then 15 else s.capOf u + 1) ∧
        t.rf c 31 1 = (if topStep u ≤ s.capOf u + 1 then 0 else 1) ∧ Tab.get (0, 0) t.capAt u = (0, s.now) ∧
        (∀ a, damperReg a = false → a ≠ c → t.reg a = s.reg a) ∧
        { t with regs := s.regs, capAt := s.capAt, reqs := s.reqs, steps := s.steps, avs := s.avs, vcore := s.vcore, wires := s.wires } = s)

/-- R374: a billet estimate that has stood 8 °C above the readings for 10 ms makes them implausible, with C2 event 0x143,
once. -/
def Claims.BilletEstimates : Prop :=
  ∀ (site : SiteId) (s : State), s.quench = false →
    let t0 := Tab.get 0 s.estHigh site
    (t0 = 0 ∨ s.now < t0 - 1 + 2500000 ∨ s.rf 0x30000 site 1 = 1 → exec (.billetImplausible site) s = .next s) ∧
    (t0 ≠ 0 → t0 - 1 + 2500000 ≤ s.now → s.rf 0x30000 site 1 = 0 → ∃ t, exec (.billetImplausible site) s = .next t ∧
      t.rf 0x30000 site 1 = 1 ∧ (s.pins.vio = true → t.pins.faultN = false) ∧ t.quench = false ∧ t.sensors = s.sensors ∧ t.cores = s.cores ∧
      t.mem = s.mem ∧ t.pool = s.pool)

/-! ### Faults, resets and the start (R379–R394, R416–R418, R451) -/

/-- R299, R379–R383, R389, R407: an event is logged and posted (class C0 only while FLT_CTRL asks for it), and takes its class's
action: C1 takes the function its detail names Offline, fenced and with its cores stopped; C2 asserts FAULT_N; C3
quenches. Without VIO18 no pin is driven. Codes of reserved blocks are never taken. -/
def Claims.EventClasses : Prop :=
  ∀ (code : BitVec 16) (detail : Word) (s : State),
    let cls := code.toNat / 2 ^ 14
    let blk := code.toNat / 2 ^ 9 % 32
    let f := detail.toNat % 16
    let run := exec (.faultEvent code detail) s
    (30 ≤ blk → run = .next s) ∧
    (blk < 30 → ∃ t, run = .next t ∧ t.mem = s.mem ∧
      (s.events.length < 256 →
        (s.lostRun = 0 → cls ≠ 0 ∨ s.rf 0x10004 0 1 = 1 → t.events = s.events ++ [⟨0, BitVec.ofNat 4 (blockFunc blk detail.toNat cls), code, s.evSeq, detail, s.tick⟩]) ∧
        (cls = 0 → s.rf 0x10004 0 1 = 0 → t.events = s.events) ∧
        (Tab.get none s.log s.newest = none → t.newest = 0 ∧ t.logSeq = s.logSeq + 1 ∧
          Tab.get none t.log 0 = some ⟨code, s.logSeq, s.tick, s.now, detail, 0, false⟩) ∧
        (∀ e, Tab.get none s.log s.newest = some e → e.code = code → e.detail = detail → s.now ≤ e.at' + 250000 → e.cleared = false →
          t.logSeq = s.logSeq ∧ t.newest = s.newest ∧ Tab.get none t.log s.newest = some { e with count := min (e.count + 1) 65535 })) ∧
      (cls ≤ 1 → s.quench = false → t.quench = false ∧ t.pins.faultN = s.pins.faultN) ∧
      (cls ≠ 1 → t.cores = s.cores ∧ t.pool = s.pool ∧ ∀ g < 16, t.funcState g = s.funcState g) ∧
      (cls = 1 → 1 ≤ f → f < 15 → t.funcState f = 2 ∧ (∀ e ∈ epsOfFunc f, t.epFenced e = true) ∧
        (f ≤ 8 → ∀ c, c / 256 = f - 1 → (s.core c).st = .running → (t.core c).st = .stopping)) ∧
      (s.pins.vio = false → cls ≤ 2 → t.pins = s.pins) ∧ (cls = 2 → s.pins.vio = true → t.pins.faultN = false) ∧
      (cls = 3 → s.quench = false → quenched t ∧ t.claimed = false ∧
        (s.pins.vio = true → t.pins.quenchN = false ∧ t.pins.faultN = false ∧ t.pins.ownOut = false ∧ t.pins.alive = false) ∧
        t.linksUp = false ∧ t.links = [] ∧ t.refFrom = [] ∧ t.quenchAt = s.now ∧ (∀ a < 8, Tab.get 642 t.vcore a = 550) ∧
        t.reg 0x10030 = BitVec.ofNat 32 (2 ^ 31 + s.tick.toNat % 2 ^ 15 * 2 ^ 16 + code.toNat)))

/-- R380, R381, R388: copies of the collector that disagree quench the device with code 0xC810, outside the log;
ClearC2 clears every C1 and C2 entry, and FAULT_N rises. -/
def Claims.Collector : Prop :=
  ∀ (s : State),
    (s.quench = false → ∃ t, exec .collectorMismatch s = .next t ∧ quenched t ∧ t.rf 0x10000 30 1 = 0 ∧ t.log = s.log ∧
      t.rf 0x10030 0 16 = 0xC810 ∧ (s.pins.vio = true → t.pins.quenchN = false ∧ t.pins.smbAlertN = false) ∧ t.mem = s.mem ∧ t.cores = s.cores) ∧
    (s.quench = false → ∃ t, exec .clearC2 s = .next t ∧ t.pins = (if s.pins.vio = true then { s.pins with faultN := true } else s.pins) ∧
      (∀ i, Tab.get none t.log i = (Tab.get none s.log i).map (fun e =>
        if 2 ^ 14 ≤ e.code.toNat ∧ e.code.toNat < 3 * 2 ^ 14 then { e with cleared := true } else e)) ∧
      { t with log := s.log, pins := s.pins } = s)

/-- R163, R384–R386: a per-function reset of F1–F14 ends with the function Online, its fences lifted, RST_STATUS counting it
and C0 event 0x003; a site's cores and registers and the gateways' registers are as after reset, other sites' cores as before,
and a billet's bytes stay in their slices. A crucible whose initialisation fails is left Offline with C2 event 0x004. One asked
for while a reset runs, outside RUN or for F15 is refused, and changes nothing else. -/
def Obligations.FunctionResets : Prop :=
  ∀ (f : FuncId) (s : State), s.quench = false →
    let env : ResetEnv := ⟨[], [], false⟩
    let cfg := siteBase (f - 1) + 0x9000
    (s.rstFor = some (f.val, false) → f ≠ 0 → ∀ x, exec (.perFunctionReset f x) s = .next (resetFinish f x s)) ∧
    (rstBusy s = true ∨ s.devState ≠ 0 ∨ f = 15 → s.rstFor ≠ some (f.val, false) → ∀ x, ∃ t, exec (.perFunctionReset f x) s = .next t ∧
      t.rf 0x10804 30 1 = 1 ∧ (∀ a, a ≠ 0x10804 → t.reg a = s.reg a) ∧ { t with regs := s.regs } = s) ∧
    (rstBusy s = false → s.devState = 0 → s.rstFor ≠ some (f.val, false) → 1 ≤ f.val → f.val < 15 → s.pool = [] → (∀ k, (s.link k).width ≠ 2) →
      ∃ u, exec (.perFunctionReset f env) s = .next (raiseEvent 0 0 0x003 (BitVec.ofNat 32 f) u) ∧
        (∀ g < 15, u.funcState g = if g = f.val then 0 else s.funcState g) ∧ (∀ e ∈ epsOfFunc f, u.epFenced e = false) ∧
        u.rstFor = none ∧
        u.rf 0x10804 31 1 = 0 ∧ u.rf 0x10804 16 4 = f.val ∧ u.rf 0x10804 0 16 = min (s.rf 0x10804 0 16 + 1) 65535 ∧
        (∀ c, c / 256 + 1 ≠ f.val → u.core c = s.core c) ∧ u.flash = s.flash ∧ u.fuses = s.fuses ∧
        (f.val < 9 → u.mem = if s.rf cfg 16 1 = 1 then (remapBillet (f - 1) false s).mem else s.mem) ∧ (12 < f.val → u.mem = s.mem) ∧
        (f.val ≤ 8 → (∀ c, c / 256 + 1 = f.val → u.core c = Core.reset) ∧
          ∀ a, siteBase (f - 1) ≤ a → a < siteBase (f - 1) + 0x10000 → u.reg a = regReset a) ∧
        (f.val = 13 → u.streams = [] ∧ ∀ a, 0x90000 ≤ a → a < 0xA0000 → u.reg a = regReset a)) ∧
    (rstBusy s = false → s.devState = 0 → s.rstFor ≠ some (f.val, false) → 9 ≤ f.val → f.val ≤ 12 → s.pool = [] → (∀ k, (s.link k).width ≠ 2) →
      s.rf (crucBase (f - 9) + 4) 12 1 = 0 → ∃ u, exec (.perFunctionReset f ⟨[], [], true⟩) s =
        .next (raiseEvent 2 0 0x004 (BitVec.ofNat 32 f) u) ∧ u.funcState f = 2 ∧ u.rf 0x10804 31 1 = 0 ∧ u.rf 0x10804 29 1 = 1 ∧
        u.rf 0x10804 16 4 = f.val)

/-- R385, R388, R409, R417, R426: F0's reset loads its firmware again, verified as at the start, which runs with C0 event 0x003
or quenches the device with event 0x1A2; the record being written is abandoned, and a report being made aborted. A heartbeat
keeps ALIVE, a missed one stops it with C2 event 0x001 and restarts F0, and the third within 1 s quenches with event 0x002.
ALIVE toggles while the heartbeat is current. -/
def Claims.Heartbeats : Prop :=
  ∀ (beat : Word) (ok : Bool) (s : State), s.quench = false →
    let l := s.misses.filter (fun t => decide (s.now < t + 250000000)) ++ [s.now]
    let v := ok && headerOk (abandonRec s) s.slotBoot
    let begins : Prop := rstBusy s = false ∧ s.devState = 0 ∧ ∀ t, s.f0Down ≠ some (t, true)
    (begins → s.fuseSeq = none → s.rf 0x300000 21 1 = 0 →
      (v = true → ∃ u, exec (.f0Restart ok) s = .next (raiseEvent 0 0 0x003 0 u) ∧ u.f0Down = some (s.now, false) ∧
        u.pins.alive = false ∧ u.funcState 0 = 0 ∧ u.rf 0x10804 31 1 = 0 ∧ u.rf 0x10804 16 4 = 0 ∧ u.fOpen = none ∧
        { u with regs := s.regs, f0Down := s.f0Down, pins := s.pins, rstFor := s.rstFor } = abandonRec s) ∧
      (v = false → ∃ t, exec (.f0Restart ok) s = .next t ∧ quenched t ∧ t.rf 0x10030 0 16 = 0xCFA2)) ∧
    (begins → s.fuseSeq = none → s.rf 0x300000 21 1 = 1 → ∃ t, exec (.f0Restart ok) s = .next t ∧ t.report = [] ∧
      t.rf 0x300000 21 1 = 0 ∧ t.rf (ringWord (s.rf 0x60020 0 5) 0) 24 8 = 3) ∧
    (firmwareRuns s = true → exec (.fltHeartbeat beat) s =
      .next { s with beatAt := s.now, f0Down := none, pins := { s.pins with aliveRun := true } }) ∧
    (firmwareRuns s = false → exec (.fltHeartbeat beat) s = .next s) ∧
    (beatMissed s = false → exec (.heartbeatMiss ok) s = .next s) ∧
    (beatMissed s = true → ∃ t, exec (.heartbeatMiss ok) s = .next t ∧ t.misses = l ∧ t.pins.alive = false ∧
      (s.pins.vio = true → t.pins.faultN = false) ∧
      t.pins.aliveRun = false ∧ t.cores = s.cores ∧ t.mem = s.mem ∧ (3 ≤ l.length ∨ v = false → quenched t) ∧
      (l.length < 3 → v = true → t.quench = false ∧ t.f0Down = some (s.now, false))) ∧
    exec .aliveToggle s = .next (if s.pins.aliveRun = true ∧ s.now < s.beatAt + 2625000 ∧ s.aliveAt + 124875 ≤ s.now ∧ s.rf 0x10000 30 1 = 1 then
      { s with aliveAt := s.now, pins := { s.pins with alive := !s.pins.alive } } else s)

/-- R387: a billet-internal reset leaves the stack's cores running, serves again when its control logic has restarted,
and raises C0 event 0x025; the tongs begin one at a fault of that logic. -/
def Claims.BilletResets : Prop :=
  ∀ (site : SiteId) (s : State), s.quench = false → s.devState = 0 → s.pool = [] →
    let a := siteBase site + 0x9004
    (rstBusy s = false → islandOnly s site = false →
      ∃ u, exec (.billetInternalReset site) s = .next (raiseEvent 0 (8 + site) 0x025 0 u) ∧ islandOnly u site = false ∧
        u.rf 0x10804 31 1 = 0 ∧ u.rf 0x10804 16 4 = site + 1 ∧ u.rf 0x10804 0 16 = min (s.rf 0x10804 0 16 + 1) 65535 ∧
        (∀ x, x ≠ a → x ≠ 0x10800 → x ≠ 0x10804 → u.reg x = s.reg x) ∧ { u with regs := s.regs, rstFor := s.rstFor } = s) ∧
    (s.rstFor ≠ some (site.val + 1, true) → islandOnly s site = true → ∃ u, exec (.billetInternalReset site) s = .next (raiseEvent 0 (8 + site) 0x025 0 u) ∧
      islandOnly u site = false ∧ (∀ x, x ≠ a → u.reg x = s.reg x) ∧ { u with regs := s.regs } = s) ∧
    (islandOnly s site = true → exec (.billetControlFault site) s = .next s) ∧
    (islandOnly s site = false → ∃ t, exec (.billetControlFault site) s = .next t ∧ islandOnly t site = true ∧
      (∀ x, x ≠ a → t.reg x = s.reg x) ∧ { t with regs := s.regs } = s)

/-- R299, R390–R392, R413, R426, R451, R453: a cold reset and a brownout leave registers, cores, memory and log as after reset,
and keep flash and fuses, with a record being written left uncommitted. Both are without effect in quench, which only
QUENCH_RELEASE ends; without VIO18 COLD_RST_N is not read. -/
def Claims.ColdResets : Prop :=
  ∀ (s : State),
    let cold (t : State) : Prop := t.regs = [] ∧ t.cores = [] ∧ t.mem = [] ∧ t.pool = [] ∧ t.own = [] ∧ t.log = [] ∧ t.sensors = [] ∧
      t.quench = false ∧ t.frozen = false ∧ t.locked = false ∧ t.tickRuns = false ∧ t.spsReqs = [] ∧ t.events = [] ∧
      t.flash = (abandonRec s).flash ∧ t.fuses = s.fuses ∧ t.fOpen = none ∧ t.pins.coldRstN = false ∧ t.pending = s.pending ∧
      (t.tapIr ≠ 3 → t.tapIr ≠ 4 → t.pins.quenchN = true ∧ t.pins.faultN = true)
    (s.quench = true → exec .coldReset s = .next s ∧ exec .vaonBrownout s = .next s) ∧
    (s.quench = false → s.pins.vio = false → exec .coldReset s = .next s) ∧
    (s.quench = false → (s.pins.vio = true → ∃ t, exec .coldReset s = .next t ∧ cold t ∧ t.tapIr = s.tapIr) ∧
      ∃ t, exec .vaonBrownout s = .next t ∧ cold t) ∧
    ∃ t, exec .quenchRelease s = .next t ∧ cold t ∧ t.tapIr = 1 ∧ t.pins.vio = false

/-- R299, R338, R342, R344, R355, R369, R371, R416–R419, R424: a start whose fuses or images fail ends in recovery with C2 event 0x1A1;
any other ends complete and locked, with every region and crucible at its floor step or a cap below it, the running slot recorded, the
calibration image that was restored shown, and (where no configuration record stands) memory zero. A start not complete
within 2 s ends in recovery too, with its straps sampled and its sensors' fuses checked (free values, log 48) and the tick count running. -/
def Claims.Starts : Prop :=
  ∀ (x : StartEnv) (s : State), s.quench = false →
    let late := exec .startTimeout s
    (s.rf 0x300000 29 2 ≠ 0 → exec (.startSequence x) s = .next s ∧ late = .next s) ∧
    (s.rf 0x300000 29 2 = 0 → x.fuseOk = false ∨ bootSlot s x = none →
      ∃ u, exec (.startSequence x) s = .next (raiseEvent 2 7 0x1A1 0 u) ∧ u.recovery = true ∧ u.rf 0x300000 29 2 = 2 ∧
        (∀ i ∈ x.uncal, (u.sensor i).uncal = true) ∧ u.pins.role = x.role ∧ u.pins.pairEn = x.pairEn ∧ u.pins.smbAddr = x.smbAddr ∧ u.tickRuns = true ∧
        u.cores = s.cores ∧ u.mem = s.mem) ∧
    (∀ slot fb, s.rf 0x300000 29 2 = 0 → x.fuseOk = true → bootSlot s x = some (slot, fb) →
      ∃ t, exec (.startSequence x) s = .next t ∧ t.rf 0x300000 29 2 = 1 ∧ t.locked = true ∧ t.steps = [] ∧
        t.rf 0x300000 28 1 = (if (restoreImage s x).isSome then 1 else 0) ∧
        (∀ r < 36, t.inForce r = min (t.floorStep r) (t.capOf r) ∧ t.granted r = t.floorStep r) ∧
        (newestRec s 3 = none → t.mem = [] ∧ t.slotBoot = slot)) ∧
    (s.rf 0x300000 29 2 = 0 → s.now < s.startAt + 500000000 → late = .next s) ∧
    (s.rf 0x300000 29 2 = 0 → s.startAt + 500000000 ≤ s.now → ∃ u, late = .next (raiseEvent 2 7 0x1A1 0 u) ∧
      u.recovery = true ∧ u.rf 0x300000 29 2 = 2 ∧ u.rf 0x60000 0 4 = 5 ∧ u.tickRuns = true ∧
      u.tick = BitVec.ofNat 48 (s.now - s.startAt - 500000) ∧ u.rf (combPos 0 7) 17 9 = 250 ∧
      u.pins = freeStraps (Config.freeWord s.free) (givenBack s) ∧ u.free = s.free + 13 ∧
      (∀ i ∈ freeUncal (s.free + 1), (u.sensor i).uncal = true) ∧
      (∀ a, a ≠ 0x300000 → a ≠ 0x60000 → a ≠ 0x500004 → a ≠ combPos 0 7 → a ≠ 0x30000 → a ≠ 0x10000 → a ≠ 0x60008 → u.reg a = s.reg a) ∧
      u.cores = s.cores ∧ u.mem = s.mem ∧ u.pool = s.pool ∧ u.flash = s.flash ∧ u.fuses = s.fuses)

/-! ### The host link and the control space (R5–R8, R395–R411, R421) -/

/-- R17, R398–R404, R408, R436: what comes while UP is DOWN is lost; before the start is complete a request is only passed
on. A request for this device is performed and answered in turn; a Length that does not fit, or a payload where the opcode
has none, is rejected whole with event 0x162, an address outside a block answered 5, one the gates keep out 12; other
devices' packets go on down the chain. A MEM request goes out as fabric packets of the tongs. Credits add up to 511. -/
def Obligations.HostRequests : Prop :=
  ∀ (h : SpsHdr) (ws : List Word) (cmd : Instr) (s : State), s.quench = false →
    (cmd = .csrRd h ∧ h.op = 1 ∧ ws = h.extra ∨ cmd = .csrWr h ws ∧ h.op = 2 ∨ cmd = .memRd h ∧ h.op = 3 ∧ ws = h.extra ∨
      cmd = .memWr h ws ∧ h.op = 4 ∨ cmd = .evtCredit h ∧ h.op = 0x21 ∧ ws = h.extra) →
    let mine : Prop := spsPortUp s false = true ∧ started s = true ∧ h.addr.toNat = chainAddr s ∧ chainAddr s ≠ 0x7F ∧ h.addr ≠ 0x7E
    let a := wordAddr (h.w1.toNat % 2 ^ 32)
    let n := h.len.toNat
    (spsPortUp s false = false → exec cmd s = .next s) ∧
    (spsPortUp s false = true → ¬mine → spsPortUp s true = true → exec cmd s = .next { s with spsDown := s.spsDown ++ [(h, ws)] }) ∧
    (spsPortUp s false = true → ¬mine → spsPortUp s true = false →
      exec cmd s = .next (if started s = false ∨ h.addr = 0x7E then s else spsResp h 12 [] s)) ∧
    (mine → lenOk h ws.length = false → ∃ u, exec cmd s = .next (spsResp h 10 [] (raiseEvent 0 5 0x162 0 u)) ∧
      u.rf 0x6000C 0 32 = min (s.rf 0x6000C 0 32 + 1) (2 ^ 32 - 1) ∧ (∀ x, x ≠ 0x6000C → u.reg x = s.reg x) ∧ { u with regs := s.regs } = s) ∧
    (mine → h.op = 0x21 → n = 0 → ws = [] → ∃ t, exec cmd s = .next t ∧ t.rf 0x60008 16 9 = min 511 (s.rf 0x60008 16 9 + h.w1.toNat % 512) ∧
      (∀ x, x ≠ 0x60008 → t.reg x = s.reg x) ∧ { t with regs := s.regs } = s) ∧
    (h.op.toNat ≤ 4 → mine → lenOk h ws.length = true →
      (gateAllows s h = false → exec cmd s = .next (spsResp h 12 [] s)) ∧
      (gateAllows s h = true → 64 ≤ s.spsReqs.length → exec cmd s = .next s) ∧
      (gateAllows s h = true → s.spsReqs = [] → h.op.toNat ≤ 2 →
        (csrOneBlock s a n = false → exec cmd s = .next (spsResp h 5 [] s)) ∧
        (csrOneBlock s a n = true → h.op = 1 → (csrReads (n / 4) a s).2.spsReqs = [] →
          exec cmd s = .next (spsResp h 0 (csrReads (n / 4) a s).1 (csrReads (n / 4) a s).2)) ∧
        (csrOneBlock s a n = true → h.op = 2 → (csrWrites ws a s).spsReqs = [] → exec cmd s = .next (spsResp h 0 [] (csrWrites ws a s)))) ∧
      (gateAllows s h = true → s.spsReqs.length < 64 → 3 ≤ h.op.toNat → memOneBlock h = false → exec cmd s = .next (spsResp h 5 [] s)) ∧
      (∀ l c, gateAllows s h = true → s.spsReqs = [] → 3 ≤ h.op.toNat → memOneBlock h = true → memPlan h = [(l, c)] →
        ∃ it t, exec cmd s = .next t ∧ t.pool = s.pool ++ [it] ∧ it.loc = .engine ∧
          it.pkt.dst = gfa (dFab h.w1) (dEp h.w1) (memOff h) ∧ it.pkt.srcEp = 4 ∧ it.pkt.eng = 2 ∧ it.pkt.srcCore = 0 ∧ it.pkt.tag = 0 ∧
          it.pkt.job = 0 ∧ it.pkt.ord = 1 ∧ it.pkt.epoch = 0 ∧ it.pkt.flag = false ∧
          (h.op = 3 → it.pkt.op = 1 ∧ it.pkt.var = BitVec.ofNat 4 c) ∧
          (h.op = 4 → c = 0 → it.pkt.op = 2 ∧ ∀ w0 w1 : Word, ws = [w0, w1] → it.pkt.p0 = BitVec.ofNat 64 (w0.toNat + 2 ^ 32 * w1.toNat)) ∧
          (h.op = 4 → c ≠ 0 → it.pkt.op = 3 ∧ it.pkt.len = BitVec.ofNat 4 c ∧ packNat it.pkt.data = ws.foldr (fun w m => w.toNat + 2 ^ 32 * m) 0) ∧
          (∃ r, t.spsReqs = [r] ∧ r.hdr = h ∧ r.waiting = [(0, 0)]) ∧
          { t with pool := s.pool, seqs := s.seqs, nextId := s.nextId, spsReqs := s.spsReqs } = s))

/-- R397–R399, R402, R405: a started device without an address takes the one ASSIGN gives and answers ASSIGN_ACK, an ASSIGN
with a payload is rejected; every other passes ASSIGN on, which comes back as ASSIGN_END from the end of the chain. UNASSIGN
gives addresses up; what comes from DN goes out of UP, or waits for it while 32 KiB hold it, and acknowledgements are
counted. -/
def Claims.Enumeration : Prop :=
  (∀ (h : SpsHdr) (s : State), s.quench = false → spsPortUp s false = true → started s = true → h.op = 0x08 →
    let here : Prop := chainAddr s = 0x7F ∧ h.addr = 0x7F
    (¬here → spsPortUp s true = true → exec (.assign h) s = .next { s with spsDown := s.spsDown ++ [(h, h.extra)] }) ∧
    (¬here → spsPortUp s true = false → h.addr ≠ 0x7E → exec (.assign h) s =
      .next { s with hostTx := s.hostTx ++ [⟨BitVec.ofNat 7 (chainAddr s), 0x0A, h.tag, 0, 0, 0, []⟩] }) ∧
    (here → h.len ≠ 0 ∨ h.extra ≠ [] → ∃ u, exec (.assign h) s = .next (spsResp h 10 [] (raiseEvent 0 5 0x162 0 u)) ∧
      (∀ x, x ≠ 0x6000C → u.reg x = s.reg x) ∧ { u with regs := s.regs } = s) ∧
    (here → h.len = 0 → h.extra = [] → h.w1.toNat % 128 ≤ 63 → ∃ u : State, u.rf 0x10 0 7 = h.w1.toNat % 128 ∧ (∀ x, x ≠ 0x10 → u.reg x = s.reg x) ∧
      { u with regs := s.regs } = s ∧ exec (.assign h) s = .next { u with hostTx := s.hostTx ++ [assignReply u h.tag] }) ∧
    (here → h.len = 0 → h.extra = [] → 63 < h.w1.toNat % 128 → exec (.assign h) s = .next (spsResp h 11 [] s))) ∧
  (∀ (s : State), s.quench = false → spsPortUp s false = true → started s = true ∨ spsPortUp s true = true →
    ∃ t, exec .unassign s = .next t ∧ t.rf 0x10 0 7 = 0x7F ∧ t.rf 0x10 8 6 = 0 ∧ (∀ x, x ≠ 0x10 → t.reg x = s.reg x) ∧
      t.spsDown = (if spsPortUp s true = true then s.spsDown ++ [(⟨0x7E, 0x0B, 0, 0, 0, []⟩, [])] else s.spsDown) ∧
      { t with regs := s.regs, spsDown := s.spsDown } = s) ∧
  (∀ (h : SpsHdr) (s : State), s.quench = false →
    (spsPortUp s false = false ∨ started s = false → exec (.assign h) s = .next s) ∧
    (spsPortUp s false = false ∨ started s = false ∧ spsPortUp s true = false → exec .unassign s = .next s)) ∧
  ∀ (p : SpsUp) (cmd : Instr) (op : BitVec 8) (s : State), s.quench = false →
    (cmd = .assignEnd p ∧ op = 0x0A ∨ cmd = .resp p ∧ op = 0x10 ∨ cmd = .event (some p) ∧ op = 0x20 ∨ cmd = .assignAck p ∧ op = 0x09) →
    let room : Prop := spsPortUp s false = true ∨ waitBytes s + 16 + 4 * p.data.length ≤ 32768
    (spsPortUp s true = false ∨ p.op ≠ op ∨ ¬room → exec cmd s = .next s) ∧
    (spsPortUp s true = true → p.op = op → room → ∃ t, exec cmd s = .next t ∧
      t.hostTx = (if spsPortUp s false = true then s.hostTx ++ [p] else s.hostTx) ∧
      t.hostWait = (if spsPortUp s false = true then s.hostWait else s.hostWait ++ [(false, p)]) ∧
      (op ≠ 0x09 ∨ chainAddr s = 0x7F → t.regs = s.regs) ∧
      (op = 0x09 → chainAddr s ≠ 0x7F → t.rf 0x10 8 6 = min (s.rf 0x10 8 6 + 1) 63) ∧
      (∀ x, x ≠ 0x10 → t.reg x = s.reg x) ∧ { t with regs := s.regs, hostTx := s.hostTx, hostWait := s.hostWait } = s)

/-- R323, R396, R397, R408: a replay is counted, and the sixteenth of one group in succession takes the port DOWN with C2
event 0x160, or 0x161 where devices are below; a port that comes UP sends what waited, and none comes UP while T0's comb of
role 7 is dark or before the links are clocked (log 40). An event costs a credit. -/
def Claims.HostPorts : Prop :=
  ∀ (dn again : Bool) (s : State), s.quench = false →
    let b := if dn = true then 2 else 0
    let c := if dn = true then 16 else 0
    let k := if dn = true then 1 else 0
    let n := if again = true then Tab.get 0 s.spsFails k + 1 else 1
    let ev (u : State) : State := if dn = true then (if chainBelow s = 0 then u else raiseEvent 2 5 0x161 0 u) else raiseEvent 2 5 0x160 0 u
    (spsPortUp s dn = false → exec (.spasenReplay dn again) s = .next s ∧ exec (.spasenPortDown dn) s = .next s) ∧
    (spsPortUp s dn = true → (∃ u, exec (.spasenPortDown dn) s = .next (ev u) ∧ spsPortUp u dn = false ∧ u.rf 0x60000 b 2 = 1 ∧
        (∀ x, x ≠ 0x60000 → u.reg x = s.reg x) ∧ { u with regs := s.regs } = s) ∧
      (n < 16 → ∃ t, exec (.spasenReplay dn again) s = .next t ∧ t.rf 0x60010 c 16 = min (s.rf 0x60010 c 16 + 1) 65535 ∧
        Tab.get 0 t.spsFails k = n ∧ (∀ x, x ≠ 0x60010 → t.reg x = s.reg x) ∧ { t with regs := s.regs, spsFails := s.spsFails } = s) ∧
      (16 ≤ n → ∃ u, exec (.spasenReplay dn again) s = .next (ev u) ∧ spsPortUp u dn = false ∧
        u.rf 0x60010 c 16 = min (s.rf 0x60010 c 16 + 1) 65535 ∧ Tab.get 0 u.spsFails k = 0 ∧
        (∀ x, x ≠ 0x60000 → x ≠ 0x60010 → u.reg x = s.reg x) ∧ { u with regs := s.regs, spsFails := s.spsFails } = s)) ∧
    (linkClocked s = false ∨ spsPortUp s dn = true ∨ roleDark s 0 7 = true → exec (.spasenPortUp dn) s = .next s) ∧
    (linkClocked s = true → spsPortUp s dn = false → roleDark s 0 7 = false → ∃ t, exec (.spasenPortUp dn) s = .next t ∧ spsPortUp t dn = true ∧
      (∀ x, x ≠ 0x60000 → t.reg x = s.reg x) ∧ (dn = true → { t with regs := s.regs } = s) ∧
      (dn = false → t.hostWait = [] ∧ (∃ l, t.hostTx = s.hostTx ++ l ∧ l.length = s.hostWait.length ∧ ∀ p ∈ l, p ∈ s.hostWait.map Prod.snd) ∧
        { t with regs := s.regs, hostTx := s.hostTx, hostWait := s.hostWait } = s)) ∧
    (s.events = [] ∨ s.rf 0x60008 16 9 = 0 ∨ spsPortUp s false = false → exec (.event none) s = .next s) ∧
    (∀ e es, s.events = e :: es → s.rf 0x60008 16 9 ≠ 0 → spsPortUp s false = true → ∃ t, exec (.event none) s = .next t ∧ t.events = es ∧
      t.evLost = false ∧ t.rf 0x60008 16 9 = s.rf 0x60008 16 9 - 1 ∧
      t.hostTx = s.hostTx ++ [⟨BitVec.ofNat 7 (chainAddr s), 0x20, 0, 0, e.func, 0, eventWords e s.evLost⟩] ∧
      (∀ x, x ≠ 0x60008 → t.reg x = s.reg x) ∧ { t with regs := s.regs, events := s.events, evLost := s.evLost, hostTx := s.hostTx } = s)

/-- R6–R8, R17, R70, R299, R365, R389, R410–R412, R428: an interface reaches the control space once the start is complete,
JTAG where debug is open, and SMBus writes where SmbWrite allows it. A write of a register, whatever it holds, changes only
the bits its access types let it, and nothing in quench, outside a block or without power (which sets PWR_ACCESS); the low
word of a 64-bit register is held for its high word. -/
def Claims.RegisterAccesses : Prop :=
  (∀ (i : Iface) (a v : Word) (s : State), s.quench = true ∨ mayWrite i s = false → exec (.registerWrite i a v) s = .next s) ∧
  (∀ s : State, s.quench = false →
    (mayWrite .spasen s = true ↔ s.rf 0x300000 29 2 ≠ 0) ∧ mayWrite .tongs s = true ∧
    (mayWrite .smbus s = true ↔ s.pins.vio = true ∧ s.rf 0x300000 29 2 ≠ 0 ∧ s.rf 0x60004 0 1 = 1) ∧
    (mayWrite .jtag s = true ↔ s.pins.vio = true ∧ s.rf 0x300000 26 1 = 1)) ∧
  (∀ (i : Iface) (addr v : Word) (s : State), mayWrite i s = true → s.quench = false →
    let a := wordAddr addr.toNat
    let old := s.reg a
    (blockAnswers s a = false → exec (.registerWrite i addr v) s = .next (setHold i none s)) ∧
    (blockAnswers s a = true → csOff s a = true → ∃ t, exec (.registerWrite i addr v) s = .next t ∧ t.rf 0x50008 0 1 = 1 ∧
      (∀ x, x ≠ 0x50008 → t.reg x = s.reg x) ∧ { t with regs := s.regs, hold := s.hold } = s) ∧
    (blockAnswers s a = true → csOff s a = false →
      (isLow64 a = true → exec (.registerWrite i addr v) s = .next (setHold i (some (a, v)) s)) ∧
      (isLow64 a = false → isHigh64 a = true → ∀ w, Tab.get none s.hold (ifaceKey i) = some (a - 4, w) →
        exec (.registerWrite i addr v) s = .next (pairWrite (a - 4) w v (setHold i none s))) ∧
      (isLow64 a = false → isHigh64 a = false → exec (.registerWrite i addr v) s = .next (regWrite i a v (setHold i none s))) ∧
      (∀ r, regInfo a = some r → [1, 3, 4, 8, 0x48, 0x49, 0x4A, 0x4B, 0x4C, 0x4D, 0x4E, 0x4F].contains (a / 0x10000) = true →
        a ≠ 0x10800 → a ≠ 0x8F000 → ∃ t, exec (.registerWrite i addr v) s = .next t ∧
          t.reg a = (old &&& ~~~BitVec.ofNat 32 (r.rw + if s.locked = true then 0 else r.rwl) &&& ~~~(BitVec.ofNat 32 r.w1c &&& v)) |||
            (v &&& BitVec.ofNat 32 (r.rw + if s.locked = true then 0 else r.rwl)) ∧
          (∀ x, x ≠ a → t.reg x = s.reg x) ∧ { t with regs := s.regs, hold := s.hold } = s))) ∧
  (∀ (i : Iface) (v : Word) (s : State), mayWrite i s = true → s.quench = false → s.recovery = false → s.devState = 0 →
    let put (a : Nat) (x : Word) : Prop := ∃ t, exec (.registerWrite i (BitVec.ofNat 32 a) v) s = .next t ∧ t.reg a = x ∧
      (∀ y, y ≠ a → y ≠ 0x20004 → t.reg y = s.reg y) ∧ { t with regs := s.regs, hold := s.hold } = s
    put 0x10010 ((s.reg 0x10010 &&& 0xFFFFFE00) ||| (v &&& 0x1FF)) ∧ put 0x80000 (s.reg 0x80000) ∧
    put 0x50008 (if v.getLsbD 0 = true then s.reg 0x50008 &&& 0xFFFFFFFE else s.reg 0x50008) ∧
    (∀ n < 15, (s.locked = true → put (0x20100 + 4 * n) (s.reg (0x20100 + 4 * n))) ∧
      (s.locked = false → put (0x20100 + 4 * n) ((s.reg (0x20100 + 4 * n) &&& 0xFFFFF000) ||| (v &&& 0xFFF)))) ∧
    put 0x70000 (s.reg 0x70000)) ∧
  ∀ (i : Iface) (c : CoreId) (v w : Word) (s : State), mayWrite i s = true → s.quench = false → s.recovery = false →
    csOff s (coreBase c + 0x14) = false → Tab.get none s.hold (ifaceKey i) = some (coreBase c + 0x10, w) →
    ∃ t, exec (.registerWrite i (BitVec.ofNat 32 (coreBase c + 0x14)) v) s = .next t ∧ t.reg64 (coreBase c + 0x10) = v ++ w ∧
      (∀ x, x ≠ coreBase c + 0x10 → x ≠ coreBase c + 0x14 → t.reg x = s.reg x) ∧ { t with regs := s.regs, hold := s.hold } = s

/-- R6, R70, R307, R411: a read of DBG_DATA's low word answers the word SITE_CORE_DBG_SEL names and latches the high word for
its interface, which the next read of the high word answers; a write of the low word waits for the high, which writes both,
or the low word as it stands where none waits. Both reach only a core that is not running; of another they answer 0, write
nothing and mark the refusal. -/
def Claims.DebugAccesses : Prop :=
  ∀ (i : Iface) (c : CoreId) (hi : Bool) (v : Word) (s : State), s.quench = false → s.recovery = false →
    let k := ifaceKey i
    let lo := coreBase c + 0x28
    let d := if dbgOpen (s.core c) = true then dbgGet s c (s.reg (coreBase c + 0x24)) else 0
    let marked : Core := { s.core c with refused := (s.core c).refused || !dbgOpen (s.core c) }
    let held := Tab.get none s.hold k
    (reaches i s = false → exec (.debugDataRead i c hi) s = .next s) ∧ (mayWrite i s = false → exec (.debugDataWrite i c hi v) s = .next s) ∧
    (reaches i s = true → csOff s lo = false →
      ∃ t, exec (.debugDataRead i c hi) s = .next t ∧ (∀ e, e ≠ c.val → t.core e = s.core e) ∧
        (hi = false → Tab.get 0 t.reads k = d.extractLsb' 0 32 ∧ Tab.get none t.latch k = some (lo, d.extractLsb' 32 32) ∧ t.core c = marked) ∧
        (hi = true → Tab.get none t.latch k = none ∧
          (∀ w, Tab.get none s.latch k = some (lo, w) → Tab.get 0 t.reads k = w ∧ t.core c = s.core c) ∧
          ((∀ w, Tab.get none s.latch k ≠ some (lo, w)) → Tab.get 0 t.reads k = d.extractLsb' 32 32 ∧ t.core c = marked)) ∧
        { t with reads := s.reads, latch := s.latch, cores := s.cores, wires := s.wires } = s) ∧
    (mayWrite i s = true → csOff s lo = false →
      ∃ t, exec (.debugDataWrite i c hi v) s = .next t ∧ (∀ e, e ≠ c.val → t.core e = s.core e) ∧
        (hi = false → Tab.get none t.hold k = some (lo, v) ∧ t.core c = s.core c) ∧
        (hi = true → Tab.get none t.hold k = none ∧
          (dbgOpen (s.core c) = false → t.core c = { s.core c with refused := true }) ∧
          (dbgOpen (s.core c) = true →
            (∀ w, held = some (lo, w) → t.core c = dbgSet (s.reg (coreBase c + 0x24)) (v ++ w) (s.core c)) ∧
            ((∀ w, held ≠ some (lo, w)) → t.core c = dbgSet (s.reg (coreBase c + 0x24)) (v ++ d.extractLsb' 0 32) (s.core c)))) ∧
        { t with hold := s.hold, cores := s.cores, wires := s.wires } = s)

/-- R17, R337, R406, R410, R421: OPT_IMG_DATA gives the image word by word: its type, the serial number, the generation, the
temperature and the word count, then the ring, the codes and the segments of every lane (the layout is the model's choice,
log 21), and moves its address on; the fabric number is assigned once, over the Spasen link after the start; SEC_EXTEND
extends the measurement register it selects with SHAKE256 of the data (the function FIPS 202 gives that name, log 39). -/
def Claims.SpecialRegisters : Prop :=
  ∀ (i : Iface) (v : Word) (s : State), s.quench = false →
    let m := 0x300100 + 0x40 * (6 + s.rf 0x300440 0 1)
    let old := (List.range 16).map (fun w => s.reg (m + 4 * w))
    let new := shake512 (wordBytes old ++ dwordBytes [shake512 (wordBytes ((List.range 16).map (fun w => s.reg (0x300400 + 4 * w))))])
    let w := s.rf 0xA0020 0 16
    let k := ifaceKey i
    (reaches i s = false → exec (.imageRead i) s = .next s) ∧
    (reaches i s = true → s.recovery = true → ∃ t, exec (.imageRead i) s = .next t ∧ Tab.get 0 t.reads k = 0 ∧
      Tab.get none t.latch k = none ∧ { t with reads := s.reads, latch := s.latch } = s) ∧
    (reaches i s = true → s.recovery = false → s.devState = 2 → ∃ t, exec (.imageRead i) s = .next t ∧ Tab.get 0 t.reads k = 0x0FF00FF0 ∧
      t.rf 0x50008 0 1 = 1 ∧ (∀ x, x ≠ 0x50008 → t.reg x = s.reg x) ∧ { t with regs := s.regs, reads := s.reads, latch := s.latch } = s) ∧
    (reaches i s = true → s.recovery = false → s.devState ≠ 2 → (∀ x, Tab.get none s.latch k ≠ some (0xA0020, x)) → ∃ t, exec (.imageRead i) s = .next t ∧
      (s.image = none → Tab.get 0 t.reads k = Config.imageWord w) ∧
      (∀ m, s.image = some m →
        let got := Tab.get 0 t.reads k
        (w = 0 → got = 1) ∧ (w = 1 → got = s.fuses.serial.extractLsb' 0 32) ∧ (w = 2 → got = s.fuses.serial.extractLsb' 32 32) ∧
        (w = 3 → got = BitVec.ofNat 32 m.gen) ∧ (w = 4 → got = m.temp.signExtend 32) ∧ (w = 5 → got = BitVec.ofNat 32 imageWords) ∧
        ∀ n < laneCount, (w = 16 + 2 * n → got = laneWord0 (laneIn m.opt (noLane n))) ∧
          (w = 17 + 2 * n → got = laneWord1 (laneIn m.opt (noLane n)))) ∧
      t.rf 0xA0020 0 16 = (s.rf 0xA0020 0 16 + 1) % 65536 ∧ (∀ x, x ≠ 0xA0020 → t.reg x = s.reg x) ∧
      { t with regs := s.regs, reads := s.reads, latch := s.latch } = s) ∧
    (started s = false → exec (.fabricNumberAssign v) s = .next s) ∧
    (started s = true → s.recovery = true ∨ s.fabValid = true ∨ v.getLsbD 8 = false →
      ∃ t, exec (.fabricNumberAssign v) s = .next t ∧ { t with hold := s.hold } = s) ∧
    (started s = true → s.recovery = false → s.fabValid = false → v.getLsbD 8 = true → ∃ t, exec (.fabricNumberAssign v) s = .next t ∧
      t.fabValid = true ∧ t.fabNum = v.toNat % 64 ∧ t.cores = s.cores ∧ t.mem = s.mem ∧ t.pool = s.pool) ∧
    (s.rf 0x300000 29 2 ≠ 1 → exec .secExtend s = .next s) ∧
    (s.rf 0x300000 29 2 = 1 → ∃ t, exec .secExtend s = .next t ∧ (∀ w < 16, t.reg (m + 4 * w) = new.extractLsb' (32 * w) 32) ∧
      (∀ x, (∀ w < 16, x ≠ m + 4 * w) → t.reg x = s.reg x) ∧ { t with regs := s.regs } = s)

/-! ### Guests (R429–R432) -/

/-- R430–R432: a guest's request that a rule lets pass goes out as the tongs' own, with its job from the rule; one that
none lets pass is answered PERM, counted and logged as C0 event 0x1C0, and past ViolLimit in a millisecond as C2 event
0x1C1, once a millisecond. A guest's response completes the request it answers, with those the gateway merged into it, and
any other is a violation. -/
def Claims.GuestRequests : Prop :=
  ∀ (g : Fin 3) (p : Pkt) (s : State), s.quench = false →
    let run := exec (.guestRequest g p) s
    let q := asGuest s g p
    let few : Prop := ((Tab.get [] s.viol g).filter (fun t => decide (s.now < t + 250000))).length < s.rf 0x201000 0 16
    let blames (s t : State) : Prop := ∃ u, t = raiseEvent 0 27 0x1C0 (BitVec.ofNat 32 g) u ∧
      u.rf (0x201010 + 4 * g) 0 32 = min (s.rf (0x201010 + 4 * g) 0 32 + 1) (2 ^ 32 - 1) ∧ (∀ x, x ≠ 0x201010 + 4 * g.val → u.reg x = s.reg x) ∧
      { u with regs := s.regs, viol := s.viol } = s
    let past : Prop := s.rf 0x201000 0 16 ≤ ((Tab.get [] s.viol g).filter (fun t => decide (s.now < t + 250000))).length ∧
      (Tab.get 0 s.violT g = 0 ∨ Tab.get 0 s.violT g + 250000 ≤ s.now + 1)
    (guestOn s g = false → run = .next s) ∧
    (guestOn s g = true → isResp p = false → (List.range 64).find? (rulePasses s g q) = none → few →
      ∃ t, run = .next t ∧ blames { s with guestOut := s.guestOut ++ [(g, respPkt q 6 (ackCount q) false 0 [])] } t) ∧
    (∀ n, guestOn s g = true → isResp p = false → (List.range 64).find? (rulePasses s g q) = some n → s.guestReq = [] →
      ∃ t it, run = .next t ∧ t.pool = s.pool ++ [it] ∧ it.loc = .engine ∧ t.guestReq = [(0, g, q)] ∧
        it.pkt = { reissued s g q n 0 with seq := it.pkt.seq } ∧ it.pkt.srcEp = 4 ∧ it.pkt.srcCore = BitVec.ofNat 8 (1 + g) ∧ it.pkt.ord = 1 ∧
        it.pkt.job = BitVec.ofNat 12 (s.rf (0x200008 + 16 * n) 0 12) ∧ it.pkt.dst = p.dst ∧ it.pkt.op = p.op ∧ it.pkt.data = p.data ∧
        { t with pool := s.pool, guestReq := s.guestReq, seqs := s.seqs, nextId := s.nextId } = s) ∧
    (guestOn s g = true → isResp p = true → (∀ i ∈ s.pool, i.loc ≠ .ready (guestEp g)) → few → ∃ t, run = .next t ∧ blames s t) ∧
    (guestOn s g = true → isResp p = true → (∀ i ∈ s.pool, i.loc ≠ .ready (guestEp g)) → past → ∃ t, blames s t ∧
      run = .next (raiseEvent 2 27 0x1C1 (BitVec.ofNat 32 g) { t with violT := Tab.put 0 s.violT g (s.now + 1) })) ∧
    (∀ it, guestOn s g = true → isResp p = true → s.pool.find? (fun i => decide (i.loc = .ready (guestEp g)) && sameSrc i.pkt p && decide (i.pkt.tag = p.tag)) = some it →
      (s.merged it.id = [] → run = .next (sendBack (guestEp g) it { p with srcFab := it.pkt.srcFab, job := it.pkt.job, seq := it.pkt.seq } (s.dropItem it.id))) ∧
      (s.merged it.id ≠ [] → compStatus p ≠ 0 → run = .next (respondAll (guestEp g) it (compStatus p) s)))

/-- R183, R431, R432: a request for a guest passes where its inbound allow lets its class in; it is answered ABORTED when
its job is killed, FENCED while the guests are out of service, NOT_POWERED when no guest is there, and else PERM, each with
the requests merged into it at the gateway. -/
def Claims.GuestInbound : Prop :=
  ∀ (g : Fin 3) (id : Nat) (it : Item) (s : State), s.quench = false → s.item id = some it → it.loc = .home (guestEp g) →
    it.held = false → it.lead = none → isResp it.pkt = false →
    let e := guestEp g
    let run := exec (.guestInboundRequest g id) s
    (s.armed it.pkt.job.toNat = true → run = .next (respondAll e it 9 s)) ∧
    (s.armed it.pkt.job.toNat = false → s.funcState 14 ≠ 0 → run = .next (respondAll e it 2 s)) ∧
    (s.armed it.pkt.job.toNat = false → s.funcState 14 = 0 → guestOn s g = false → run = .next (respondAll e it 3 s)) ∧
    (∀ k, s.armed it.pkt.job.toNat = false → guestOn s g = true → fwClass it.pkt = some k → s.rf (0x202000 + 0x80 * g.val + 4 * inboundEp s it) k 1 = 1 →
      ∃ t, run = .next t ∧ t.guestOut = s.guestOut ++ [(g, guestPkt (s.merged id) it.pkt)] ∧ (s.merged id = [] → guestPkt (s.merged id) it.pkt = it.pkt) ∧ t.item id = some { it with loc := .ready e, cred := none } ∧
        { t with guestOut := s.guestOut, pool := s.pool, credOwed := s.credOwed } = s) ∧
    (s.armed it.pkt.job.toNat = false → guestOn s g = true → (∀ k, fwClass it.pkt = some k → s.rf (0x202000 + 0x80 * g.val + 4 * inboundEp s it) k 1 = 0) →
      run = .next (violation g (respondAll e it 6 s)))

/-! ### The command ring, flash and fuses (R375, R376, R409, R419–R427) -/

/-- R409, R423, R426, R427, R375: a record written in one piece is committed and becomes the current record of its kind, or
its slot's image; outside 0–85 °C, while another record is open or with bad arguments the command is refused with its
reason, and at a program error the record stays without a commit word. A chunk that does not reach the record's length
leaves it open. -/
def Claims.FlashCommands : Prop :=
  (∀ (i status reason : Nat) (s : State), i < 32 → s.events.length < 256 → ∃ t, t = ringFinish i status reason s ∧
    t.rf (ringWord i 0) 24 8 = status % 256 ∧ (status = 2 → t.rf (ringWord i 15) 0 8 = reason % 256) ∧
    t.rf 0x60020 0 6 = (s.rf 0x60020 0 6 + 1) % 64 ∧ t.events.length = s.events.length + 1 ∧
    (∀ x, x ≠ ringWord i 0 → x ≠ ringWord i 15 → x ≠ 0x60020 → t.reg x = s.reg x) ∧
    { t with regs := s.regs, events := s.events, evSeq := s.evSeq } = s) ∧
  ∀ (ok : Bool) (i kind len : Nat) (s : State), s.quench = false → firmwareRuns s = true → ringHead s = some i → s.recovery = false →
    s.rf (ringWord i 0) 0 8 = 1 → ringArg s i 1 = kind → ringArg s i 2 = len →
    let run := exec (.flashRecordWrite ok) s
    let body := staged s len
    let room := if kind = 1 then s.flash.filter (fun r => !decide (r.kind = 1 ∧ r.slot = 1 - s.slotBoot)) else (makeRoom kind len s).flash
    let valid : Prop := kind ∈ [1, 3, 4, 5] ∧ 0 < len ∧ len ≤ 524288 ∧ ringArg s i 3 = 0 ∧ ringArg s i 4 = len ∧ recordBytes len ≤ areaBytes kind
    let warm : Prop := tongsWithin s 0 85 = true
    (valid → s.fOpen = none → recFits kind len s = true → warm → ok = true → ∃ t u, run = .next t ∧ t = ringFinish i 1 0 u ∧ u.fOpen = none ∧
      (∃ r, u.flash = room ++ [r] ∧ r.kind = kind ∧ r.body = body ∧ r.done = true ∧ (∀ x ∈ room, x.seq < r.seq) ∧
        (kind = 1 → r.slot = 1 - s.slotBoot) ∧ (kind ≠ 1 → newestRec u kind = some r)) ∧
      (∀ r, inArea kind r = false → (r ∈ u.flash ↔ r ∈ s.flash)) ∧ { u with flash := s.flash, flashSeq := s.flashSeq, fOpen := s.fOpen } = s) ∧
    (valid → s.fOpen ≠ none → run = .next (ringFinish i 2 2 s)) ∧
    (valid → s.fOpen = none → recFits kind len s = false → run = .next (ringFinish i 2 3 s)) ∧
    (valid → s.fOpen = none → recFits kind len s = true → ¬warm →
      run = .next (ringFinish i 2 1 (raiseEvent 0 2 0x146 30 (s.setRf 0x30000 30 1 1)))) ∧
    (valid → s.fOpen = none → recFits kind len s = true → warm → ok = false → ∃ u, run = .next (ringFinish i 2 7 (raiseEvent 2 6 0x181 0 u)) ∧
      u.fOpen = none ∧ (∃ r, u.flash = room ++ [r] ∧ r.kind = kind ∧ r.done = false) ∧
      u.rf 0x400004 0 16 = min (s.rf 0x400004 0 16 + 1) 65535 ∧ (∀ x, x ≠ 0x400004 → u.reg x = s.reg x)) ∧
    (kind ∉ [1, 3, 4, 5] ∨ ringArg s i 4 = 0 ∨ 524288 < ringArg s i 4 ∨ len < ringArg s i 3 + ringArg s i 4 ∨ areaBytes kind < recordBytes len →
      run = .next (ringFinish i 2 3 s)) ∧
    (∀ old n, s.fOpen = some ⟨kind, len, old⟩ → kind ∈ [1, 3, 4, 5] → recordBytes len ≤ areaBytes kind → ringArg s i 3 = old.length → 0 < old.length →
      ringArg s i 4 = n → 0 < n → n ≤ 524288 → old.length + n < len → ok = true →
      run = .next (ringFinish i 1 0 { s with fOpen := some ⟨kind, len, old ++ staged s n⟩ })) ∧
    ∀ v, exec (.flashSlotSwitch v ok) s = .next s ∧ exec .attestationReport s = .next s ∧ exec .fuseSequence s = .next s ∧
      exec (.saveCalibrationImage ok) s = .next s

/-- R375, R422, R425, R427: a slot switch to an image that verifies records the slot for the next start. A report is taken
from the registers as they stand and the nonce given, its buffer reads 0 while it is being made (that it is made in two
commands is the model's choice, log 44). A save takes a snapshot, whose image becomes the calibration record. Each flash
write keeps to its temperature window. -/
def Claims.SecureCommands : Prop :=
  (∀ (s : State), s.quench = false → ringHead s = none ∨ (firmwareRuns s = false ∧ s.recovery = false) → ∀ v ok,
    exec (.flashRecordWrite ok) s = .next s ∧ exec (.flashSlotSwitch v ok) s = .next s ∧ exec .attestationReport s = .next s ∧
      exec .fuseSequence s = .next s ∧ exec (.saveCalibrationImage ok) s = .next s) ∧
  ∀ (i : Nat) (s : State), s.quench = false → firmwareRuns s = true → ringHead s = some i → s.recovery = false →
    let code := s.rf (ringWord i 0) 0 8
    let slot := ringArg s i 1
    let cold := raiseEvent 0 2 0x146 30 (s.setRf 0x30000 30 1 1)
    (code = 2 → 1 < slot → ∀ v ok, exec (.flashSlotSwitch v ok) s = .next (ringFinish i 2 3 s)) ∧
    (code = 2 → slot ≤ 1 → tongsWithin s 0 85 = false → ∀ v ok, exec (.flashSlotSwitch v ok) s = .next (ringFinish i 2 1 cold)) ∧
    (code = 2 → slot ≤ 1 → tongsWithin s 0 85 = true →
      (∀ v ok, v = false ∨ headerOk s slot = false → exec (.flashSlotSwitch v ok) s = .next (ringFinish i 2 4 s)) ∧
      (headerOk s slot = true → ∃ t u, exec (.flashSlotSwitch true true) s = .next t ∧ t = ringFinish i 1 0 u ∧ selectedSlot u = slot ∧
        (∀ r, r.kind ≠ 2 → (r ∈ u.flash ↔ r ∈ s.flash)) ∧ { u with flash := s.flash, flashSeq := s.flashSeq } = s) ∧
      (headerOk s slot = true → s.fOpen = none → ∃ u, exec (.flashSlotSwitch true false) s = .next (ringFinish i 2 7 (raiseEvent 2 6 0x181 0 u)) ∧
        u.rf 0x400004 0 16 = min (s.rf 0x400004 0 16 + 1) 65535 ∧ u.flash = s.flash)) ∧
    (code = 3 → s.rf 0x300000 21 1 = 0 → ∃ t, exec .attestationReport s = .next t ∧ t.rf 0x300000 21 1 = 1 ∧
      t.report.length = 192 ∧ t.report.take 2 = [1, 768] ∧ (∀ k < 8, t.report.getD (2 + k) 0 = s.reg (ringWord i (1 + k))) ∧
      (∀ n, 0x310000 ≤ n → n < 0x320000 → regNow t n = 0) ∧ (∀ x, x ≠ 0x300000 → t.reg x = s.reg x) ∧
      { t with report := s.report, regs := s.regs } = s) ∧
    (code = 3 → s.rf 0x300000 21 1 = 1 → ∃ u, exec .attestationReport s = .next (ringFinish i 1 0 u) ∧ u.rf 0x300000 21 1 = 0 ∧
      (∀ n < 192, regNow u (0x310000 + 4 * n) = s.report.getD n 0) ∧ (∀ x, x ≠ 0x300000 → u.reg x = s.reg x) ∧ { u with regs := s.regs } = s) ∧
    (code = 5 → s.fOpen ≠ none → ∀ ok, exec (.saveCalibrationImage ok) s = .next (ringFinish i 2 2 s)) ∧
    (code = 5 → s.fOpen = none → tongsWithin s 0 85 = false → ∀ ok, exec (.saveCalibrationImage ok) s = .next (ringFinish i 2 1 cold)) ∧
    (code = 5 → s.fOpen = none → tongsWithin s 0 85 = true → ∃ u, exec (.saveCalibrationImage true) s = .next (ringFinish i 1 0 u) ∧
      u.images = s.images + 1 ∧ (∃ m r, u.image = some m ∧ m.gen = s.images + 1 ∧ m.temp = hearthTemp s ∧ m.opt = s.optics ∧
        newestRec u 4 = some r ∧ r.body = wordBytes (imageList m s.fuses.serial) ∧ r.done = true) ∧ (∀ r, r.kind ≠ 4 → (r ∈ u.flash ↔ r ∈ s.flash))) ∧
    (code = 0 ∨ 5 < code → exec .attestationReport s = .next (ringFinish i 4 0 s))

/-- R376, R420: a fuse command within 10–60 °C begins a sequence, which burns the SecVersion or revokes the key when it
ends; outside the window nothing is burnt, a sequence under way is spent, and the command is refused. -/
def Claims.FuseCommands : Prop :=
  (∀ (i : Nat) (s : State), s.quench = false → firmwareRuns s = true → ringHead s = some i → s.recovery = false → s.rf (ringWord i 0) 0 8 = 4 →
    let kind := ringArg s i 1
    let v := ringArg s i 2
    (s.fuseSeq = none → fuseReason kind v s ≠ 0 → exec .fuseSequence s = .next (ringFinish i 2 (fuseReason kind v s) s)) ∧
    (s.fuseSeq = none → fuseReason kind v s = 0 → tongsWithin s 10 60 = false →
      exec .fuseSequence s = .next (ringFinish i 2 1 (raiseEvent 0 2 0x146 29 (s.setRf 0x30000 29 1 1)))) ∧
    (s.fuseSeq = none → fuseReason kind v s = 0 → tongsWithin s 10 60 = true → exec .fuseSequence s = .next { s with fuseSeq := some ⟨kind, v, i⟩ }) ∧
    (∀ q, s.fuseSeq = some q → ∃ u, exec .fuseSequence s = .next (ringFinish i 1 0 u) ∧ u.fuseSeq = none ∧
      u.fuses.vers = (if q.kind = 1 then s.fuses.vers ++ [BitVec.ofNat 16 q.value] else s.fuses.vers) ∧
      (∀ k, k ∈ u.fuses.revoked ↔ k ∈ s.fuses.revoked ∨ q.kind ≠ 1 ∧ k = q.value) ∧ { u with fuses := s.fuses, fuseSeq := s.fuseSeq } = s)) ∧
  ∀ (s : State), s.quench = false →
    (s.fuseSeq = none ∨ tongsWithin s 10 60 = true → exec .fuseWindowCheck s = .next s) ∧
    (∀ q, s.fuseSeq = some q → tongsWithin s 10 60 = false → ∃ u, exec .fuseWindowCheck s =
      .next (ringFinish q.index 2 1 (raiseEvent 0 2 0x146 29 u)) ∧ u.fuseSeq = none ∧ u.fuses.vers = s.fuses.vers ∧ u.fuses.revoked = s.fuses.revoked ∧
      u.fuses.spent = s.fuses.spent + (if q.kind = 1 then 1 else 0))

/-! ### SMBus and JTAG (R412, R413, R428) -/

/-- R299, R412, R389: an SMBus transaction with a wrong PEC, or before the device answers, meets a NACK and has no effect; a
read gives the register at the pointer, which moves on; a write needs SmbWrite, and is else acknowledged and lost; the alert
response releases SMB_ALERT_N. -/
def Claims.SmbusTransactions : Prop :=
  ∀ (a v : Word) (s : State),
    let nack := { s with smb := { s.smb with out := none, ack := false } }
    let done := { s with smb := { s.smb with out := none, ack := true } }
    let gives (w : Word) : State := { s with smb := { s.smb with out := some w, ack := true } }
    let r := csRead .smbus s.smb.ptr.toNat done
    let w := csWrite .smbus s.smb.ptr.toNat v done
    let up := s.pins.vio = true ∧ (started s = true ∨ s.quench = true)
    (exec (.smbusSetPointer a false) s = .next nack ∧ exec (.smbusRead false) s = .next nack ∧ exec (.smbusWrite v false) s = .next nack) ∧
    (¬up → exec (.smbusSetPointer a true) s = .next nack ∧ exec (.smbusRead true) s = .next nack ∧ exec (.smbusWrite v true) s = .next nack ∧
      exec .smbusHealth s = .next nack ∧ exec .smbusTemp s = .next nack ∧ exec .smbusAlertResponse s = .next nack) ∧
    (up → exec (.smbusSetPointer a true) s = .next { s with smb := { s.smb with ptr := a, out := none, ack := true } }) ∧
    (up → ∃ t, exec (.smbusRead true) s = .next t ∧ t.smb.out = some r.1 ∧ t.smb.ptr = s.smb.ptr + 4 ∧ t.smb.ack = true ∧ t.regs = r.2.regs ∧
      t.cores = r.2.cores ∧ t.mem = s.mem) ∧
    (up → s.rf 0x60004 0 1 = 0 ∨ s.quench = true → exec (.smbusWrite v true) s = .next done) ∧
    (up → s.rf 0x60004 0 1 = 1 → s.quench = false → exec (.smbusWrite v true) s = .next { w with smb := { w.smb with ptr := s.smb.ptr + 4 } }) ∧
    (up → ∃ b : Word, exec .smbusHealth s = .next (gives b) ∧ b.getLsbD 0 = s.pins.aliveRun ∧ b.getLsbD 1 = decide (pendingC2 s ≠ 0) ∧
      b.getLsbD 2 = s.quench ∧ b.getLsbD 4 = started s ∧ b.toNat < 32) ∧
    (up → exec .smbusTemp s = .next (gives (regNow s 0x30010 &&& 0xFFF))) ∧
    (up → s.pins.smbAlertN = true → exec .smbusAlertResponse s = .next nack) ∧
    (up → s.pins.smbAlertN = false → exec .smbusAlertResponse s =
      .next { gives (BitVec.ofNat 32 (0x48 + s.pins.smbAddr.toNat)) with pins := { s.pins with smbAlertN := true } })

/-- R299, R413, R428: the TAP works while VIO18 is on. While COLD_RST_N is high no TAP instruction moves a pin; EXTEST, CLAMP and HIGHZ act as BYPASS. DBG
reaches the control space only while debug access is open. What the boundary cells drive is the device's own. -/
def Claims.TapInstructions : Prop :=
  ∀ (w : Word) (dr : DWord) (s : State),
    let a := dr.toNat / 2 ^ 32 % 2 ^ 31 * 2
    (s.pins.vio = false → exec .idcode s = .next s ∧ exec .tapReset s = .next s ∧ exec .bypass s = .next s ∧ exec .extest s = .next s ∧
      exec .clamp s = .next s ∧ exec .highz s = .next s ∧ exec (.samplePreload w) s = .next s ∧ exec (.dbg dr) s = .next s) ∧
    (s.pins.vio = true → s.pins.coldRstN = true ∨ s.quench = true →
      exec .idcode s = .next { s with tapIr := 1, tapDr := idcodeWord.zeroExtend 64 } ∧
      exec .tapReset s = .next { s with tapIr := 1, tapDr := idcodeWord.zeroExtend 64 } ∧
      exec .bypass s = .next { s with tapIr := 0xFF, tapDr := 0 } ∧
      exec .extest s = .next { s with tapIr := 3, tapDr := 0 } ∧ exec .clamp s = .next { s with tapIr := 4, tapDr := 0 } ∧
      exec .highz s = .next { s with tapIr := 5, tapDr := 0 } ∧
      (∃ t, exec (.samplePreload w) s = .next t ∧ t.tapIr = 2 ∧ t.tapCells = w ∧ t.free = s.free + 1 ∧
        { t with tapIr := s.tapIr, tapDr := s.tapDr, tapCells := s.tapCells, free := s.free } = s) ∧
      (s.rf 0x300000 26 1 = 0 → exec (.dbg dr) s = .next { s with tapIr := 0x10, tapDr := 0 }) ∧
      (s.rf 0x300000 26 1 = 1 → dr.getLsbD 63 = true → exec (.dbg dr) s =
        .next { csWrite .jtag a (dr.extractLsb' 0 32) { s with tapIr := 0x10 } with tapDr := dr }) ∧
      (s.rf 0x300000 26 1 = 1 → dr.getLsbD 63 = false → ∃ t, exec (.dbg dr) s = .next t ∧
        t.tapDr = dr.extractLsb' 32 32 ++ (csRead .jtag a { s with tapIr := 0x10 }).1 ∧ t.regs = (csRead .jtag a { s with tapIr := 0x10 }).2.regs)) ∧
    (s.pins.vio = true → s.pins.coldRstN = false → s.quench = false →
      exec .extest s = .next { s with tapIr := 3, pins := scanPins s.tapCells s.pins } ∧
      exec .clamp s = .next { s with tapIr := 4, pins := scanPins s.tapCells s.pins } ∧
      exec .bypass s = .next { s with tapIr := 0xFF, tapDr := 0, pins := resetPins s.pins } ∧
      ∃ t, exec .highz s = .next t ∧ t.tapIr = 5 ∧ t.pins.faultN = true ∧ t.pins.quenchN = true ∧ t.pins.tripN = true ∧ t.pins.smbAlertN = true ∧
        { t with tapIr := s.tapIr, pins := s.pins, free := s.free } = s)

/-! ### Redundant pairs (R435–R449) -/

/-- R436–R438, R445, R447: OWN_OUT rises on a claim only while OWN_IN is low, and falls on a release, with the fabric
number given up; OWN_IN's rise closes the gates, and a waiting claim of the member strapped ROLE low is withdrawn with
C0 event 0x1E2. An armed, in-sync standby claims when OWN_IN falls, and 10 µs later its gates open and it serves, with
C2 event 0x1E0. -/
def Claims.PairClaims : Prop :=
  ∀ (s : State), s.quench = false →
    let clash := s.rf 0x500004 27 1 = 1
    let rise := exec .ownInRise s
    let serve := s.rf 0x500008 0 6
    (s.pins.pairEn = false ∨ s.pins.ownIn = true ∨ clash ∨ s.pins.ownOut = true → exec .claim s = .next s) ∧
    (s.pins.pairEn = true → s.pins.ownIn = false → ¬clash → s.pins.ownOut = false →
      exec .claim s = .next { s with claimed := false, pins := { s.pins with ownOut := true } }) ∧
    (s.pins.ownOut = false → exec .release s = .next s) ∧
    (s.pins.ownOut = true → ∃ t, exec .release s = .next t ∧ t.pins.ownOut = false ∧ t.rf 0x500004 31 1 = 0 ∧ t.fabValid = false ∧
      (∀ x, x ≠ 0x500004 → x ≠ 0x14 → t.reg x = s.reg x) ∧ { t with regs := s.regs, claimed := s.claimed, pins := s.pins } = s) ∧
    (s.pins.pairEn = false → rise = .next { s with pins := { s.pins with ownIn := true } }) ∧
    (s.pins.pairEn = true → (s.pins.ownOut = false ∨ s.rf 0x500004 31 1 = 1 ∨ s.pins.role = true → ∃ t, rise = .next t ∧
        t.pins = { s.pins with ownIn := true } ∧ t.rf 0x500004 31 1 = 0 ∧ (∀ x, x ≠ 0x500004 → t.reg x = s.reg x) ∧
        { t with regs := s.regs, pins := s.pins } = s) ∧
      (s.pins.ownOut = true → s.rf 0x500004 31 1 = 0 → s.pins.role = false → ∃ u, rise = .next (raiseEvent 0 28 0x1E2 0 u) ∧
        u.pins = { s.pins with ownIn := true, ownOut := false } ∧ u.rf 0x500004 31 1 = 0 ∧ u.claimed = false ∧
        (∀ x, x ≠ 0x500004 → u.reg x = s.reg x) ∧ { u with regs := s.regs, pins := s.pins, claimed := s.claimed } = s)) ∧
    (s.pins.pairEn = false ∨ s.pins.ownOut = false ∨ s.pins.ownIn = true ∨ s.now < s.ownLow + 2500 ∨ s.rf 0x500004 31 1 = 1 →
      exec .gatesOpen s = .next s) ∧
    (s.pins.pairEn = true → s.pins.ownOut = true → s.pins.ownIn = false → s.ownLow + 2500 ≤ s.now → s.rf 0x500004 31 1 = 0 →
      (s.claimed = false → ∃ t, exec .gatesOpen s = .next t ∧ t.rf 0x500004 31 1 = 1 ∧ (∀ x, x ≠ 0x500004 → t.reg x = s.reg x) ∧ { t with regs := s.regs } = s) ∧
      (s.claimed = true → ∃ u, exec .gatesOpen s = .next (raiseEvent 2 28 0x1E0 (BitVec.ofNat 32 serve) u) ∧ u.rf 0x500004 31 1 = 1 ∧ u.fabValid = true ∧
        u.fabNum = serve ∧ u.claimed = false ∧ (∀ g p, (g, p) ∈ upPorts u → if inGap u g (portRole p) 0 = true then (g, p, serve) ∈ u.takeWait else (g, p, serve) ∈ u.takeover) ∧ u.cores = s.cores ∧ u.mem = s.mem ∧ u.pool = s.pool)) ∧
    (s.pins.ownIn = false → exec .switchOver s = .next s) ∧
    (s.pins.ownIn = true →
      let armed := s.pins.pairEn = true ∧ s.pins.ownOut = false ∧ ¬clash ∧ s.rf 0x500000 0 1 = 1 ∧ s.rf 0x500004 28 1 = 1 ∧ s.rf 0x500008 6 1 = 1 ∧ s.rf 0x500004 25 1 = 0
      (armed → exec .switchOver s = .next { s with
        ownLow := s.now, pins := { s.pins with ownIn := false, ownOut := true }, claimed := true, mirrorRx := [], rxBytes := 0, rxSkip := false }) ∧
      (¬armed → exec .switchOver s = .next { s with ownLow := s.now, pins := { s.pins with ownIn := false } }))

/-- R439–R444: the active closes an epoch, unless its configuration is in error, by sending the epoch's records and then the
marker, which carries the epoch's number, outside the quiet gap of its ports; records of later epochs wait (how an epoch waits is the model's choice, log 35);
a standby buffers an epoch's records and applies them when its marker comes, a resync's as they come, and loses sync
with C2 event 0x1E1 past 4 MiB or with the link down for 1 ms. RESYNC copies every window. -/
def Obligations.Mirroring : Prop :=
  ∀ (r : MirrorRec) (e : BitVec 23) (re : Bool) (s : State), s.quench = false →
    let n := s.rf 0x500004 0 23
    let size := s.rxBytes + r.bytes.length
    let lost (s t : State) : Prop := ∃ u, t = raiseEvent 2 28 0x1E1 0 u ∧ u.rf 0x500004 28 1 = 0 ∧ (∀ x, x ≠ 0x500004 → u.reg x = s.reg x) ∧ { u with regs := s.regs } = s
    let len := if s.resync then s.mirrorTx.length else s.closing.headD 0
    ((s.closing = [] ∧ s.resync = false) ∨ mirrorOn s = false ∨ linkUp s = false ∨ inGap s 3 7 0 = true ∨ s.rf 0x500004 25 1 = 1 → exec .mirrorEpochClose s = .next s) ∧
    (s.closing ≠ [] ∨ s.resync = true → mirrorOn s = true → linkUp s = true → inGap s 3 7 0 = false → s.rf 0x500004 25 1 = 0 → ∃ t,
      exec .mirrorEpochClose s = .next t ∧ t.mirrorTx = s.mirrorTx.drop len ∧ t.resync = false ∧
      t.closing = (if s.resync then [] else (s.closing.drop 1).map (· - len)) ∧
      t.mirrorOut = s.mirrorOut ++ (s.mirrorTx.take len).map MirrorMsg.record ++ [.marker (BitVec.ofNat 23 n) s.resync] ∧ t.rf 0x500004 0 23 = (n + 1) % 2 ^ 23 ∧
      (∀ x, x ≠ 0x500004 → t.reg x = s.reg x) ∧ { t with regs := s.regs, mirrorTx := s.mirrorTx, mirrorOut := s.mirrorOut, closing := s.closing, resync := s.resync } = s) ∧
    (isStandby s = false → exec (.mirrorRecord r re) s = .next s ∧ exec (.mirrorCommit e re) s = .next s) ∧
    (isStandby s = true → re = false → s.rxSkip = false →
      (size ≤ 2 ^ 22 → exec (.mirrorRecord r re) s = .next { s with mirrorRx := s.mirrorRx ++ [r], rxBytes := size }) ∧
      (2 ^ 22 < size → ∃ t, exec (.mirrorRecord r re) s = .next t ∧ lost { s with mirrorRx := [], rxBytes := 0, rxSkip := true } t)) ∧
    (isStandby s = true → re = false → s.rxSkip = true → exec (.mirrorRecord r re) s = .next s ∧ exec (.mirrorCommit e re) s = .next { s with rxSkip := false }) ∧
    (isStandby s = true → re = true → hasHome r.ep.val = true → ∃ t, exec (.mirrorRecord r re) s = .next t ∧
      (∀ i (h : i < r.bytes.length), Memory.byte t.mem (memBase r.ep.val + r.off.toNat + i) = r.bytes[i]) ∧
      onlyBytes (memBase r.ep.val + r.off.toNat) r.bytes.length s t ∧ t.cores = s.cores ∧ t.pool = s.pool) ∧
    (isStandby s = true → s.rxSkip = false → s.mirrorRx = [] → (re = false → ∃ t, exec (.mirrorCommit e re) s = .next t ∧ t.rf 0x500004 0 23 = (e.toNat + 1) % 2 ^ 23 ∧
        t.rxBytes = 0 ∧ (∀ x, x ≠ 0x500004 → t.reg x = s.reg x) ∧ { t with regs := s.regs, rxBytes := s.rxBytes } = s) ∧
      (re = true → ∃ u, exec (.mirrorCommit e re) s = .next (raiseEvent 0 28 0x1E4 0 u) ∧ u.rf 0x500004 0 23 = (e.toNat + 1) % 2 ^ 23 ∧ u.rf 0x500004 28 1 = 1 ∧
        (∀ x, x ≠ 0x500004 → u.reg x = s.reg x) ∧ { u with regs := s.regs, rxBytes := s.rxBytes } = s)) ∧
    (isStandby s = true → s.rxSkip = false → re = false → s.mirrorRx = [r] → hasHome r.ep.val = true → ∃ t, exec (.mirrorCommit e re) s = .next t ∧ t.mirrorRx = [] ∧
      (∀ i (h : i < r.bytes.length), Memory.byte t.mem (memBase r.ep.val + r.off.toNat + i) = r.bytes[i]) ∧
      onlyBytes (memBase r.ep.val + r.off.toNat) r.bytes.length s t) ∧
    (s.mirDown = none ∨ isStandby s = false ∨ s.rf 0x500004 28 1 = 0 → exec .mirrorLinkTimeout s = .next s) ∧
    (∀ t0, s.mirDown = some t0 → isStandby s = true → s.rf 0x500004 28 1 = 1 → t0 + 250000 < s.now → ∃ t, exec .mirrorLinkTimeout s = .next t ∧ lost s t) ∧
    (s.pins.pairEn = false ∨ gatesOpen s = false ∨ s.rf 0x500004 25 1 = 1 → exec .resync s = .next s) ∧
    (s.pins.pairEn = true → gatesOpen s = true → s.rf 0x500004 25 1 = 0 → ∃ t, exec .resync s = .next t ∧ t.resync = true ∧
      t.mirrorTx = s.mirrorTx ++ (List.range 16).flatMap (winRecord s) ∧ { t with mirrorTx := s.mirrorTx, resync := s.resync } = s)

/-- R446: a TAKEOVER that arrives on an UP port makes the sender the port's peer and starts both its streams afresh; on
any other it does nothing. -/
def Claims.Takeovers : Prop :=
  ∀ (g : QuadId) (p : PortId) (h : Half) (f : FabId) (s : State), s.quench = false →
    (portState s g p h ≠ 3 → exec (.takeover g p h f) s = .next s) ∧
    (portState s g p h = 3 → s.pool = [] → ∃ t, exec (.takeover g p h f) s = .next t ∧ peerState t f = 1 ∧ (t.stream f true) = Stream.reset ∧
      { t.stream f false with onAlt := false } = Stream.reset ∧ t.rf (statAddr g p h) 23 6 = f.val ∧ t.cores = s.cores ∧ t.mem = s.mem)

/-! ### The whole device -/

/-- R43, R72, R75, R100, R102: the word in which a bundle's two slots are encoded decodes to the same slots: every
instruction command does what the core does with its word, whatever its fields. -/
def Obligations.BundleWords : Prop :=
  ∀ (i : Instr) (c : CoreId) (w : DWord), bundleOf i = some (c, w) → ∀ s, exec i s = .next (issueWord c w s)

/-- R391, R392: the device after a reset runs nothing, holds no memory byte but zero and is not in quench; registers read
as their reset values, FUNC_STATE as all functions present but F15. What no rule gives a value, the model sets to 0. -/
def Obligations.ResetState : Prop :=
  memOk State.reset ∧ State.reset.pending = [] ∧ (∀ a, State.reset.reg a = regReset a) ∧ (∀ a, Memory.byte State.reset.mem a = 0) ∧
  (∀ c, (State.reset.core c).st = .idle) ∧ State.reset.quench = false ∧ State.reset.pool = [] ∧ State.reset.reg 0x10808 = 0xC0000000 ∧
  (∀ r < 32, State.reset.granted r = 4 ∧ State.reset.inForce r = 4 ∧ State.reset.capOf r = 15) ∧ State.reset.pins.quenchN = true ∧
  State.reset.pins.faultN = true ∧ State.reset.pins.alive = false ∧ State.reset.log = [] ∧ State.reset.locked = false

/-- Every step keeps the memory in its canonical form, whatever the command (the model's own invariant). -/
def Obligations.MemoryCanonical : Prop :=
  ∀ (s t : State), memOk s → step s = .next t → memOk t

/-- R389, R390: quench is a latch: no command but QUENCH_RELEASE ends it, no byte of memory changes in it, and but for
what the collector records of a C1 fault neither do the cores or the requests on their way. -/
def Obligations.QuenchLatch : Prop :=
  ∀ (i : Instr) (s t : State), quenched s → i ≠ .quenchRelease → exec i s = .next t →
    quenched t ∧ t.mem = s.mem ∧ t.pins.ownOut = s.pins.ownOut ∧ ((∀ c d, i ≠ .faultEvent c d) → t.cores = s.cores ∧ t.pool = s.pool)

/-! ### The statements that the parts above make together -/

/-- Scalar arithmetic of slot A and the hardwired registers. -/
def Obligations.ScalarArithmetic : Prop :=
  Claims.ImmediateForms ∧ Claims.AluFunctions ∧ Claims.HardwiredRegisters

/-- Branches, jumps and hardware loops. -/
def Obligations.ControlFlow : Prop :=
  Claims.Transfers ∧ Claims.Loops

/-- WAITT, FFENCE, HALT and TRAP. -/
def Obligations.CorePauses : Prop :=
  Claims.Pauses ∧ Claims.Halt ∧ Claims.TrapInstruction

/-- SRD, SWR, ETAG and EVIEW on the special registers of a core. -/
def Obligations.CoreSpecialRegisters : Prop :=
  Claims.SpecialReads ∧ Claims.SpecialWrites

/-- Loads and stores of the core store, with their frame. -/
def Obligations.LocalMemory : Prop :=
  Claims.LocalLoads ∧ Claims.LocalStores

/-- The requests a core sends into the fabric. -/
def Obligations.FabricRequests : Prop :=
  Claims.FabricLoadsAndAtomics ∧ Claims.FabricStores ∧ Claims.FabricReductionsAndOwnership

/-- BULKQ, its packets and its descriptors. -/
def Obligations.BulkEngine : Prop :=
  Claims.BulkQueue ∧ Claims.DescriptorCompletion ∧ Claims.BulkPacketStart

/-- START and SITE_GO, and the job tag a start takes from its slot. -/
def Obligations.CoreStarts : Prop :=
  Claims.Start ∧ Claims.SiteGo

/-- Fencing a core, bank stalls, fence time-outs and billet load returns. -/
def Obligations.CoreUpkeep : Prop :=
  Claims.CoreFence ∧ Claims.CoreWaits

/-- Vector integer and floating-point arithmetic, element by element. -/
def Obligations.VectorArithmetic : Prop :=
  Claims.VectorIntegers ∧ Claims.VectorFloats

/-- Vector logic, moves and predicates. -/
def Obligations.VectorMoves : Prop :=
  Claims.VectorLogicAndMoves ∧ Claims.Predicates

/-- Vector reductions and conversions. -/
def Obligations.VectorReductionsAndConversions : Prop :=
  Claims.VectorReductions ∧ Claims.VectorConversions

/-- Routers, their faults, and what they hold (log 13). -/
def Obligations.MeshRouting : Prop :=
  Claims.RouterForward ∧ Claims.RouterMulticasts ∧ Claims.RouterReductions ∧ Claims.RouterFault ∧ Claims.ReductionHoldAndMulticastAnswer

/-- Billet banks in service, the scrubber and BILLET_CFG. -/
def Obligations.BilletService : Prop :=
  Claims.BankService ∧ Claims.ScrubAndBilletCfg

/-- Answers and statuses of a home. -/
def Obligations.HomeAnswers : Prop :=
  Claims.Answers ∧ Claims.StatusAtHome

/-- Reads, writes, atomics and reductions at a home, with the bytes they change. -/
def Obligations.HomeAccesses : Prop :=
  Claims.ReadsAtHome ∧ Claims.WritesAtHome ∧ Claims.AtomicsAtHome

/-- Ownership of regions at a home. -/
def Obligations.Ownership : Prop :=
  Claims.OwnershipAtHome ∧ Claims.OwnershipRegisters

/-- Completion counters and responses at the requester. -/
def Obligations.RequestCompletions : Prop :=
  Claims.CounterCompletion ∧ Claims.Completions

/-- Held requests are released in order, and credits come back. -/
def Obligations.HeldRequestsAndCredits : Prop :=
  Claims.HeldReleases ∧ Claims.CreditsAndInputQueues

/-- A hearth endpoint sends and receives requests. -/
def Obligations.HearthPorts : Prop :=
  Claims.HearthPort ∧ Claims.HearthArrivals

/-- The grants of the optical arbiters, and failures of control loops and waveguides (log 18). -/
def Obligations.HearthGrants : Prop :=
  Claims.Grants ∧ Claims.HearthFailures

/-- Gateway ports: control, training and lane failures. -/
def Obligations.GatewayPorts : Prop :=
  Claims.PortControl ∧ Claims.PortTraining ∧ Claims.PortLaneFailures

/-- Frames, streams, routes and revival between devices (log 20). -/
def Obligations.DeviceStreams : Prop :=
  Claims.LinkFrames ∧ Claims.Streams ∧ Claims.RoutesAndRevival

/-- Unit slots, window failures and margin probes of the links (log 23). -/
def Obligations.LinkWindows : Prop :=
  Claims.UnitSlots ∧ Claims.LinkMonitoring ∧ Claims.OpticalWindows

/-- Lane sparing, retraining and self-tests of the links. -/
def Obligations.LinkRepair : Prop :=
  Claims.LaneSparing ∧ Claims.LinkTests

/-- Steps switch at their tick, and regulators report (log 27). -/
def Obligations.StepChanges : Prop :=
  Claims.StepSwitches ∧ Claims.Regulators

/-- Over-current, droops and lost clocks (log 29). -/
def Obligations.ClockAndCurrentFaults : Prop :=
  Claims.OverCurrent ∧ Claims.Clocks

/-- Sensor readings, thermal caps and billet estimates (log 32). -/
def Obligations.ThermalProtection : Prop :=
  Claims.Conversions ∧ Claims.ThermalCaps ∧ Claims.BilletEstimates

/-- Events, their classes and the collector (log 14). -/
def Obligations.FaultEvents : Prop :=
  Claims.EventClasses ∧ Claims.Collector

/-- Heartbeats, firmware restarts and billet-internal resets (log 36). -/
def Obligations.FirmwareAndBilletResets : Prop :=
  Claims.Heartbeats ∧ Claims.BilletResets

/-- Cold resets and start sequences (log 42). -/
def Obligations.StartsAndResets : Prop :=
  Claims.ColdResets ∧ Claims.Starts

/-- Addresses, credits and ports of the host chain (log 40). -/
def Obligations.HostLink : Prop :=
  Claims.Enumeration ∧ Claims.HostPorts

/-- Reads and writes of the control space (log 37). -/
def Obligations.ControlSpace : Prop :=
  Claims.RegisterAccesses ∧ Claims.DebugAccesses ∧ Claims.SpecialRegisters

/-- Requests of the guests and for them (log 41). -/
def Obligations.Guests : Prop :=
  Claims.GuestRequests ∧ Claims.GuestInbound

/-- Flash, secure and fuse commands of the command ring (log 44). -/
def Obligations.CommandRing : Prop :=
  Claims.FlashCommands ∧ Claims.SecureCommands ∧ Claims.FuseCommands

/-- SMBus and JTAG (log 46). -/
def Obligations.Management : Prop :=
  Claims.SmbusTransactions ∧ Claims.TapInstructions

/-- Who owns a pair, and what a takeover does to its peers (log 35). -/
def Obligations.PairService : Prop :=
  Claims.PairClaims ∧ Claims.Takeovers
end

