-- ==== Sys2Proof/Laws/Tab.lean ====
section
/-! SUPPORT. What the operations on sparse tables and memories do: reads after writes, and that every operation keeps
the canonical form. -/

namespace Sys2Proof.Machine

variable {α : Type}

/-! ### Reads after writes -/

@[simp] theorem tab_get_nil (d : α) (k : Nat) : Tab.get d [] k = d := rfl

theorem tab_get_del (d : α) (t : Tab α) (k j : Nat) :
    Tab.get d (Tab.del t k) j = if j = k then d else Tab.get d t j := by
  induction t with
  | nil => simp [Tab.del]
  | cons e t ih =>
    obtain ⟨i, v⟩ := e
    by_cases h : i = k
    · subst h
      by_cases hj : j = i
      · simpa [Tab.del, hj] using ih
      · simp [Tab.del, Tab.get, ih, hj, Ne.symm hj]
    · by_cases hj : i = j
      · simp [Tab.del, Tab.get, h, ← hj]
      · simp [Tab.del, Tab.get, h, hj, ih]

theorem tab_get_ins (d : α) (t : Tab α) (k j : Nat) (v : α) (h : ∀ e ∈ t, e.1 ≠ k) :
    Tab.get d (Tab.ins t k v) j = if j = k then v else Tab.get d t j := by
  induction t with
  | nil => simp [Tab.ins, Tab.get, eq_comm]
  | cons e t ih =>
    obtain ⟨i, w⟩ := e
    have hi : i ≠ k := h (i, w) (by simp)
    have ih := ih (fun e he => h e (by simp [he]))
    by_cases hk : k < i
    · simp [Tab.ins, hk, Tab.get, eq_comm]
    · by_cases hj : i = j
      · subst hj; simp [Tab.ins, hk, Tab.get, hi]
      · simp [Tab.ins, hk, Tab.get, hj, ih]

theorem tab_del_keys (t : Tab α) (k : Nat) : ∀ e ∈ Tab.del t k, e.1 ≠ k := by
  induction t with
  | nil => simp [Tab.del]
  | cons e t ih =>
    obtain ⟨i, v⟩ := e
    by_cases h : i = k
    · simpa [Tab.del, h] using ih
    · intro e he
      simp only [Tab.del, h, if_false, List.mem_cons] at he
      rcases he with rfl | he
      · exact h
      · exact ih e he

/-- Reading a table after a write: the value written at its key, every other key as before. -/
theorem tab_get_put [DecidableEq α] (d : α) (t : Tab α) (k j : Nat) (v : α) :
    Tab.get d (Tab.put d t k v) j = if j = k then v else Tab.get d t j := by
  unfold Tab.put
  split
  · next h => rw [tab_get_del, h]
  · rw [tab_get_ins _ _ _ _ _ (tab_del_keys t k), tab_get_del]
    split <;> rfl

@[simp] theorem tab_get_put_same [DecidableEq α] (d : α) (t : Tab α) (k : Nat) (v : α) :
    Tab.get d (Tab.put d t k v) k = v := by simp [tab_get_put]

/-- A write leaves every other key as before, whatever default the reader takes. -/
theorem tab_get_put_other [DecidableEq α] (d e : α) (t : Tab α) (k j : Nat) (v : α) (h : j ≠ k) :
    Tab.get e (Tab.put d t k v) j = Tab.get e t j := by
  unfold Tab.put
  split
  · rw [tab_get_del, if_neg h]
  · rw [tab_get_ins _ _ _ _ _ (tab_del_keys t k), if_neg h, tab_get_del, if_neg h]

theorem tab_del_ins (t : Tab α) (k : Nat) (v : α) : Tab.del (Tab.ins t k v) k = Tab.del t k := by
  induction t with
  | nil => simp [Tab.ins, Tab.del]
  | cons e t ih =>
    obtain ⟨i, w⟩ := e
    by_cases hk : k < i
    · simp [Tab.ins, hk, Tab.del]
    · by_cases hi : i = k <;> simp [Tab.ins, hk, Tab.del, hi, ih]

theorem tab_del_del (t : Tab α) (k : Nat) : Tab.del (Tab.del t k) k = Tab.del t k := by
  induction t with
  | nil => rfl
  | cons e t ih =>
    obtain ⟨i, w⟩ := e
    by_cases hi : i = k <;> simp [Tab.del, hi, ih]

/-- Of two writes to one key the later holds. -/
theorem tab_put_put [DecidableEq α] (d : α) (t : Tab α) (k : Nat) (v w : α) :
    Tab.put d (Tab.put d t k v) k w = Tab.put d t k w := by
  have h : Tab.del (Tab.put d t k v) k = Tab.del t k := by
    unfold Tab.put
    split
    · exact tab_del_del t k
    · rw [tab_del_ins, tab_del_del]
  unfold Tab.put at h ⊢
  rw [h]

/-! ### The canonical form -/

theorem tab_rising_weaken (t : Tab α) (lo hi : Nat) (h : lo ≤ hi) (w : Tab.rising (some hi) t = true) :
    Tab.rising (some lo) t = true := by
  cases t with
  | nil => rfl
  | cons e t =>
    simp only [Tab.rising, Bool.and_eq_true, decide_eq_true_eq] at w ⊢
    exact ⟨by omega, w.2⟩

theorem tab_rising_none (t : Tab α) (lo : Option Nat) (w : Tab.rising lo t = true) : Tab.rising none t = true := by
  cases lo with
  | none => exact w
  | some lo =>
    cases t with
    | nil => rfl
    | cons e t =>
      simp only [Tab.rising, Bool.and_eq_true, decide_eq_true_eq] at w ⊢
      exact w.2

theorem tab_rising_filter (p : Nat × α → Bool) (t : Tab α) (lo : Option Nat) (w : Tab.rising lo t = true) :
    Tab.rising lo (t.filter p) = true := by
  induction t generalizing lo with
  | nil => exact w
  | cons e t ih =>
    obtain ⟨i, v⟩ := e
    have hi : Tab.rising (some i) t = true := by
      cases lo <;> simp_all [Tab.rising]
    by_cases hp : p (i, v) = true
    · rw [List.filter_cons_of_pos hp]
      cases lo with
      | none => exact ih _ hi
      | some lo =>
        simp only [Tab.rising, Bool.and_eq_true, decide_eq_true_eq] at w ⊢
        exact ⟨w.1, ih _ hi⟩
    · rw [List.filter_cons_of_neg hp]
      cases lo with
      | none => exact tab_rising_none _ _ (ih _ hi)
      | some lo =>
        simp only [Tab.rising, Bool.and_eq_true, decide_eq_true_eq] at w
        exact tab_rising_weaken _ _ i (by omega) (ih _ hi)

theorem tab_rising_del (t : Tab α) (k : Nat) (lo : Option Nat) (w : Tab.rising lo t = true) :
    Tab.rising lo (Tab.del t k) = true := by
  have h : Tab.del t k = t.filter (fun e => decide (e.1 ≠ k)) := by
    clear w
    induction t with
    | nil => rfl
    | cons e t ih =>
      obtain ⟨i, v⟩ := e
      by_cases h : i = k <;> simp [Tab.del, h, ih]
  rw [h]; exact tab_rising_filter _ _ _ w

theorem tab_rising_ins (t : Tab α) (k : Nat) (v : α) (lo : Option Nat) (w : Tab.rising lo t = true)
    (hk : ∀ e ∈ t, e.1 ≠ k) (hlo : ∀ l, lo = some l → l < k) : Tab.rising lo (Tab.ins t k v) = true := by
  induction t generalizing lo with
  | nil => cases lo <;> simp_all [Tab.ins, Tab.rising]
  | cons e t ih =>
    obtain ⟨i, u⟩ := e
    have hne : i ≠ k := hk (i, u) (by simp)
    have hi : Tab.rising (some i) t = true := by cases lo <;> simp_all [Tab.rising]
    by_cases h : k < i
    · cases lo with
      | none => simp [Tab.ins, h, Tab.rising, hi]
      | some l => simp [Tab.ins, h, Tab.rising, hi, hlo l rfl]
    · have ih := ih (some i) hi (fun e he => hk e (by simp [he])) (fun l hl => by
        have : i = l := by simpa using hl
        omega)
      cases lo with
      | none => simpa [Tab.ins, h, Tab.rising] using ih
      | some l =>
        have : l < i := by simp [Tab.rising] at w; exact w.1
        simp [Tab.ins, h, Tab.rising, ih, this]

theorem tab_mem_del (t : Tab α) (k : Nat) (e : Nat × α) (h : e ∈ Tab.del t k) : e ∈ t := by
  induction t with
  | nil => simp [Tab.del] at h
  | cons x t ih =>
    obtain ⟨i, v⟩ := x
    by_cases hi : i = k
    · simp only [Tab.del, hi, if_true] at h
      exact List.mem_cons_of_mem _ (ih h)
    · simp only [Tab.del, hi, if_false, List.mem_cons] at h
      rcases h with rfl | h
      · simp
      · exact List.mem_cons_of_mem _ (ih h)

theorem tab_mem_ins (t : Tab α) (k : Nat) (v : α) (e : Nat × α) (h : e ∈ Tab.ins t k v) : e = (k, v) ∨ e ∈ t := by
  induction t with
  | nil => simpa [Tab.ins] using h
  | cons x t ih =>
    obtain ⟨i, w⟩ := x
    by_cases hi : k < i
    · simpa [Tab.ins, hi] using h
    · simp only [Tab.ins, hi, if_false, List.mem_cons] at h
      rcases h with rfl | h
      · simp
      · rcases ih h with h | h <;> simp [h]

/-- A table stands in canonical form: its keys rise strictly and no entry holds the default. -/
theorem tab_wf_iff [DecidableEq α] (d : α) (t : Tab α) :
    Tab.wf d t = true ↔ Tab.rising none t = true ∧ ∀ e ∈ t, e.2 ≠ d := by
  simp [Tab.wf]

theorem tab_wf_put [DecidableEq α] (d : α) (t : Tab α) (k : Nat) (v : α) (w : Tab.wf d t = true) :
    Tab.wf d (Tab.put d t k v) = true := by
  rw [tab_wf_iff] at w ⊢
  unfold Tab.put
  split
  · exact ⟨tab_rising_del _ _ _ w.1, fun e he => w.2 e (tab_mem_del _ _ _ he)⟩
  · next h =>
    refine ⟨tab_rising_ins _ _ _ _ (tab_rising_del _ _ _ w.1) (tab_del_keys t k) (by simp), fun e he => ?_⟩
    rcases tab_mem_ins _ _ _ _ he with rfl | he
    · exact h
    · exact w.2 e (tab_mem_del _ _ _ he)

theorem tab_wf_filter [DecidableEq α] (d : α) (p : Nat × α → Bool) (t : Tab α) (w : Tab.wf d t = true) :
    Tab.wf d (t.filter p) = true := by
  rw [tab_wf_iff] at w ⊢
  exact ⟨tab_rising_filter p t none w.1, fun e he => w.2 e (List.mem_of_mem_filter he)⟩

theorem tab_wf_restrict [DecidableEq α] (d : α) (keep : Nat → Bool) (t : Tab α) (w : Tab.wf d t = true) :
    Tab.wf d (Tab.restrict keep t) = true := tab_wf_filter d _ t w

/-! ### Memory: every operation keeps the canonical form -/

theorem memory_wf_write (m : Memory) (a n v : Nat) (w : Memory.wf m = true) : Memory.wf (Memory.write m a n v) = true := by
  induction n generalizing m a v with
  | zero => exact w
  | succ n ih => exact ih _ _ _ (tab_wf_put 0 m a _ w)

theorem memory_wf_writeMask (m : Memory) (a n mask v : Nat) (w : Memory.wf m = true) :
    Memory.wf (Memory.writeMask m a n mask v) = true := by
  induction n generalizing m a mask v with
  | zero => exact w
  | succ n ih =>
    simp only [Memory.writeMask]
    apply ih
    split
    · exact tab_wf_put 0 m a _ w
    · exact w

theorem memory_wf_clear (m : Memory) (lo hi : Nat) (w : Memory.wf m = true) : Memory.wf (Memory.clear m lo hi) = true :=
  tab_wf_restrict 0 _ m w

/-! ### Memory: reads after writes -/

theorem memory_byte_put (m : Memory) (a j : Nat) (v : Byte) :
    Memory.byte (Tab.put 0 m a v) j = if j = a then v else Memory.byte m j := tab_get_put 0 m a j v

/-- A store leaves every byte outside its own as before. -/
theorem memory_byte_write_outside (m : Memory) (a n v j : Nat) (h : j < a ∨ a + n ≤ j) :
    Memory.byte (Memory.write m a n v) j = Memory.byte m j := by
  induction n generalizing m a v with
  | zero => rfl
  | succ n ih =>
    rw [Memory.write, ih _ _ _ (by omega), memory_byte_put, if_neg (by omega)]

/-- A store puts byte `i` of the value at its `i`-th address. -/
theorem memory_byte_write_inside (m : Memory) (a n v i : Nat) (h : i < n) :
    Memory.byte (Memory.write m a n v) (a + i) = BitVec.ofNat 8 (v / 256 ^ i) := by
  induction n generalizing m a v i with
  | zero => omega
  | succ n ih =>
    cases i with
    | zero =>
      rw [Memory.write, memory_byte_write_outside _ _ _ _ _ (by omega), memory_byte_put, if_pos (by omega)]
      simp
    | succ i =>
      rw [Memory.write, show a + (i + 1) = a + 1 + i by omega, ih _ _ _ _ (by omega), Nat.div_div_eq_div_mul, pow_succ,
        Nat.mul_comm]

/-- A load depends only on the bytes it reads. -/
theorem memory_read_congr (m m' : Memory) (a n : Nat) (h : ∀ j, a ≤ j → j < a + n → Memory.byte m j = Memory.byte m' j) :
    Memory.read m a n = Memory.read m' a n := by
  induction n generalizing a with
  | zero => rfl
  | succ n ih =>
    rw [Memory.read, Memory.read, h a (by omega) (by omega), ih (a + 1) (fun j h1 h2 => h j (by omega) (by omega))]

/-- A load after a store to the same place reads the value stored, as wide as the store. -/
theorem memory_read_write (m : Memory) (a n v : Nat) : Memory.read (Memory.write m a n v) a n = v % 256 ^ n := by
  induction n generalizing m a v with
  | zero => simp [Memory.read, Nat.mod_one]
  | succ n ih =>
    rw [Memory.read, Memory.write, ih, memory_byte_write_outside _ _ _ _ _ (by omega), memory_byte_put, if_pos rfl,
      BitVec.toNat_ofNat, Nat.pow_succ 256 n, Nat.mul_comm (256 ^ n) 256, Nat.mod_mul]

end Sys2Proof.Machine
end

