-- ==== Sys2Proof/Laws/State.lean ====
section
/-! SUPPORT. What each named update of the state leaves alone, one lemma for each field, and the reads of a core and of
a register after a write. -/

namespace Sys2Proof.Machine

/-! ### A core replaced or changed -/

theorem core_setCore (s : State) (c d : Nat) (k : Core) : (s.setCore c k).core d = if d = c then k else s.core d := by
  simp [State.setCore, State.core, tab_get_put]
theorem core_modCore (s : State) (c d : Nat) (f : Core → Core) :
    (s.modCore c f).core d = if d = c then f (s.core c) else s.core d := by
  simp [State.modCore, core_setCore]
@[simp] theorem core_setCore_same (s : State) (c : Nat) (k : Core) : (s.setCore c k).core c = k := by simp [core_setCore]
@[simp] theorem core_modCore_same (s : State) (c : Nat) (f : Core → Core) : (s.modCore c f).core c = f (s.core c) := by
  simp [core_modCore]

@[simp] theorem setCore_pending (s : State) (c : Nat) (k : Core) : (s.setCore c k).pending = s.pending := rfl
@[simp] theorem setCore_regs (s : State) (c : Nat) (k : Core) : (s.setCore c k).regs = s.regs := rfl
@[simp] theorem setCore_latch (s : State) (c : Nat) (k : Core) : (s.setCore c k).latch = s.latch := rfl
@[simp] theorem setCore_hold (s : State) (c : Nat) (k : Core) : (s.setCore c k).hold = s.hold := rfl
@[simp] theorem setCore_mem (s : State) (c : Nat) (k : Core) : (s.setCore c k).mem = s.mem := rfl
@[simp] theorem setCore_poison (s : State) (c : Nat) (k : Core) : (s.setCore c k).poison = s.poison := rfl
@[simp] theorem setCore_now (s : State) (c : Nat) (k : Core) : (s.setCore c k).now = s.now := rfl
@[simp] theorem setCore_tick (s : State) (c : Nat) (k : Core) : (s.setCore c k).tick = s.tick := rfl
@[simp] theorem setCore_tickRuns (s : State) (c : Nat) (k : Core) : (s.setCore c k).tickRuns = s.tickRuns := rfl
@[simp] theorem setCore_free (s : State) (c : Nat) (k : Core) : (s.setCore c k).free = s.free := rfl
@[simp] theorem setCore_reads (s : State) (c : Nat) (k : Core) : (s.setCore c k).reads = s.reads := rfl
@[simp] theorem setCore_pool (s : State) (c : Nat) (k : Core) : (s.setCore c k).pool = s.pool := rfl
@[simp] theorem setCore_nextId (s : State) (c : Nat) (k : Core) : (s.setCore c k).nextId = s.nextId := rfl
@[simp] theorem setCore_seqs (s : State) (c : Nat) (k : Core) : (s.setCore c k).seqs = s.seqs := rfl
@[simp] theorem setCore_mcasts (s : State) (c : Nat) (k : Core) : (s.setCore c k).mcasts = s.mcasts := rfl
@[simp] theorem setCore_credUsed (s : State) (c : Nat) (k : Core) : (s.setCore c k).credUsed = s.credUsed := rfl
@[simp] theorem setCore_credOwed (s : State) (c : Nat) (k : Core) : (s.setCore c k).credOwed = s.credOwed := rfl
@[simp] theorem setCore_wrLines (s : State) (c : Nat) (k : Core) : (s.setCore c k).wrLines = s.wrLines := rfl
@[simp] theorem setCore_got (s : State) (c : Nat) (k : Core) : (s.setCore c k).got = s.got := rfl
@[simp] theorem setCore_grants (s : State) (c : Nat) (k : Core) : (s.setCore c k).grants = s.grants := rfl
@[simp] theorem setCore_changed (s : State) (c : Nat) (k : Core) : (s.setCore c k).changed = s.changed := rfl
@[simp] theorem setCore_greqs (s : State) (c : Nat) (k : Core) : (s.setCore c k).greqs = s.greqs := rfl
@[simp] theorem setCore_rr (s : State) (c : Nat) (k : Core) : (s.setCore c k).rr = s.rr := rfl
@[simp] theorem setCore_own (s : State) (c : Nat) (k : Core) : (s.setCore c k).own = s.own := rfl
@[simp] theorem setCore_epochs (s : State) (c : Nat) (k : Core) : (s.setCore c k).epochs = s.epochs := rfl
@[simp] theorem setCore_spec (s : State) (c : Nat) (k : Core) : (s.setCore c k).spec = s.spec := rfl
@[simp] theorem setCore_commits (s : State) (c : Nat) (k : Core) : (s.setCore c k).commits = s.commits := rfl
@[simp] theorem setCore_portT (s : State) (c : Nat) (k : Core) : (s.setCore c k).portT = s.portT := rfl
@[simp] theorem setCore_streams (s : State) (c : Nat) (k : Core) : (s.setCore c k).streams = s.streams := rfl
@[simp] theorem setCore_reported (s : State) (c : Nat) (k : Core) : (s.setCore c k).reported = s.reported := rfl
@[simp] theorem setCore_sent (s : State) (c : Nat) (k : Core) : (s.setCore c k).sent = s.sent := rfl
@[simp] theorem setCore_scrubAt (s : State) (c : Nat) (k : Core) : (s.setCore c k).scrubAt = s.scrubAt := rfl
@[simp] theorem setCore_scrubT (s : State) (c : Nat) (k : Core) : (s.setCore c k).scrubT = s.scrubT := rfl
@[simp] theorem setCore_rows (s : State) (c : Nat) (k : Core) : (s.setCore c k).rows = s.rows := rfl
@[simp] theorem setCore_aged (s : State) (c : Nat) (k : Core) : (s.setCore c k).aged = s.aged := rfl
@[simp] theorem setCore_refNext (s : State) (c : Nat) (k : Core) : (s.setCore c k).refNext = s.refNext := rfl
@[simp] theorem setCore_lastTemp (s : State) (c : Nat) (k : Core) : (s.setCore c k).lastTemp = s.lastTemp := rfl
@[simp] theorem setCore_hbmGood (s : State) (c : Nat) (k : Core) : (s.setCore c k).hbmGood = s.hbmGood := rfl
@[simp] theorem setCore_linksUp (s : State) (c : Nat) (k : Core) : (s.setCore c k).linksUp = s.linksUp := rfl
@[simp] theorem setCore_links (s : State) (c : Nat) (k : Core) : (s.setCore c k).links = s.links := rfl
@[simp] theorem setCore_testFrom (s : State) (c : Nat) (k : Core) : (s.setCore c k).testFrom = s.testFrom := rfl
@[simp] theorem setCore_swaps (s : State) (c : Nat) (k : Core) : (s.setCore c k).swaps = s.swaps := rfl
@[simp] theorem setCore_swapWait (s : State) (c : Nat) (k : Core) : (s.setCore c k).swapWait = s.swapWait := rfl
@[simp] theorem setCore_image (s : State) (c : Nat) (k : Core) : (s.setCore c k).image = s.image := rfl
@[simp] theorem setCore_steps (s : State) (c : Nat) (k : Core) : (s.setCore c k).steps = s.steps := rfl
@[simp] theorem setCore_stretch (s : State) (c : Nat) (k : Core) : (s.setCore c k).stretch = s.stretch := rfl
@[simp] theorem setCore_swallow (s : State) (c : Nat) (k : Core) : (s.setCore c k).swallow = s.swallow := rfl
@[simp] theorem setCore_ocSince (s : State) (c : Nat) (k : Core) : (s.setCore c k).ocSince = s.ocSince := rfl
@[simp] theorem setCore_holdover (s : State) (c : Nat) (k : Core) : (s.setCore c k).holdover = s.holdover := rfl
@[simp] theorem setCore_reqs (s : State) (c : Nat) (k : Core) : (s.setCore c k).reqs = s.reqs := rfl
@[simp] theorem setCore_avs (s : State) (c : Nat) (k : Core) : (s.setCore c k).avs = s.avs := rfl
@[simp] theorem setCore_vcore (s : State) (c : Nat) (k : Core) : (s.setCore c k).vcore = s.vcore := rfl
@[simp] theorem setCore_entries (s : State) (c : Nat) (k : Core) : (s.setCore c k).entries = s.entries := rfl
@[simp] theorem setCore_idleAt (s : State) (c : Nat) (k : Core) : (s.setCore c k).idleAt = s.idleAt := rfl
@[simp] theorem setCore_waking (s : State) (c : Nat) (k : Core) : (s.setCore c k).waking = s.waking := rfl
@[simp] theorem setCore_saveRegs (s : State) (c : Nat) (k : Core) : (s.setCore c k).saveRegs = s.saveRegs := rfl
@[simp] theorem setCore_sensors (s : State) (c : Nat) (k : Core) : (s.setCore c k).sensors = s.sensors := rfl
@[simp] theorem setCore_estHigh (s : State) (c : Nat) (k : Core) : (s.setCore c k).estHigh = s.estHigh := rfl
@[simp] theorem setCore_capAt (s : State) (c : Nat) (k : Core) : (s.setCore c k).capAt = s.capAt := rfl
@[simp] theorem setCore_hotAt (s : State) (c : Nat) (k : Core) : (s.setCore c k).hotAt = s.hotAt := rfl
@[simp] theorem setCore_log (s : State) (c : Nat) (k : Core) : (s.setCore c k).log = s.log := rfl
@[simp] theorem setCore_logSeq (s : State) (c : Nat) (k : Core) : (s.setCore c k).logSeq = s.logSeq := rfl
@[simp] theorem setCore_lostRun (s : State) (c : Nat) (k : Core) : (s.setCore c k).lostRun = s.lostRun := rfl
@[simp] theorem setCore_quench (s : State) (c : Nat) (k : Core) : (s.setCore c k).quench = s.quench := rfl
@[simp] theorem setCore_frozen (s : State) (c : Nat) (k : Core) : (s.setCore c k).frozen = s.frozen := rfl
@[simp] theorem setCore_startAt (s : State) (c : Nat) (k : Core) : (s.setCore c k).startAt = s.startAt := rfl
@[simp] theorem setCore_beatAt (s : State) (c : Nat) (k : Core) : (s.setCore c k).beatAt = s.beatAt := rfl
@[simp] theorem setCore_aliveAt (s : State) (c : Nat) (k : Core) : (s.setCore c k).aliveAt = s.aliveAt := rfl
@[simp] theorem setCore_misses (s : State) (c : Nat) (k : Core) : (s.setCore c k).misses = s.misses := rfl
@[simp] theorem setCore_f0Down (s : State) (c : Nat) (k : Core) : (s.setCore c k).f0Down = s.f0Down := rfl
@[simp] theorem setCore_locked (s : State) (c : Nat) (k : Core) : (s.setCore c k).locked = s.locked := rfl
@[simp] theorem setCore_slotBoot (s : State) (c : Nat) (k : Core) : (s.setCore c k).slotBoot = s.slotBoot := rfl
@[simp] theorem setCore_recovery (s : State) (c : Nat) (k : Core) : (s.setCore c k).recovery = s.recovery := rfl
@[simp] theorem setCore_spsReqs (s : State) (c : Nat) (k : Core) : (s.setCore c k).spsReqs = s.spsReqs := rfl
@[simp] theorem setCore_spsDown (s : State) (c : Nat) (k : Core) : (s.setCore c k).spsDown = s.spsDown := rfl
@[simp] theorem setCore_hostTx (s : State) (c : Nat) (k : Core) : (s.setCore c k).hostTx = s.hostTx := rfl
@[simp] theorem setCore_hostWait (s : State) (c : Nat) (k : Core) : (s.setCore c k).hostWait = s.hostWait := rfl
@[simp] theorem setCore_events (s : State) (c : Nat) (k : Core) : (s.setCore c k).events = s.events := rfl
@[simp] theorem setCore_evSeq (s : State) (c : Nat) (k : Core) : (s.setCore c k).evSeq = s.evSeq := rfl
@[simp] theorem setCore_evLost (s : State) (c : Nat) (k : Core) : (s.setCore c k).evLost = s.evLost := rfl
@[simp] theorem setCore_tapIr (s : State) (c : Nat) (k : Core) : (s.setCore c k).tapIr = s.tapIr := rfl
@[simp] theorem setCore_tapDr (s : State) (c : Nat) (k : Core) : (s.setCore c k).tapDr = s.tapDr := rfl
@[simp] theorem setCore_tapCells (s : State) (c : Nat) (k : Core) : (s.setCore c k).tapCells = s.tapCells := rfl
@[simp] theorem setCore_flash (s : State) (c : Nat) (k : Core) : (s.setCore c k).flash = s.flash := rfl
@[simp] theorem setCore_flashSeq (s : State) (c : Nat) (k : Core) : (s.setCore c k).flashSeq = s.flashSeq := rfl
@[simp] theorem setCore_fOpen (s : State) (c : Nat) (k : Core) : (s.setCore c k).fOpen = s.fOpen := rfl
@[simp] theorem setCore_fuses (s : State) (c : Nat) (k : Core) : (s.setCore c k).fuses = s.fuses := rfl
@[simp] theorem setCore_fuseSeq (s : State) (c : Nat) (k : Core) : (s.setCore c k).fuseSeq = s.fuseSeq := rfl
@[simp] theorem setCore_env (s : State) (c : Nat) (k : Core) : (s.setCore c k).env = s.env := rfl
@[simp] theorem setCore_report (s : State) (c : Nat) (k : Core) : (s.setCore c k).report = s.report := rfl
@[simp] theorem setCore_guestOut (s : State) (c : Nat) (k : Core) : (s.setCore c k).guestOut = s.guestOut := rfl
@[simp] theorem setCore_guestReq (s : State) (c : Nat) (k : Core) : (s.setCore c k).guestReq = s.guestReq := rfl
@[simp] theorem setCore_viol (s : State) (c : Nat) (k : Core) : (s.setCore c k).viol = s.viol := rfl
@[simp] theorem setCore_violT (s : State) (c : Nat) (k : Core) : (s.setCore c k).violT = s.violT := rfl
@[simp] theorem setCore_ownLow (s : State) (c : Nat) (k : Core) : (s.setCore c k).ownLow = s.ownLow := rfl
@[simp] theorem setCore_claimed (s : State) (c : Nat) (k : Core) : (s.setCore c k).claimed = s.claimed := rfl
@[simp] theorem setCore_mirrorTx (s : State) (c : Nat) (k : Core) : (s.setCore c k).mirrorTx = s.mirrorTx := rfl
@[simp] theorem setCore_mirrorOut (s : State) (c : Nat) (k : Core) : (s.setCore c k).mirrorOut = s.mirrorOut := rfl
@[simp] theorem setCore_closing (s : State) (c : Nat) (k : Core) : (s.setCore c k).closing = s.closing := rfl
@[simp] theorem setCore_resync (s : State) (c : Nat) (k : Core) : (s.setCore c k).resync = s.resync := rfl
@[simp] theorem setCore_mirrorRx (s : State) (c : Nat) (k : Core) : (s.setCore c k).mirrorRx = s.mirrorRx := rfl
@[simp] theorem setCore_rxBytes (s : State) (c : Nat) (k : Core) : (s.setCore c k).rxBytes = s.rxBytes := rfl
@[simp] theorem setCore_rxSkip (s : State) (c : Nat) (k : Core) : (s.setCore c k).rxSkip = s.rxSkip := rfl
@[simp] theorem setCore_takeover (s : State) (c : Nat) (k : Core) : (s.setCore c k).takeover = s.takeover := rfl
@[simp] theorem setCore_mirDown (s : State) (c : Nat) (k : Core) : (s.setCore c k).mirDown = s.mirDown := rfl
@[simp] theorem setCore_pins (s : State) (c : Nat) (k : Core) : (s.setCore c k).pins = s.pins := rfl
@[simp] theorem modCore_pending (s : State) (c : Nat) (f : Core → Core) : (s.modCore c f).pending = s.pending := rfl
@[simp] theorem modCore_regs (s : State) (c : Nat) (f : Core → Core) : (s.modCore c f).regs = s.regs := rfl
@[simp] theorem modCore_latch (s : State) (c : Nat) (f : Core → Core) : (s.modCore c f).latch = s.latch := rfl
@[simp] theorem modCore_hold (s : State) (c : Nat) (f : Core → Core) : (s.modCore c f).hold = s.hold := rfl
@[simp] theorem modCore_mem (s : State) (c : Nat) (f : Core → Core) : (s.modCore c f).mem = s.mem := rfl
@[simp] theorem modCore_poison (s : State) (c : Nat) (f : Core → Core) : (s.modCore c f).poison = s.poison := rfl
@[simp] theorem modCore_now (s : State) (c : Nat) (f : Core → Core) : (s.modCore c f).now = s.now := rfl
@[simp] theorem modCore_tick (s : State) (c : Nat) (f : Core → Core) : (s.modCore c f).tick = s.tick := rfl
@[simp] theorem modCore_tickRuns (s : State) (c : Nat) (f : Core → Core) : (s.modCore c f).tickRuns = s.tickRuns := rfl
@[simp] theorem modCore_free (s : State) (c : Nat) (f : Core → Core) : (s.modCore c f).free = s.free := rfl
@[simp] theorem modCore_reads (s : State) (c : Nat) (f : Core → Core) : (s.modCore c f).reads = s.reads := rfl
@[simp] theorem modCore_pool (s : State) (c : Nat) (f : Core → Core) : (s.modCore c f).pool = s.pool := rfl
@[simp] theorem modCore_nextId (s : State) (c : Nat) (f : Core → Core) : (s.modCore c f).nextId = s.nextId := rfl
@[simp] theorem modCore_seqs (s : State) (c : Nat) (f : Core → Core) : (s.modCore c f).seqs = s.seqs := rfl
@[simp] theorem modCore_mcasts (s : State) (c : Nat) (f : Core → Core) : (s.modCore c f).mcasts = s.mcasts := rfl
@[simp] theorem modCore_credUsed (s : State) (c : Nat) (f : Core → Core) : (s.modCore c f).credUsed = s.credUsed := rfl
@[simp] theorem modCore_credOwed (s : State) (c : Nat) (f : Core → Core) : (s.modCore c f).credOwed = s.credOwed := rfl
@[simp] theorem modCore_wrLines (s : State) (c : Nat) (f : Core → Core) : (s.modCore c f).wrLines = s.wrLines := rfl
@[simp] theorem modCore_got (s : State) (c : Nat) (f : Core → Core) : (s.modCore c f).got = s.got := rfl
@[simp] theorem modCore_grants (s : State) (c : Nat) (f : Core → Core) : (s.modCore c f).grants = s.grants := rfl
@[simp] theorem modCore_changed (s : State) (c : Nat) (f : Core → Core) : (s.modCore c f).changed = s.changed := rfl
@[simp] theorem modCore_greqs (s : State) (c : Nat) (f : Core → Core) : (s.modCore c f).greqs = s.greqs := rfl
@[simp] theorem modCore_rr (s : State) (c : Nat) (f : Core → Core) : (s.modCore c f).rr = s.rr := rfl
@[simp] theorem modCore_own (s : State) (c : Nat) (f : Core → Core) : (s.modCore c f).own = s.own := rfl
@[simp] theorem modCore_epochs (s : State) (c : Nat) (f : Core → Core) : (s.modCore c f).epochs = s.epochs := rfl
@[simp] theorem modCore_spec (s : State) (c : Nat) (f : Core → Core) : (s.modCore c f).spec = s.spec := rfl
@[simp] theorem modCore_commits (s : State) (c : Nat) (f : Core → Core) : (s.modCore c f).commits = s.commits := rfl
@[simp] theorem modCore_portT (s : State) (c : Nat) (f : Core → Core) : (s.modCore c f).portT = s.portT := rfl
@[simp] theorem modCore_streams (s : State) (c : Nat) (f : Core → Core) : (s.modCore c f).streams = s.streams := rfl
@[simp] theorem modCore_reported (s : State) (c : Nat) (f : Core → Core) : (s.modCore c f).reported = s.reported := rfl
@[simp] theorem modCore_sent (s : State) (c : Nat) (f : Core → Core) : (s.modCore c f).sent = s.sent := rfl
@[simp] theorem modCore_scrubAt (s : State) (c : Nat) (f : Core → Core) : (s.modCore c f).scrubAt = s.scrubAt := rfl
@[simp] theorem modCore_scrubT (s : State) (c : Nat) (f : Core → Core) : (s.modCore c f).scrubT = s.scrubT := rfl
@[simp] theorem modCore_rows (s : State) (c : Nat) (f : Core → Core) : (s.modCore c f).rows = s.rows := rfl
@[simp] theorem modCore_aged (s : State) (c : Nat) (f : Core → Core) : (s.modCore c f).aged = s.aged := rfl
@[simp] theorem modCore_refNext (s : State) (c : Nat) (f : Core → Core) : (s.modCore c f).refNext = s.refNext := rfl
@[simp] theorem modCore_lastTemp (s : State) (c : Nat) (f : Core → Core) : (s.modCore c f).lastTemp = s.lastTemp := rfl
@[simp] theorem modCore_hbmGood (s : State) (c : Nat) (f : Core → Core) : (s.modCore c f).hbmGood = s.hbmGood := rfl
@[simp] theorem modCore_linksUp (s : State) (c : Nat) (f : Core → Core) : (s.modCore c f).linksUp = s.linksUp := rfl
@[simp] theorem modCore_links (s : State) (c : Nat) (f : Core → Core) : (s.modCore c f).links = s.links := rfl
@[simp] theorem modCore_testFrom (s : State) (c : Nat) (f : Core → Core) : (s.modCore c f).testFrom = s.testFrom := rfl
@[simp] theorem modCore_swaps (s : State) (c : Nat) (f : Core → Core) : (s.modCore c f).swaps = s.swaps := rfl
@[simp] theorem modCore_swapWait (s : State) (c : Nat) (f : Core → Core) : (s.modCore c f).swapWait = s.swapWait := rfl
@[simp] theorem modCore_image (s : State) (c : Nat) (f : Core → Core) : (s.modCore c f).image = s.image := rfl
@[simp] theorem modCore_steps (s : State) (c : Nat) (f : Core → Core) : (s.modCore c f).steps = s.steps := rfl
@[simp] theorem modCore_stretch (s : State) (c : Nat) (f : Core → Core) : (s.modCore c f).stretch = s.stretch := rfl
@[simp] theorem modCore_swallow (s : State) (c : Nat) (f : Core → Core) : (s.modCore c f).swallow = s.swallow := rfl
@[simp] theorem modCore_ocSince (s : State) (c : Nat) (f : Core → Core) : (s.modCore c f).ocSince = s.ocSince := rfl
@[simp] theorem modCore_holdover (s : State) (c : Nat) (f : Core → Core) : (s.modCore c f).holdover = s.holdover := rfl
@[simp] theorem modCore_reqs (s : State) (c : Nat) (f : Core → Core) : (s.modCore c f).reqs = s.reqs := rfl
@[simp] theorem modCore_avs (s : State) (c : Nat) (f : Core → Core) : (s.modCore c f).avs = s.avs := rfl
@[simp] theorem modCore_vcore (s : State) (c : Nat) (f : Core → Core) : (s.modCore c f).vcore = s.vcore := rfl
@[simp] theorem modCore_entries (s : State) (c : Nat) (f : Core → Core) : (s.modCore c f).entries = s.entries := rfl
@[simp] theorem modCore_idleAt (s : State) (c : Nat) (f : Core → Core) : (s.modCore c f).idleAt = s.idleAt := rfl
@[simp] theorem modCore_waking (s : State) (c : Nat) (f : Core → Core) : (s.modCore c f).waking = s.waking := rfl
@[simp] theorem modCore_saveRegs (s : State) (c : Nat) (f : Core → Core) : (s.modCore c f).saveRegs = s.saveRegs := rfl
@[simp] theorem modCore_sensors (s : State) (c : Nat) (f : Core → Core) : (s.modCore c f).sensors = s.sensors := rfl
@[simp] theorem modCore_estHigh (s : State) (c : Nat) (f : Core → Core) : (s.modCore c f).estHigh = s.estHigh := rfl
@[simp] theorem modCore_capAt (s : State) (c : Nat) (f : Core → Core) : (s.modCore c f).capAt = s.capAt := rfl
@[simp] theorem modCore_hotAt (s : State) (c : Nat) (f : Core → Core) : (s.modCore c f).hotAt = s.hotAt := rfl
@[simp] theorem modCore_log (s : State) (c : Nat) (f : Core → Core) : (s.modCore c f).log = s.log := rfl
@[simp] theorem modCore_logSeq (s : State) (c : Nat) (f : Core → Core) : (s.modCore c f).logSeq = s.logSeq := rfl
@[simp] theorem modCore_lostRun (s : State) (c : Nat) (f : Core → Core) : (s.modCore c f).lostRun = s.lostRun := rfl
@[simp] theorem modCore_quench (s : State) (c : Nat) (f : Core → Core) : (s.modCore c f).quench = s.quench := rfl
@[simp] theorem modCore_frozen (s : State) (c : Nat) (f : Core → Core) : (s.modCore c f).frozen = s.frozen := rfl
@[simp] theorem modCore_startAt (s : State) (c : Nat) (f : Core → Core) : (s.modCore c f).startAt = s.startAt := rfl
@[simp] theorem modCore_beatAt (s : State) (c : Nat) (f : Core → Core) : (s.modCore c f).beatAt = s.beatAt := rfl
@[simp] theorem modCore_aliveAt (s : State) (c : Nat) (f : Core → Core) : (s.modCore c f).aliveAt = s.aliveAt := rfl
@[simp] theorem modCore_misses (s : State) (c : Nat) (f : Core → Core) : (s.modCore c f).misses = s.misses := rfl
@[simp] theorem modCore_f0Down (s : State) (c : Nat) (f : Core → Core) : (s.modCore c f).f0Down = s.f0Down := rfl
@[simp] theorem modCore_locked (s : State) (c : Nat) (f : Core → Core) : (s.modCore c f).locked = s.locked := rfl
@[simp] theorem modCore_slotBoot (s : State) (c : Nat) (f : Core → Core) : (s.modCore c f).slotBoot = s.slotBoot := rfl
@[simp] theorem modCore_recovery (s : State) (c : Nat) (f : Core → Core) : (s.modCore c f).recovery = s.recovery := rfl
@[simp] theorem modCore_spsReqs (s : State) (c : Nat) (f : Core → Core) : (s.modCore c f).spsReqs = s.spsReqs := rfl
@[simp] theorem modCore_spsDown (s : State) (c : Nat) (f : Core → Core) : (s.modCore c f).spsDown = s.spsDown := rfl
@[simp] theorem modCore_hostTx (s : State) (c : Nat) (f : Core → Core) : (s.modCore c f).hostTx = s.hostTx := rfl
@[simp] theorem modCore_hostWait (s : State) (c : Nat) (f : Core → Core) : (s.modCore c f).hostWait = s.hostWait := rfl
@[simp] theorem modCore_events (s : State) (c : Nat) (f : Core → Core) : (s.modCore c f).events = s.events := rfl
@[simp] theorem modCore_evSeq (s : State) (c : Nat) (f : Core → Core) : (s.modCore c f).evSeq = s.evSeq := rfl
@[simp] theorem modCore_evLost (s : State) (c : Nat) (f : Core → Core) : (s.modCore c f).evLost = s.evLost := rfl
@[simp] theorem modCore_tapIr (s : State) (c : Nat) (f : Core → Core) : (s.modCore c f).tapIr = s.tapIr := rfl
@[simp] theorem modCore_tapDr (s : State) (c : Nat) (f : Core → Core) : (s.modCore c f).tapDr = s.tapDr := rfl
@[simp] theorem modCore_tapCells (s : State) (c : Nat) (f : Core → Core) : (s.modCore c f).tapCells = s.tapCells := rfl
@[simp] theorem modCore_flash (s : State) (c : Nat) (f : Core → Core) : (s.modCore c f).flash = s.flash := rfl
@[simp] theorem modCore_flashSeq (s : State) (c : Nat) (f : Core → Core) : (s.modCore c f).flashSeq = s.flashSeq := rfl
@[simp] theorem modCore_fOpen (s : State) (c : Nat) (f : Core → Core) : (s.modCore c f).fOpen = s.fOpen := rfl
@[simp] theorem modCore_fuses (s : State) (c : Nat) (f : Core → Core) : (s.modCore c f).fuses = s.fuses := rfl
@[simp] theorem modCore_fuseSeq (s : State) (c : Nat) (f : Core → Core) : (s.modCore c f).fuseSeq = s.fuseSeq := rfl
@[simp] theorem modCore_env (s : State) (c : Nat) (f : Core → Core) : (s.modCore c f).env = s.env := rfl
@[simp] theorem modCore_report (s : State) (c : Nat) (f : Core → Core) : (s.modCore c f).report = s.report := rfl
@[simp] theorem modCore_guestOut (s : State) (c : Nat) (f : Core → Core) : (s.modCore c f).guestOut = s.guestOut := rfl
@[simp] theorem modCore_guestReq (s : State) (c : Nat) (f : Core → Core) : (s.modCore c f).guestReq = s.guestReq := rfl
@[simp] theorem modCore_viol (s : State) (c : Nat) (f : Core → Core) : (s.modCore c f).viol = s.viol := rfl
@[simp] theorem modCore_violT (s : State) (c : Nat) (f : Core → Core) : (s.modCore c f).violT = s.violT := rfl
@[simp] theorem modCore_ownLow (s : State) (c : Nat) (f : Core → Core) : (s.modCore c f).ownLow = s.ownLow := rfl
@[simp] theorem modCore_claimed (s : State) (c : Nat) (f : Core → Core) : (s.modCore c f).claimed = s.claimed := rfl
@[simp] theorem modCore_mirrorTx (s : State) (c : Nat) (f : Core → Core) : (s.modCore c f).mirrorTx = s.mirrorTx := rfl
@[simp] theorem modCore_mirrorOut (s : State) (c : Nat) (f : Core → Core) : (s.modCore c f).mirrorOut = s.mirrorOut := rfl
@[simp] theorem modCore_closing (s : State) (c : Nat) (f : Core → Core) : (s.modCore c f).closing = s.closing := rfl
@[simp] theorem modCore_resync (s : State) (c : Nat) (f : Core → Core) : (s.modCore c f).resync = s.resync := rfl
@[simp] theorem modCore_mirrorRx (s : State) (c : Nat) (f : Core → Core) : (s.modCore c f).mirrorRx = s.mirrorRx := rfl
@[simp] theorem modCore_rxBytes (s : State) (c : Nat) (f : Core → Core) : (s.modCore c f).rxBytes = s.rxBytes := rfl
@[simp] theorem modCore_rxSkip (s : State) (c : Nat) (f : Core → Core) : (s.modCore c f).rxSkip = s.rxSkip := rfl
@[simp] theorem modCore_takeover (s : State) (c : Nat) (f : Core → Core) : (s.modCore c f).takeover = s.takeover := rfl
@[simp] theorem modCore_mirDown (s : State) (c : Nat) (f : Core → Core) : (s.modCore c f).mirDown = s.mirDown := rfl
@[simp] theorem modCore_pins (s : State) (c : Nat) (f : Core → Core) : (s.modCore c f).pins = s.pins := rfl

/-! ### A register written -/

theorem reg_setReg (s : State) (a b : Nat) (v : Word) : (s.setReg a v).reg b = if b = a then v else s.reg b := by
  unfold State.setReg State.reg
  by_cases h : b = a
  · subst h; simp
  · simp [h, tab_get_put_other _ _ _ _ _ _ h]
@[simp] theorem reg_setReg_same (s : State) (a : Nat) (v : Word) : (s.setReg a v).reg a = v := by simp [reg_setReg]
theorem reg_setRf (s : State) (a b lo n v : Nat) :
    (s.setRf a lo n v).reg b = if b = a then withFld (s.reg a) lo n v else s.reg b := by
  simp [State.setRf, reg_setReg]

@[simp] theorem setReg_pending (s : State) (a : Nat) (v : Word) : (s.setReg a v).pending = s.pending := rfl
@[simp] theorem setReg_latch (s : State) (a : Nat) (v : Word) : (s.setReg a v).latch = s.latch := rfl
@[simp] theorem setReg_hold (s : State) (a : Nat) (v : Word) : (s.setReg a v).hold = s.hold := rfl
@[simp] theorem setReg_mem (s : State) (a : Nat) (v : Word) : (s.setReg a v).mem = s.mem := rfl
@[simp] theorem setReg_poison (s : State) (a : Nat) (v : Word) : (s.setReg a v).poison = s.poison := rfl
@[simp] theorem setReg_now (s : State) (a : Nat) (v : Word) : (s.setReg a v).now = s.now := rfl
@[simp] theorem setReg_tick (s : State) (a : Nat) (v : Word) : (s.setReg a v).tick = s.tick := rfl
@[simp] theorem setReg_tickRuns (s : State) (a : Nat) (v : Word) : (s.setReg a v).tickRuns = s.tickRuns := rfl
@[simp] theorem setReg_free (s : State) (a : Nat) (v : Word) : (s.setReg a v).free = s.free := rfl
@[simp] theorem setReg_cores (s : State) (a : Nat) (v : Word) : (s.setReg a v).cores = s.cores := rfl
@[simp] theorem setReg_reads (s : State) (a : Nat) (v : Word) : (s.setReg a v).reads = s.reads := rfl
@[simp] theorem setReg_pool (s : State) (a : Nat) (v : Word) : (s.setReg a v).pool = s.pool := rfl
@[simp] theorem setReg_nextId (s : State) (a : Nat) (v : Word) : (s.setReg a v).nextId = s.nextId := rfl
@[simp] theorem setReg_seqs (s : State) (a : Nat) (v : Word) : (s.setReg a v).seqs = s.seqs := rfl
@[simp] theorem setReg_mcasts (s : State) (a : Nat) (v : Word) : (s.setReg a v).mcasts = s.mcasts := rfl
@[simp] theorem setReg_credUsed (s : State) (a : Nat) (v : Word) : (s.setReg a v).credUsed = s.credUsed := rfl
@[simp] theorem setReg_credOwed (s : State) (a : Nat) (v : Word) : (s.setReg a v).credOwed = s.credOwed := rfl
@[simp] theorem setReg_wrLines (s : State) (a : Nat) (v : Word) : (s.setReg a v).wrLines = s.wrLines := rfl
@[simp] theorem setReg_got (s : State) (a : Nat) (v : Word) : (s.setReg a v).got = s.got := rfl
@[simp] theorem setReg_grants (s : State) (a : Nat) (v : Word) : (s.setReg a v).grants = s.grants := rfl
@[simp] theorem setReg_changed (s : State) (a : Nat) (v : Word) : (s.setReg a v).changed = s.changed := rfl
@[simp] theorem setReg_greqs (s : State) (a : Nat) (v : Word) : (s.setReg a v).greqs = s.greqs := rfl
@[simp] theorem setReg_rr (s : State) (a : Nat) (v : Word) : (s.setReg a v).rr = s.rr := rfl
@[simp] theorem setReg_own (s : State) (a : Nat) (v : Word) : (s.setReg a v).own = s.own := rfl
@[simp] theorem setReg_epochs (s : State) (a : Nat) (v : Word) : (s.setReg a v).epochs = s.epochs := rfl
@[simp] theorem setReg_spec (s : State) (a : Nat) (v : Word) : (s.setReg a v).spec = s.spec := rfl
@[simp] theorem setReg_commits (s : State) (a : Nat) (v : Word) : (s.setReg a v).commits = s.commits := rfl
@[simp] theorem setReg_portT (s : State) (a : Nat) (v : Word) : (s.setReg a v).portT = s.portT := rfl
@[simp] theorem setReg_streams (s : State) (a : Nat) (v : Word) : (s.setReg a v).streams = s.streams := rfl
@[simp] theorem setReg_reported (s : State) (a : Nat) (v : Word) : (s.setReg a v).reported = s.reported := rfl
@[simp] theorem setReg_sent (s : State) (a : Nat) (v : Word) : (s.setReg a v).sent = s.sent := rfl
@[simp] theorem setReg_scrubAt (s : State) (a : Nat) (v : Word) : (s.setReg a v).scrubAt = s.scrubAt := rfl
@[simp] theorem setReg_scrubT (s : State) (a : Nat) (v : Word) : (s.setReg a v).scrubT = s.scrubT := rfl
@[simp] theorem setReg_rows (s : State) (a : Nat) (v : Word) : (s.setReg a v).rows = s.rows := rfl
@[simp] theorem setReg_aged (s : State) (a : Nat) (v : Word) : (s.setReg a v).aged = s.aged := rfl
@[simp] theorem setReg_refNext (s : State) (a : Nat) (v : Word) : (s.setReg a v).refNext = s.refNext := rfl
@[simp] theorem setReg_lastTemp (s : State) (a : Nat) (v : Word) : (s.setReg a v).lastTemp = s.lastTemp := rfl
@[simp] theorem setReg_hbmGood (s : State) (a : Nat) (v : Word) : (s.setReg a v).hbmGood = s.hbmGood := rfl
@[simp] theorem setReg_linksUp (s : State) (a : Nat) (v : Word) : (s.setReg a v).linksUp = s.linksUp := rfl
@[simp] theorem setReg_links (s : State) (a : Nat) (v : Word) : (s.setReg a v).links = s.links := rfl
@[simp] theorem setReg_testFrom (s : State) (a : Nat) (v : Word) : (s.setReg a v).testFrom = s.testFrom := rfl
@[simp] theorem setReg_swaps (s : State) (a : Nat) (v : Word) : (s.setReg a v).swaps = s.swaps := rfl
@[simp] theorem setReg_swapWait (s : State) (a : Nat) (v : Word) : (s.setReg a v).swapWait = s.swapWait := rfl
@[simp] theorem setReg_image (s : State) (a : Nat) (v : Word) : (s.setReg a v).image = s.image := rfl
@[simp] theorem setReg_steps (s : State) (a : Nat) (v : Word) : (s.setReg a v).steps = s.steps := rfl
@[simp] theorem setReg_stretch (s : State) (a : Nat) (v : Word) : (s.setReg a v).stretch = s.stretch := rfl
@[simp] theorem setReg_swallow (s : State) (a : Nat) (v : Word) : (s.setReg a v).swallow = s.swallow := rfl
@[simp] theorem setReg_ocSince (s : State) (a : Nat) (v : Word) : (s.setReg a v).ocSince = s.ocSince := rfl
@[simp] theorem setReg_holdover (s : State) (a : Nat) (v : Word) : (s.setReg a v).holdover = s.holdover := rfl
@[simp] theorem setReg_reqs (s : State) (a : Nat) (v : Word) : (s.setReg a v).reqs = s.reqs := rfl
@[simp] theorem setReg_avs (s : State) (a : Nat) (v : Word) : (s.setReg a v).avs = s.avs := rfl
@[simp] theorem setReg_vcore (s : State) (a : Nat) (v : Word) : (s.setReg a v).vcore = s.vcore := rfl
@[simp] theorem setReg_entries (s : State) (a : Nat) (v : Word) : (s.setReg a v).entries = s.entries := rfl
@[simp] theorem setReg_idleAt (s : State) (a : Nat) (v : Word) : (s.setReg a v).idleAt = s.idleAt := rfl
@[simp] theorem setReg_waking (s : State) (a : Nat) (v : Word) : (s.setReg a v).waking = s.waking := rfl
@[simp] theorem setReg_saveRegs (s : State) (a : Nat) (v : Word) : (s.setReg a v).saveRegs = s.saveRegs := rfl
@[simp] theorem setReg_sensors (s : State) (a : Nat) (v : Word) : (s.setReg a v).sensors = s.sensors := rfl
@[simp] theorem setReg_estHigh (s : State) (a : Nat) (v : Word) : (s.setReg a v).estHigh = s.estHigh := rfl
@[simp] theorem setReg_capAt (s : State) (a : Nat) (v : Word) : (s.setReg a v).capAt = s.capAt := rfl
@[simp] theorem setReg_hotAt (s : State) (a : Nat) (v : Word) : (s.setReg a v).hotAt = s.hotAt := rfl
@[simp] theorem setReg_log (s : State) (a : Nat) (v : Word) : (s.setReg a v).log = s.log := rfl
@[simp] theorem setReg_logSeq (s : State) (a : Nat) (v : Word) : (s.setReg a v).logSeq = s.logSeq := rfl
@[simp] theorem setReg_lostRun (s : State) (a : Nat) (v : Word) : (s.setReg a v).lostRun = s.lostRun := rfl
@[simp] theorem setReg_quench (s : State) (a : Nat) (v : Word) : (s.setReg a v).quench = s.quench := rfl
@[simp] theorem setReg_frozen (s : State) (a : Nat) (v : Word) : (s.setReg a v).frozen = s.frozen := rfl
@[simp] theorem setReg_startAt (s : State) (a : Nat) (v : Word) : (s.setReg a v).startAt = s.startAt := rfl
@[simp] theorem setReg_beatAt (s : State) (a : Nat) (v : Word) : (s.setReg a v).beatAt = s.beatAt := rfl
@[simp] theorem setReg_aliveAt (s : State) (a : Nat) (v : Word) : (s.setReg a v).aliveAt = s.aliveAt := rfl
@[simp] theorem setReg_misses (s : State) (a : Nat) (v : Word) : (s.setReg a v).misses = s.misses := rfl
@[simp] theorem setReg_f0Down (s : State) (a : Nat) (v : Word) : (s.setReg a v).f0Down = s.f0Down := rfl
@[simp] theorem setReg_locked (s : State) (a : Nat) (v : Word) : (s.setReg a v).locked = s.locked := rfl
@[simp] theorem setReg_slotBoot (s : State) (a : Nat) (v : Word) : (s.setReg a v).slotBoot = s.slotBoot := rfl
@[simp] theorem setReg_recovery (s : State) (a : Nat) (v : Word) : (s.setReg a v).recovery = s.recovery := rfl
@[simp] theorem setReg_spsReqs (s : State) (a : Nat) (v : Word) : (s.setReg a v).spsReqs = s.spsReqs := rfl
@[simp] theorem setReg_spsDown (s : State) (a : Nat) (v : Word) : (s.setReg a v).spsDown = s.spsDown := rfl
@[simp] theorem setReg_hostTx (s : State) (a : Nat) (v : Word) : (s.setReg a v).hostTx = s.hostTx := rfl
@[simp] theorem setReg_hostWait (s : State) (a : Nat) (v : Word) : (s.setReg a v).hostWait = s.hostWait := rfl
@[simp] theorem setReg_events (s : State) (a : Nat) (v : Word) : (s.setReg a v).events = s.events := rfl
@[simp] theorem setReg_evSeq (s : State) (a : Nat) (v : Word) : (s.setReg a v).evSeq = s.evSeq := rfl
@[simp] theorem setReg_evLost (s : State) (a : Nat) (v : Word) : (s.setReg a v).evLost = s.evLost := rfl
@[simp] theorem setReg_tapIr (s : State) (a : Nat) (v : Word) : (s.setReg a v).tapIr = s.tapIr := rfl
@[simp] theorem setReg_tapDr (s : State) (a : Nat) (v : Word) : (s.setReg a v).tapDr = s.tapDr := rfl
@[simp] theorem setReg_tapCells (s : State) (a : Nat) (v : Word) : (s.setReg a v).tapCells = s.tapCells := rfl
@[simp] theorem setReg_flash (s : State) (a : Nat) (v : Word) : (s.setReg a v).flash = s.flash := rfl
@[simp] theorem setReg_flashSeq (s : State) (a : Nat) (v : Word) : (s.setReg a v).flashSeq = s.flashSeq := rfl
@[simp] theorem setReg_fOpen (s : State) (a : Nat) (v : Word) : (s.setReg a v).fOpen = s.fOpen := rfl
@[simp] theorem setReg_fuses (s : State) (a : Nat) (v : Word) : (s.setReg a v).fuses = s.fuses := rfl
@[simp] theorem setReg_fuseSeq (s : State) (a : Nat) (v : Word) : (s.setReg a v).fuseSeq = s.fuseSeq := rfl
@[simp] theorem setReg_env (s : State) (a : Nat) (v : Word) : (s.setReg a v).env = s.env := rfl
@[simp] theorem setReg_report (s : State) (a : Nat) (v : Word) : (s.setReg a v).report = s.report := rfl
@[simp] theorem setReg_guestOut (s : State) (a : Nat) (v : Word) : (s.setReg a v).guestOut = s.guestOut := rfl
@[simp] theorem setReg_guestReq (s : State) (a : Nat) (v : Word) : (s.setReg a v).guestReq = s.guestReq := rfl
@[simp] theorem setReg_viol (s : State) (a : Nat) (v : Word) : (s.setReg a v).viol = s.viol := rfl
@[simp] theorem setReg_violT (s : State) (a : Nat) (v : Word) : (s.setReg a v).violT = s.violT := rfl
@[simp] theorem setReg_ownLow (s : State) (a : Nat) (v : Word) : (s.setReg a v).ownLow = s.ownLow := rfl
@[simp] theorem setReg_claimed (s : State) (a : Nat) (v : Word) : (s.setReg a v).claimed = s.claimed := rfl
@[simp] theorem setReg_mirrorTx (s : State) (a : Nat) (v : Word) : (s.setReg a v).mirrorTx = s.mirrorTx := rfl
@[simp] theorem setReg_mirrorOut (s : State) (a : Nat) (v : Word) : (s.setReg a v).mirrorOut = s.mirrorOut := rfl
@[simp] theorem setReg_closing (s : State) (a : Nat) (v : Word) : (s.setReg a v).closing = s.closing := rfl
@[simp] theorem setReg_resync (s : State) (a : Nat) (v : Word) : (s.setReg a v).resync = s.resync := rfl
@[simp] theorem setReg_mirrorRx (s : State) (a : Nat) (v : Word) : (s.setReg a v).mirrorRx = s.mirrorRx := rfl
@[simp] theorem setReg_rxBytes (s : State) (a : Nat) (v : Word) : (s.setReg a v).rxBytes = s.rxBytes := rfl
@[simp] theorem setReg_rxSkip (s : State) (a : Nat) (v : Word) : (s.setReg a v).rxSkip = s.rxSkip := rfl
@[simp] theorem setReg_takeover (s : State) (a : Nat) (v : Word) : (s.setReg a v).takeover = s.takeover := rfl
@[simp] theorem setReg_mirDown (s : State) (a : Nat) (v : Word) : (s.setReg a v).mirDown = s.mirDown := rfl
@[simp] theorem setReg_pins (s : State) (a : Nat) (v : Word) : (s.setReg a v).pins = s.pins := rfl
@[simp] theorem setRf_pending (s : State) (a lo n v : Nat) : (s.setRf a lo n v).pending = s.pending := rfl
@[simp] theorem setRf_latch (s : State) (a lo n v : Nat) : (s.setRf a lo n v).latch = s.latch := rfl
@[simp] theorem setRf_hold (s : State) (a lo n v : Nat) : (s.setRf a lo n v).hold = s.hold := rfl
@[simp] theorem setRf_mem (s : State) (a lo n v : Nat) : (s.setRf a lo n v).mem = s.mem := rfl
@[simp] theorem setRf_poison (s : State) (a lo n v : Nat) : (s.setRf a lo n v).poison = s.poison := rfl
@[simp] theorem setRf_now (s : State) (a lo n v : Nat) : (s.setRf a lo n v).now = s.now := rfl
@[simp] theorem setRf_tick (s : State) (a lo n v : Nat) : (s.setRf a lo n v).tick = s.tick := rfl
@[simp] theorem setRf_tickRuns (s : State) (a lo n v : Nat) : (s.setRf a lo n v).tickRuns = s.tickRuns := rfl
@[simp] theorem setRf_free (s : State) (a lo n v : Nat) : (s.setRf a lo n v).free = s.free := rfl
@[simp] theorem setRf_cores (s : State) (a lo n v : Nat) : (s.setRf a lo n v).cores = s.cores := rfl
@[simp] theorem setRf_reads (s : State) (a lo n v : Nat) : (s.setRf a lo n v).reads = s.reads := rfl
@[simp] theorem setRf_pool (s : State) (a lo n v : Nat) : (s.setRf a lo n v).pool = s.pool := rfl
@[simp] theorem setRf_nextId (s : State) (a lo n v : Nat) : (s.setRf a lo n v).nextId = s.nextId := rfl
@[simp] theorem setRf_seqs (s : State) (a lo n v : Nat) : (s.setRf a lo n v).seqs = s.seqs := rfl
@[simp] theorem setRf_mcasts (s : State) (a lo n v : Nat) : (s.setRf a lo n v).mcasts = s.mcasts := rfl
@[simp] theorem setRf_credUsed (s : State) (a lo n v : Nat) : (s.setRf a lo n v).credUsed = s.credUsed := rfl
@[simp] theorem setRf_credOwed (s : State) (a lo n v : Nat) : (s.setRf a lo n v).credOwed = s.credOwed := rfl
@[simp] theorem setRf_wrLines (s : State) (a lo n v : Nat) : (s.setRf a lo n v).wrLines = s.wrLines := rfl
@[simp] theorem setRf_got (s : State) (a lo n v : Nat) : (s.setRf a lo n v).got = s.got := rfl
@[simp] theorem setRf_grants (s : State) (a lo n v : Nat) : (s.setRf a lo n v).grants = s.grants := rfl
@[simp] theorem setRf_changed (s : State) (a lo n v : Nat) : (s.setRf a lo n v).changed = s.changed := rfl
@[simp] theorem setRf_greqs (s : State) (a lo n v : Nat) : (s.setRf a lo n v).greqs = s.greqs := rfl
@[simp] theorem setRf_rr (s : State) (a lo n v : Nat) : (s.setRf a lo n v).rr = s.rr := rfl
@[simp] theorem setRf_own (s : State) (a lo n v : Nat) : (s.setRf a lo n v).own = s.own := rfl
@[simp] theorem setRf_epochs (s : State) (a lo n v : Nat) : (s.setRf a lo n v).epochs = s.epochs := rfl
@[simp] theorem setRf_spec (s : State) (a lo n v : Nat) : (s.setRf a lo n v).spec = s.spec := rfl
@[simp] theorem setRf_commits (s : State) (a lo n v : Nat) : (s.setRf a lo n v).commits = s.commits := rfl
@[simp] theorem setRf_portT (s : State) (a lo n v : Nat) : (s.setRf a lo n v).portT = s.portT := rfl
@[simp] theorem setRf_streams (s : State) (a lo n v : Nat) : (s.setRf a lo n v).streams = s.streams := rfl
@[simp] theorem setRf_reported (s : State) (a lo n v : Nat) : (s.setRf a lo n v).reported = s.reported := rfl
@[simp] theorem setRf_sent (s : State) (a lo n v : Nat) : (s.setRf a lo n v).sent = s.sent := rfl
@[simp] theorem setRf_scrubAt (s : State) (a lo n v : Nat) : (s.setRf a lo n v).scrubAt = s.scrubAt := rfl
@[simp] theorem setRf_scrubT (s : State) (a lo n v : Nat) : (s.setRf a lo n v).scrubT = s.scrubT := rfl
@[simp] theorem setRf_rows (s : State) (a lo n v : Nat) : (s.setRf a lo n v).rows = s.rows := rfl
@[simp] theorem setRf_aged (s : State) (a lo n v : Nat) : (s.setRf a lo n v).aged = s.aged := rfl
@[simp] theorem setRf_refNext (s : State) (a lo n v : Nat) : (s.setRf a lo n v).refNext = s.refNext := rfl
@[simp] theorem setRf_lastTemp (s : State) (a lo n v : Nat) : (s.setRf a lo n v).lastTemp = s.lastTemp := rfl
@[simp] theorem setRf_hbmGood (s : State) (a lo n v : Nat) : (s.setRf a lo n v).hbmGood = s.hbmGood := rfl
@[simp] theorem setRf_linksUp (s : State) (a lo n v : Nat) : (s.setRf a lo n v).linksUp = s.linksUp := rfl
@[simp] theorem setRf_links (s : State) (a lo n v : Nat) : (s.setRf a lo n v).links = s.links := rfl
@[simp] theorem setRf_testFrom (s : State) (a lo n v : Nat) : (s.setRf a lo n v).testFrom = s.testFrom := rfl
@[simp] theorem setRf_swaps (s : State) (a lo n v : Nat) : (s.setRf a lo n v).swaps = s.swaps := rfl
@[simp] theorem setRf_swapWait (s : State) (a lo n v : Nat) : (s.setRf a lo n v).swapWait = s.swapWait := rfl
@[simp] theorem setRf_image (s : State) (a lo n v : Nat) : (s.setRf a lo n v).image = s.image := rfl
@[simp] theorem setRf_steps (s : State) (a lo n v : Nat) : (s.setRf a lo n v).steps = s.steps := rfl
@[simp] theorem setRf_stretch (s : State) (a lo n v : Nat) : (s.setRf a lo n v).stretch = s.stretch := rfl
@[simp] theorem setRf_swallow (s : State) (a lo n v : Nat) : (s.setRf a lo n v).swallow = s.swallow := rfl
@[simp] theorem setRf_ocSince (s : State) (a lo n v : Nat) : (s.setRf a lo n v).ocSince = s.ocSince := rfl
@[simp] theorem setRf_holdover (s : State) (a lo n v : Nat) : (s.setRf a lo n v).holdover = s.holdover := rfl
@[simp] theorem setRf_reqs (s : State) (a lo n v : Nat) : (s.setRf a lo n v).reqs = s.reqs := rfl
@[simp] theorem setRf_avs (s : State) (a lo n v : Nat) : (s.setRf a lo n v).avs = s.avs := rfl
@[simp] theorem setRf_vcore (s : State) (a lo n v : Nat) : (s.setRf a lo n v).vcore = s.vcore := rfl
@[simp] theorem setRf_entries (s : State) (a lo n v : Nat) : (s.setRf a lo n v).entries = s.entries := rfl
@[simp] theorem setRf_idleAt (s : State) (a lo n v : Nat) : (s.setRf a lo n v).idleAt = s.idleAt := rfl
@[simp] theorem setRf_waking (s : State) (a lo n v : Nat) : (s.setRf a lo n v).waking = s.waking := rfl
@[simp] theorem setRf_saveRegs (s : State) (a lo n v : Nat) : (s.setRf a lo n v).saveRegs = s.saveRegs := rfl
@[simp] theorem setRf_sensors (s : State) (a lo n v : Nat) : (s.setRf a lo n v).sensors = s.sensors := rfl
@[simp] theorem setRf_estHigh (s : State) (a lo n v : Nat) : (s.setRf a lo n v).estHigh = s.estHigh := rfl
@[simp] theorem setRf_capAt (s : State) (a lo n v : Nat) : (s.setRf a lo n v).capAt = s.capAt := rfl
@[simp] theorem setRf_hotAt (s : State) (a lo n v : Nat) : (s.setRf a lo n v).hotAt = s.hotAt := rfl
@[simp] theorem setRf_log (s : State) (a lo n v : Nat) : (s.setRf a lo n v).log = s.log := rfl
@[simp] theorem setRf_logSeq (s : State) (a lo n v : Nat) : (s.setRf a lo n v).logSeq = s.logSeq := rfl
@[simp] theorem setRf_lostRun (s : State) (a lo n v : Nat) : (s.setRf a lo n v).lostRun = s.lostRun := rfl
@[simp] theorem setRf_quench (s : State) (a lo n v : Nat) : (s.setRf a lo n v).quench = s.quench := rfl
@[simp] theorem setRf_frozen (s : State) (a lo n v : Nat) : (s.setRf a lo n v).frozen = s.frozen := rfl
@[simp] theorem setRf_startAt (s : State) (a lo n v : Nat) : (s.setRf a lo n v).startAt = s.startAt := rfl
@[simp] theorem setRf_beatAt (s : State) (a lo n v : Nat) : (s.setRf a lo n v).beatAt = s.beatAt := rfl
@[simp] theorem setRf_aliveAt (s : State) (a lo n v : Nat) : (s.setRf a lo n v).aliveAt = s.aliveAt := rfl
@[simp] theorem setRf_misses (s : State) (a lo n v : Nat) : (s.setRf a lo n v).misses = s.misses := rfl
@[simp] theorem setRf_f0Down (s : State) (a lo n v : Nat) : (s.setRf a lo n v).f0Down = s.f0Down := rfl
@[simp] theorem setRf_locked (s : State) (a lo n v : Nat) : (s.setRf a lo n v).locked = s.locked := rfl
@[simp] theorem setRf_slotBoot (s : State) (a lo n v : Nat) : (s.setRf a lo n v).slotBoot = s.slotBoot := rfl
@[simp] theorem setRf_recovery (s : State) (a lo n v : Nat) : (s.setRf a lo n v).recovery = s.recovery := rfl
@[simp] theorem setRf_spsReqs (s : State) (a lo n v : Nat) : (s.setRf a lo n v).spsReqs = s.spsReqs := rfl
@[simp] theorem setRf_spsDown (s : State) (a lo n v : Nat) : (s.setRf a lo n v).spsDown = s.spsDown := rfl
@[simp] theorem setRf_hostTx (s : State) (a lo n v : Nat) : (s.setRf a lo n v).hostTx = s.hostTx := rfl
@[simp] theorem setRf_hostWait (s : State) (a lo n v : Nat) : (s.setRf a lo n v).hostWait = s.hostWait := rfl
@[simp] theorem setRf_events (s : State) (a lo n v : Nat) : (s.setRf a lo n v).events = s.events := rfl
@[simp] theorem setRf_evSeq (s : State) (a lo n v : Nat) : (s.setRf a lo n v).evSeq = s.evSeq := rfl
@[simp] theorem setRf_evLost (s : State) (a lo n v : Nat) : (s.setRf a lo n v).evLost = s.evLost := rfl
@[simp] theorem setRf_tapIr (s : State) (a lo n v : Nat) : (s.setRf a lo n v).tapIr = s.tapIr := rfl
@[simp] theorem setRf_tapDr (s : State) (a lo n v : Nat) : (s.setRf a lo n v).tapDr = s.tapDr := rfl
@[simp] theorem setRf_tapCells (s : State) (a lo n v : Nat) : (s.setRf a lo n v).tapCells = s.tapCells := rfl
@[simp] theorem setRf_flash (s : State) (a lo n v : Nat) : (s.setRf a lo n v).flash = s.flash := rfl
@[simp] theorem setRf_flashSeq (s : State) (a lo n v : Nat) : (s.setRf a lo n v).flashSeq = s.flashSeq := rfl
@[simp] theorem setRf_fOpen (s : State) (a lo n v : Nat) : (s.setRf a lo n v).fOpen = s.fOpen := rfl
@[simp] theorem setRf_fuses (s : State) (a lo n v : Nat) : (s.setRf a lo n v).fuses = s.fuses := rfl
@[simp] theorem setRf_fuseSeq (s : State) (a lo n v : Nat) : (s.setRf a lo n v).fuseSeq = s.fuseSeq := rfl
@[simp] theorem setRf_env (s : State) (a lo n v : Nat) : (s.setRf a lo n v).env = s.env := rfl
@[simp] theorem setRf_report (s : State) (a lo n v : Nat) : (s.setRf a lo n v).report = s.report := rfl
@[simp] theorem setRf_guestOut (s : State) (a lo n v : Nat) : (s.setRf a lo n v).guestOut = s.guestOut := rfl
@[simp] theorem setRf_guestReq (s : State) (a lo n v : Nat) : (s.setRf a lo n v).guestReq = s.guestReq := rfl
@[simp] theorem setRf_viol (s : State) (a lo n v : Nat) : (s.setRf a lo n v).viol = s.viol := rfl
@[simp] theorem setRf_violT (s : State) (a lo n v : Nat) : (s.setRf a lo n v).violT = s.violT := rfl
@[simp] theorem setRf_ownLow (s : State) (a lo n v : Nat) : (s.setRf a lo n v).ownLow = s.ownLow := rfl
@[simp] theorem setRf_claimed (s : State) (a lo n v : Nat) : (s.setRf a lo n v).claimed = s.claimed := rfl
@[simp] theorem setRf_mirrorTx (s : State) (a lo n v : Nat) : (s.setRf a lo n v).mirrorTx = s.mirrorTx := rfl
@[simp] theorem setRf_mirrorOut (s : State) (a lo n v : Nat) : (s.setRf a lo n v).mirrorOut = s.mirrorOut := rfl
@[simp] theorem setRf_closing (s : State) (a lo n v : Nat) : (s.setRf a lo n v).closing = s.closing := rfl
@[simp] theorem setRf_resync (s : State) (a lo n v : Nat) : (s.setRf a lo n v).resync = s.resync := rfl
@[simp] theorem setRf_mirrorRx (s : State) (a lo n v : Nat) : (s.setRf a lo n v).mirrorRx = s.mirrorRx := rfl
@[simp] theorem setRf_rxBytes (s : State) (a lo n v : Nat) : (s.setRf a lo n v).rxBytes = s.rxBytes := rfl
@[simp] theorem setRf_rxSkip (s : State) (a lo n v : Nat) : (s.setRf a lo n v).rxSkip = s.rxSkip := rfl
@[simp] theorem setRf_takeover (s : State) (a lo n v : Nat) : (s.setRf a lo n v).takeover = s.takeover := rfl
@[simp] theorem setRf_mirDown (s : State) (a lo n v : Nat) : (s.setRf a lo n v).mirDown = s.mirDown := rfl
@[simp] theorem setRf_pins (s : State) (a lo n v : Nat) : (s.setRf a lo n v).pins = s.pins := rfl
@[simp] theorem incRf_pending (s : State) (a lo n k : Nat) : (s.incRf a lo n k).pending = s.pending := rfl
@[simp] theorem incRf_latch (s : State) (a lo n k : Nat) : (s.incRf a lo n k).latch = s.latch := rfl
@[simp] theorem incRf_hold (s : State) (a lo n k : Nat) : (s.incRf a lo n k).hold = s.hold := rfl
@[simp] theorem incRf_mem (s : State) (a lo n k : Nat) : (s.incRf a lo n k).mem = s.mem := rfl
@[simp] theorem incRf_poison (s : State) (a lo n k : Nat) : (s.incRf a lo n k).poison = s.poison := rfl
@[simp] theorem incRf_now (s : State) (a lo n k : Nat) : (s.incRf a lo n k).now = s.now := rfl
@[simp] theorem incRf_tick (s : State) (a lo n k : Nat) : (s.incRf a lo n k).tick = s.tick := rfl
@[simp] theorem incRf_tickRuns (s : State) (a lo n k : Nat) : (s.incRf a lo n k).tickRuns = s.tickRuns := rfl
@[simp] theorem incRf_free (s : State) (a lo n k : Nat) : (s.incRf a lo n k).free = s.free := rfl
@[simp] theorem incRf_cores (s : State) (a lo n k : Nat) : (s.incRf a lo n k).cores = s.cores := rfl
@[simp] theorem incRf_reads (s : State) (a lo n k : Nat) : (s.incRf a lo n k).reads = s.reads := rfl
@[simp] theorem incRf_pool (s : State) (a lo n k : Nat) : (s.incRf a lo n k).pool = s.pool := rfl
@[simp] theorem incRf_nextId (s : State) (a lo n k : Nat) : (s.incRf a lo n k).nextId = s.nextId := rfl
@[simp] theorem incRf_seqs (s : State) (a lo n k : Nat) : (s.incRf a lo n k).seqs = s.seqs := rfl
@[simp] theorem incRf_mcasts (s : State) (a lo n k : Nat) : (s.incRf a lo n k).mcasts = s.mcasts := rfl
@[simp] theorem incRf_credUsed (s : State) (a lo n k : Nat) : (s.incRf a lo n k).credUsed = s.credUsed := rfl
@[simp] theorem incRf_credOwed (s : State) (a lo n k : Nat) : (s.incRf a lo n k).credOwed = s.credOwed := rfl
@[simp] theorem incRf_wrLines (s : State) (a lo n k : Nat) : (s.incRf a lo n k).wrLines = s.wrLines := rfl
@[simp] theorem incRf_got (s : State) (a lo n k : Nat) : (s.incRf a lo n k).got = s.got := rfl
@[simp] theorem incRf_grants (s : State) (a lo n k : Nat) : (s.incRf a lo n k).grants = s.grants := rfl
@[simp] theorem incRf_changed (s : State) (a lo n k : Nat) : (s.incRf a lo n k).changed = s.changed := rfl
@[simp] theorem incRf_greqs (s : State) (a lo n k : Nat) : (s.incRf a lo n k).greqs = s.greqs := rfl
@[simp] theorem incRf_rr (s : State) (a lo n k : Nat) : (s.incRf a lo n k).rr = s.rr := rfl
@[simp] theorem incRf_own (s : State) (a lo n k : Nat) : (s.incRf a lo n k).own = s.own := rfl
@[simp] theorem incRf_epochs (s : State) (a lo n k : Nat) : (s.incRf a lo n k).epochs = s.epochs := rfl
@[simp] theorem incRf_spec (s : State) (a lo n k : Nat) : (s.incRf a lo n k).spec = s.spec := rfl
@[simp] theorem incRf_commits (s : State) (a lo n k : Nat) : (s.incRf a lo n k).commits = s.commits := rfl
@[simp] theorem incRf_portT (s : State) (a lo n k : Nat) : (s.incRf a lo n k).portT = s.portT := rfl
@[simp] theorem incRf_streams (s : State) (a lo n k : Nat) : (s.incRf a lo n k).streams = s.streams := rfl
@[simp] theorem incRf_reported (s : State) (a lo n k : Nat) : (s.incRf a lo n k).reported = s.reported := rfl
@[simp] theorem incRf_sent (s : State) (a lo n k : Nat) : (s.incRf a lo n k).sent = s.sent := rfl
@[simp] theorem incRf_scrubAt (s : State) (a lo n k : Nat) : (s.incRf a lo n k).scrubAt = s.scrubAt := rfl
@[simp] theorem incRf_scrubT (s : State) (a lo n k : Nat) : (s.incRf a lo n k).scrubT = s.scrubT := rfl
@[simp] theorem incRf_rows (s : State) (a lo n k : Nat) : (s.incRf a lo n k).rows = s.rows := rfl
@[simp] theorem incRf_aged (s : State) (a lo n k : Nat) : (s.incRf a lo n k).aged = s.aged := rfl
@[simp] theorem incRf_refNext (s : State) (a lo n k : Nat) : (s.incRf a lo n k).refNext = s.refNext := rfl
@[simp] theorem incRf_lastTemp (s : State) (a lo n k : Nat) : (s.incRf a lo n k).lastTemp = s.lastTemp := rfl
@[simp] theorem incRf_hbmGood (s : State) (a lo n k : Nat) : (s.incRf a lo n k).hbmGood = s.hbmGood := rfl
@[simp] theorem incRf_linksUp (s : State) (a lo n k : Nat) : (s.incRf a lo n k).linksUp = s.linksUp := rfl
@[simp] theorem incRf_links (s : State) (a lo n k : Nat) : (s.incRf a lo n k).links = s.links := rfl
@[simp] theorem incRf_testFrom (s : State) (a lo n k : Nat) : (s.incRf a lo n k).testFrom = s.testFrom := rfl
@[simp] theorem incRf_swaps (s : State) (a lo n k : Nat) : (s.incRf a lo n k).swaps = s.swaps := rfl
@[simp] theorem incRf_swapWait (s : State) (a lo n k : Nat) : (s.incRf a lo n k).swapWait = s.swapWait := rfl
@[simp] theorem incRf_image (s : State) (a lo n k : Nat) : (s.incRf a lo n k).image = s.image := rfl
@[simp] theorem incRf_steps (s : State) (a lo n k : Nat) : (s.incRf a lo n k).steps = s.steps := rfl
@[simp] theorem incRf_stretch (s : State) (a lo n k : Nat) : (s.incRf a lo n k).stretch = s.stretch := rfl
@[simp] theorem incRf_swallow (s : State) (a lo n k : Nat) : (s.incRf a lo n k).swallow = s.swallow := rfl
@[simp] theorem incRf_ocSince (s : State) (a lo n k : Nat) : (s.incRf a lo n k).ocSince = s.ocSince := rfl
@[simp] theorem incRf_holdover (s : State) (a lo n k : Nat) : (s.incRf a lo n k).holdover = s.holdover := rfl
@[simp] theorem incRf_reqs (s : State) (a lo n k : Nat) : (s.incRf a lo n k).reqs = s.reqs := rfl
@[simp] theorem incRf_avs (s : State) (a lo n k : Nat) : (s.incRf a lo n k).avs = s.avs := rfl
@[simp] theorem incRf_vcore (s : State) (a lo n k : Nat) : (s.incRf a lo n k).vcore = s.vcore := rfl
@[simp] theorem incRf_entries (s : State) (a lo n k : Nat) : (s.incRf a lo n k).entries = s.entries := rfl
@[simp] theorem incRf_idleAt (s : State) (a lo n k : Nat) : (s.incRf a lo n k).idleAt = s.idleAt := rfl
@[simp] theorem incRf_waking (s : State) (a lo n k : Nat) : (s.incRf a lo n k).waking = s.waking := rfl
@[simp] theorem incRf_saveRegs (s : State) (a lo n k : Nat) : (s.incRf a lo n k).saveRegs = s.saveRegs := rfl
@[simp] theorem incRf_sensors (s : State) (a lo n k : Nat) : (s.incRf a lo n k).sensors = s.sensors := rfl
@[simp] theorem incRf_estHigh (s : State) (a lo n k : Nat) : (s.incRf a lo n k).estHigh = s.estHigh := rfl
@[simp] theorem incRf_capAt (s : State) (a lo n k : Nat) : (s.incRf a lo n k).capAt = s.capAt := rfl
@[simp] theorem incRf_hotAt (s : State) (a lo n k : Nat) : (s.incRf a lo n k).hotAt = s.hotAt := rfl
@[simp] theorem incRf_log (s : State) (a lo n k : Nat) : (s.incRf a lo n k).log = s.log := rfl
@[simp] theorem incRf_logSeq (s : State) (a lo n k : Nat) : (s.incRf a lo n k).logSeq = s.logSeq := rfl
@[simp] theorem incRf_lostRun (s : State) (a lo n k : Nat) : (s.incRf a lo n k).lostRun = s.lostRun := rfl
@[simp] theorem incRf_quench (s : State) (a lo n k : Nat) : (s.incRf a lo n k).quench = s.quench := rfl
@[simp] theorem incRf_frozen (s : State) (a lo n k : Nat) : (s.incRf a lo n k).frozen = s.frozen := rfl
@[simp] theorem incRf_startAt (s : State) (a lo n k : Nat) : (s.incRf a lo n k).startAt = s.startAt := rfl
@[simp] theorem incRf_beatAt (s : State) (a lo n k : Nat) : (s.incRf a lo n k).beatAt = s.beatAt := rfl
@[simp] theorem incRf_aliveAt (s : State) (a lo n k : Nat) : (s.incRf a lo n k).aliveAt = s.aliveAt := rfl
@[simp] theorem incRf_misses (s : State) (a lo n k : Nat) : (s.incRf a lo n k).misses = s.misses := rfl
@[simp] theorem incRf_f0Down (s : State) (a lo n k : Nat) : (s.incRf a lo n k).f0Down = s.f0Down := rfl
@[simp] theorem incRf_locked (s : State) (a lo n k : Nat) : (s.incRf a lo n k).locked = s.locked := rfl
@[simp] theorem incRf_slotBoot (s : State) (a lo n k : Nat) : (s.incRf a lo n k).slotBoot = s.slotBoot := rfl
@[simp] theorem incRf_recovery (s : State) (a lo n k : Nat) : (s.incRf a lo n k).recovery = s.recovery := rfl
@[simp] theorem incRf_spsReqs (s : State) (a lo n k : Nat) : (s.incRf a lo n k).spsReqs = s.spsReqs := rfl
@[simp] theorem incRf_spsDown (s : State) (a lo n k : Nat) : (s.incRf a lo n k).spsDown = s.spsDown := rfl
@[simp] theorem incRf_hostTx (s : State) (a lo n k : Nat) : (s.incRf a lo n k).hostTx = s.hostTx := rfl
@[simp] theorem incRf_hostWait (s : State) (a lo n k : Nat) : (s.incRf a lo n k).hostWait = s.hostWait := rfl
@[simp] theorem incRf_events (s : State) (a lo n k : Nat) : (s.incRf a lo n k).events = s.events := rfl
@[simp] theorem incRf_evSeq (s : State) (a lo n k : Nat) : (s.incRf a lo n k).evSeq = s.evSeq := rfl
@[simp] theorem incRf_evLost (s : State) (a lo n k : Nat) : (s.incRf a lo n k).evLost = s.evLost := rfl
@[simp] theorem incRf_tapIr (s : State) (a lo n k : Nat) : (s.incRf a lo n k).tapIr = s.tapIr := rfl
@[simp] theorem incRf_tapDr (s : State) (a lo n k : Nat) : (s.incRf a lo n k).tapDr = s.tapDr := rfl
@[simp] theorem incRf_tapCells (s : State) (a lo n k : Nat) : (s.incRf a lo n k).tapCells = s.tapCells := rfl
@[simp] theorem incRf_flash (s : State) (a lo n k : Nat) : (s.incRf a lo n k).flash = s.flash := rfl
@[simp] theorem incRf_flashSeq (s : State) (a lo n k : Nat) : (s.incRf a lo n k).flashSeq = s.flashSeq := rfl
@[simp] theorem incRf_fOpen (s : State) (a lo n k : Nat) : (s.incRf a lo n k).fOpen = s.fOpen := rfl
@[simp] theorem incRf_fuses (s : State) (a lo n k : Nat) : (s.incRf a lo n k).fuses = s.fuses := rfl
@[simp] theorem incRf_fuseSeq (s : State) (a lo n k : Nat) : (s.incRf a lo n k).fuseSeq = s.fuseSeq := rfl
@[simp] theorem incRf_env (s : State) (a lo n k : Nat) : (s.incRf a lo n k).env = s.env := rfl
@[simp] theorem incRf_report (s : State) (a lo n k : Nat) : (s.incRf a lo n k).report = s.report := rfl
@[simp] theorem incRf_guestOut (s : State) (a lo n k : Nat) : (s.incRf a lo n k).guestOut = s.guestOut := rfl
@[simp] theorem incRf_guestReq (s : State) (a lo n k : Nat) : (s.incRf a lo n k).guestReq = s.guestReq := rfl
@[simp] theorem incRf_viol (s : State) (a lo n k : Nat) : (s.incRf a lo n k).viol = s.viol := rfl
@[simp] theorem incRf_violT (s : State) (a lo n k : Nat) : (s.incRf a lo n k).violT = s.violT := rfl
@[simp] theorem incRf_ownLow (s : State) (a lo n k : Nat) : (s.incRf a lo n k).ownLow = s.ownLow := rfl
@[simp] theorem incRf_claimed (s : State) (a lo n k : Nat) : (s.incRf a lo n k).claimed = s.claimed := rfl
@[simp] theorem incRf_mirrorTx (s : State) (a lo n k : Nat) : (s.incRf a lo n k).mirrorTx = s.mirrorTx := rfl
@[simp] theorem incRf_mirrorOut (s : State) (a lo n k : Nat) : (s.incRf a lo n k).mirrorOut = s.mirrorOut := rfl
@[simp] theorem incRf_closing (s : State) (a lo n k : Nat) : (s.incRf a lo n k).closing = s.closing := rfl
@[simp] theorem incRf_resync (s : State) (a lo n k : Nat) : (s.incRf a lo n k).resync = s.resync := rfl
@[simp] theorem incRf_mirrorRx (s : State) (a lo n k : Nat) : (s.incRf a lo n k).mirrorRx = s.mirrorRx := rfl
@[simp] theorem incRf_rxBytes (s : State) (a lo n k : Nat) : (s.incRf a lo n k).rxBytes = s.rxBytes := rfl
@[simp] theorem incRf_rxSkip (s : State) (a lo n k : Nat) : (s.incRf a lo n k).rxSkip = s.rxSkip := rfl
@[simp] theorem incRf_takeover (s : State) (a lo n k : Nat) : (s.incRf a lo n k).takeover = s.takeover := rfl
@[simp] theorem incRf_mirDown (s : State) (a lo n k : Nat) : (s.incRf a lo n k).mirDown = s.mirDown := rfl
@[simp] theorem incRf_pins (s : State) (a lo n k : Nat) : (s.incRf a lo n k).pins = s.pins := rfl
@[simp] theorem setReg_core (s : State) (a : Nat) (v : Word) (c : Nat) : (s.setReg a v).core c = s.core c := rfl
@[simp] theorem setReg_refFrom (s : State) (a : Nat) (v : Word) : (s.setReg a v).refFrom = s.refFrom := rfl
@[simp] theorem setReg_wires (s : State) (a : Nat) (v : Word) : (s.setReg a v).wires = s.wires := rfl
@[simp] theorem setReg_carried (s : State) (a : Nat) (v : Word) : (s.setReg a v).carried = s.carried := rfl
@[simp] theorem setReg_guides (s : State) (a : Nat) (v : Word) : (s.setReg a v).guides = s.guides := rfl
@[simp] theorem setReg_guideBad (s : State) (a : Nat) (v : Word) : (s.setReg a v).guideBad = s.guideBad := rfl
@[simp] theorem setReg_optics (s : State) (a : Nat) (v : Word) : (s.setReg a v).optics = s.optics := rfl
@[simp] theorem setReg_laserAt (s : State) (a : Nat) (v : Word) : (s.setReg a v).laserAt = s.laserAt := rfl
@[simp] theorem setReg_lowFrom (s : State) (a : Nat) (v : Word) : (s.setReg a v).lowFrom = s.lowFrom := rfl
@[simp] theorem setReg_images (s : State) (a : Nat) (v : Word) : (s.setReg a v).images = s.images := rfl
@[simp] theorem setReg_missed (s : State) (a : Nat) (v : Word) : (s.setReg a v).missed = s.missed := rfl
@[simp] theorem setReg_droopy (s : State) (a : Nat) (v : Word) : (s.setReg a v).droopy = s.droopy := rfl
@[simp] theorem setReg_lag (s : State) (a : Nat) (v : Word) : (s.setReg a v).lag = s.lag := rfl
@[simp] theorem setReg_quenchAt (s : State) (a : Nat) (v : Word) : (s.setReg a v).quenchAt = s.quenchAt := rfl
@[simp] theorem setReg_spsFails (s : State) (a : Nat) (v : Word) : (s.setReg a v).spsFails = s.spsFails := rfl
@[simp] theorem setReg_rstFor (s : State) (a : Nat) (v : Word) : (s.setReg a v).rstFor = s.rstFor := rfl
@[simp] theorem setReg_smb (s : State) (a : Nat) (v : Word) : (s.setReg a v).smb = s.smb := rfl
@[simp] theorem setReg_takeWait (s : State) (a : Nat) (v : Word) : (s.setReg a v).takeWait = s.takeWait := rfl
@[simp] theorem setRf_core (s : State) (a lo n v c : Nat) : (s.setRf a lo n v).core c = s.core c := rfl
@[simp] theorem setRf_refFrom (s : State) (a lo n v : Nat) : (s.setRf a lo n v).refFrom = s.refFrom := rfl
@[simp] theorem setRf_wires (s : State) (a lo n v : Nat) : (s.setRf a lo n v).wires = s.wires := rfl
@[simp] theorem setRf_carried (s : State) (a lo n v : Nat) : (s.setRf a lo n v).carried = s.carried := rfl
@[simp] theorem setRf_guides (s : State) (a lo n v : Nat) : (s.setRf a lo n v).guides = s.guides := rfl
@[simp] theorem setRf_guideBad (s : State) (a lo n v : Nat) : (s.setRf a lo n v).guideBad = s.guideBad := rfl
@[simp] theorem setRf_optics (s : State) (a lo n v : Nat) : (s.setRf a lo n v).optics = s.optics := rfl
@[simp] theorem setRf_laserAt (s : State) (a lo n v : Nat) : (s.setRf a lo n v).laserAt = s.laserAt := rfl
@[simp] theorem setRf_lowFrom (s : State) (a lo n v : Nat) : (s.setRf a lo n v).lowFrom = s.lowFrom := rfl
@[simp] theorem setRf_images (s : State) (a lo n v : Nat) : (s.setRf a lo n v).images = s.images := rfl
@[simp] theorem setRf_missed (s : State) (a lo n v : Nat) : (s.setRf a lo n v).missed = s.missed := rfl
@[simp] theorem setRf_droopy (s : State) (a lo n v : Nat) : (s.setRf a lo n v).droopy = s.droopy := rfl
@[simp] theorem setRf_lag (s : State) (a lo n v : Nat) : (s.setRf a lo n v).lag = s.lag := rfl
@[simp] theorem setRf_quenchAt (s : State) (a lo n v : Nat) : (s.setRf a lo n v).quenchAt = s.quenchAt := rfl
@[simp] theorem setRf_spsFails (s : State) (a lo n v : Nat) : (s.setRf a lo n v).spsFails = s.spsFails := rfl
@[simp] theorem setRf_rstFor (s : State) (a lo n v : Nat) : (s.setRf a lo n v).rstFor = s.rstFor := rfl
@[simp] theorem setRf_smb (s : State) (a lo n v : Nat) : (s.setRf a lo n v).smb = s.smb := rfl
@[simp] theorem setRf_takeWait (s : State) (a lo n v : Nat) : (s.setRf a lo n v).takeWait = s.takeWait := rfl
@[simp] theorem incRf_core (s : State) (a lo n k c : Nat) : (s.incRf a lo n k).core c = s.core c := rfl
@[simp] theorem incRf_refFrom (s : State) (a lo n k : Nat) : (s.incRf a lo n k).refFrom = s.refFrom := rfl
@[simp] theorem incRf_wires (s : State) (a lo n k : Nat) : (s.incRf a lo n k).wires = s.wires := rfl
@[simp] theorem incRf_carried (s : State) (a lo n k : Nat) : (s.incRf a lo n k).carried = s.carried := rfl
@[simp] theorem incRf_guides (s : State) (a lo n k : Nat) : (s.incRf a lo n k).guides = s.guides := rfl
@[simp] theorem incRf_guideBad (s : State) (a lo n k : Nat) : (s.incRf a lo n k).guideBad = s.guideBad := rfl
@[simp] theorem incRf_optics (s : State) (a lo n k : Nat) : (s.incRf a lo n k).optics = s.optics := rfl
@[simp] theorem incRf_laserAt (s : State) (a lo n k : Nat) : (s.incRf a lo n k).laserAt = s.laserAt := rfl
@[simp] theorem incRf_lowFrom (s : State) (a lo n k : Nat) : (s.incRf a lo n k).lowFrom = s.lowFrom := rfl
@[simp] theorem incRf_images (s : State) (a lo n k : Nat) : (s.incRf a lo n k).images = s.images := rfl
@[simp] theorem incRf_missed (s : State) (a lo n k : Nat) : (s.incRf a lo n k).missed = s.missed := rfl
@[simp] theorem incRf_droopy (s : State) (a lo n k : Nat) : (s.incRf a lo n k).droopy = s.droopy := rfl
@[simp] theorem incRf_lag (s : State) (a lo n k : Nat) : (s.incRf a lo n k).lag = s.lag := rfl
@[simp] theorem incRf_quenchAt (s : State) (a lo n k : Nat) : (s.incRf a lo n k).quenchAt = s.quenchAt := rfl
@[simp] theorem incRf_spsFails (s : State) (a lo n k : Nat) : (s.incRf a lo n k).spsFails = s.spsFails := rfl
@[simp] theorem incRf_rstFor (s : State) (a lo n k : Nat) : (s.incRf a lo n k).rstFor = s.rstFor := rfl
@[simp] theorem incRf_smb (s : State) (a lo n k : Nat) : (s.incRf a lo n k).smb = s.smb := rfl
@[simp] theorem incRf_takeWait (s : State) (a lo n k : Nat) : (s.incRf a lo n k).takeWait = s.takeWait := rfl
@[simp] theorem modCore_reg (s : State) (c : Nat) (f : Core → Core) (a : Nat) : (s.modCore c f).reg a = s.reg a := rfl
@[simp] theorem modCore_refFrom (s : State) (c : Nat) (f : Core → Core) : (s.modCore c f).refFrom = s.refFrom := rfl
@[simp] theorem modCore_wires (s : State) (c : Nat) (f : Core → Core) : (s.modCore c f).wires = s.wires := rfl
@[simp] theorem modCore_carried (s : State) (c : Nat) (f : Core → Core) : (s.modCore c f).carried = s.carried := rfl
@[simp] theorem modCore_guides (s : State) (c : Nat) (f : Core → Core) : (s.modCore c f).guides = s.guides := rfl
@[simp] theorem modCore_guideBad (s : State) (c : Nat) (f : Core → Core) : (s.modCore c f).guideBad = s.guideBad := rfl
@[simp] theorem modCore_optics (s : State) (c : Nat) (f : Core → Core) : (s.modCore c f).optics = s.optics := rfl
@[simp] theorem modCore_laserAt (s : State) (c : Nat) (f : Core → Core) : (s.modCore c f).laserAt = s.laserAt := rfl
@[simp] theorem modCore_lowFrom (s : State) (c : Nat) (f : Core → Core) : (s.modCore c f).lowFrom = s.lowFrom := rfl
@[simp] theorem modCore_images (s : State) (c : Nat) (f : Core → Core) : (s.modCore c f).images = s.images := rfl
@[simp] theorem modCore_missed (s : State) (c : Nat) (f : Core → Core) : (s.modCore c f).missed = s.missed := rfl
@[simp] theorem modCore_droopy (s : State) (c : Nat) (f : Core → Core) : (s.modCore c f).droopy = s.droopy := rfl
@[simp] theorem modCore_lag (s : State) (c : Nat) (f : Core → Core) : (s.modCore c f).lag = s.lag := rfl
@[simp] theorem modCore_quenchAt (s : State) (c : Nat) (f : Core → Core) : (s.modCore c f).quenchAt = s.quenchAt := rfl
@[simp] theorem modCore_spsFails (s : State) (c : Nat) (f : Core → Core) : (s.modCore c f).spsFails = s.spsFails := rfl
@[simp] theorem modCore_rstFor (s : State) (c : Nat) (f : Core → Core) : (s.modCore c f).rstFor = s.rstFor := rfl
@[simp] theorem modCore_smb (s : State) (c : Nat) (f : Core → Core) : (s.modCore c f).smb = s.smb := rfl
@[simp] theorem modCore_takeWait (s : State) (c : Nat) (f : Core → Core) : (s.modCore c f).takeWait = s.takeWait := rfl
@[simp] theorem setCore_reg (s : State) (c : Nat) (k : Core) (a : Nat) : (s.setCore c k).reg a = s.reg a := rfl
@[simp] theorem setCore_refFrom (s : State) (c : Nat) (k : Core) : (s.setCore c k).refFrom = s.refFrom := rfl
@[simp] theorem setCore_wires (s : State) (c : Nat) (k : Core) : (s.setCore c k).wires = s.wires := rfl
@[simp] theorem setCore_carried (s : State) (c : Nat) (k : Core) : (s.setCore c k).carried = s.carried := rfl
@[simp] theorem setCore_guides (s : State) (c : Nat) (k : Core) : (s.setCore c k).guides = s.guides := rfl
@[simp] theorem setCore_guideBad (s : State) (c : Nat) (k : Core) : (s.setCore c k).guideBad = s.guideBad := rfl
@[simp] theorem setCore_optics (s : State) (c : Nat) (k : Core) : (s.setCore c k).optics = s.optics := rfl
@[simp] theorem setCore_laserAt (s : State) (c : Nat) (k : Core) : (s.setCore c k).laserAt = s.laserAt := rfl
@[simp] theorem setCore_lowFrom (s : State) (c : Nat) (k : Core) : (s.setCore c k).lowFrom = s.lowFrom := rfl
@[simp] theorem setCore_images (s : State) (c : Nat) (k : Core) : (s.setCore c k).images = s.images := rfl
@[simp] theorem setCore_missed (s : State) (c : Nat) (k : Core) : (s.setCore c k).missed = s.missed := rfl
@[simp] theorem setCore_droopy (s : State) (c : Nat) (k : Core) : (s.setCore c k).droopy = s.droopy := rfl
@[simp] theorem setCore_lag (s : State) (c : Nat) (k : Core) : (s.setCore c k).lag = s.lag := rfl
@[simp] theorem setCore_quenchAt (s : State) (c : Nat) (k : Core) : (s.setCore c k).quenchAt = s.quenchAt := rfl
@[simp] theorem setCore_spsFails (s : State) (c : Nat) (k : Core) : (s.setCore c k).spsFails = s.spsFails := rfl
@[simp] theorem setCore_rstFor (s : State) (c : Nat) (k : Core) : (s.setCore c k).rstFor = s.rstFor := rfl
@[simp] theorem setCore_smb (s : State) (c : Nat) (k : Core) : (s.setCore c k).smb = s.smb := rfl
@[simp] theorem setCore_takeWait (s : State) (c : Nat) (k : Core) : (s.setCore c k).takeWait = s.takeWait := rfl

/-! ### Registers of a core -/

@[simp] theorem getX_zero (k : Core) : k.getX 0#5 = 0 := by simp [Core.getX]
@[simp] theorem setX_zero (k : Core) (v : DWord) : k.setX 0#5 v = k := by simp [Core.setX]
@[simp] theorem getP_zero (k : Core) : k.getP 0#3 = BitVec.allOnes 128 := by simp [Core.getP]
@[simp] theorem setP_zero (k : Core) (v : PWord) : k.setP 0#3 v = k := by simp [Core.setP]
theorem getX_setX (k : Core) (r q : BitVec 5) (v : DWord) :
    (k.setX r v).getX q = if q = r then (if r = 0#5 then 0 else v) else k.getX q := by
  unfold Core.setX Core.getX
  by_cases hr : r = 0#5
  · subst hr; by_cases hq : q = 0#5 <;> simp [hq]
  · by_cases hq : q = 0#5
    · simp [hq, Ne.symm hr]
    · simp only [hr, if_false, hq, tab_get_put]
      by_cases h : q = r
      · simp [h]
      · have : q.toNat ≠ r.toNat := fun e => h (BitVec.eq_of_toNat_eq e)
        simp [h, this]
theorem getV_setV (k : Core) (r q : BitVec 5) (v : VWord) :
    (k.setV r v).getV q = if q = r then v else k.getV q := by
  unfold Core.setV Core.getV
  simp only [tab_get_put]
  by_cases h : q = r
  · simp [h]
  · have : q.toNat ≠ r.toNat := fun e => h (BitVec.eq_of_toNat_eq e)
    simp [h, this]
@[simp] theorem setX_st (k : Core) (r : BitVec 5) (v : DWord) : (k.setX r v).st = k.st := by unfold Core.setX; split <;> rfl
@[simp] theorem setV_st (k : Core) (r : BitVec 5) (v : VWord) : (k.setV r v).st = k.st := rfl
@[simp] theorem setP_st (k : Core) (r : BitVec 3) (v : PWord) : (k.setP r v).st = k.st := by unfold Core.setP; split <;> rfl
@[simp] theorem setX_cause (k : Core) (r : BitVec 5) (v : DWord) : (k.setX r v).cause = k.cause := by unfold Core.setX; split <;> rfl
@[simp] theorem setV_cause (k : Core) (r : BitVec 5) (v : VWord) : (k.setV r v).cause = k.cause := rfl
@[simp] theorem setP_cause (k : Core) (r : BitVec 3) (v : PWord) : (k.setP r v).cause = k.cause := by unfold Core.setP; split <;> rfl
@[simp] theorem setX_refused (k : Core) (r : BitVec 5) (v : DWord) : (k.setX r v).refused = k.refused := by unfold Core.setX; split <;> rfl
@[simp] theorem setV_refused (k : Core) (r : BitVec 5) (v : VWord) : (k.setV r v).refused = k.refused := rfl
@[simp] theorem setP_refused (k : Core) (r : BitVec 3) (v : PWord) : (k.setP r v).refused = k.refused := by unfold Core.setP; split <;> rfl
@[simp] theorem setV_x (k : Core) (r : BitVec 5) (v : VWord) : (k.setV r v).x = k.x := rfl
@[simp] theorem setP_x (k : Core) (r : BitVec 3) (v : PWord) : (k.setP r v).x = k.x := by unfold Core.setP; split <;> rfl
@[simp] theorem setX_v (k : Core) (r : BitVec 5) (v : DWord) : (k.setX r v).v = k.v := by unfold Core.setX; split <;> rfl
@[simp] theorem setP_v (k : Core) (r : BitVec 3) (v : PWord) : (k.setP r v).v = k.v := by unfold Core.setP; split <;> rfl
@[simp] theorem setX_p (k : Core) (r : BitVec 5) (v : DWord) : (k.setX r v).p = k.p := by unfold Core.setX; split <;> rfl
@[simp] theorem setV_p (k : Core) (r : BitVec 5) (v : VWord) : (k.setV r v).p = k.p := rfl
@[simp] theorem setX_acc (k : Core) (r : BitVec 5) (v : DWord) : (k.setX r v).acc = k.acc := by unfold Core.setX; split <;> rfl
@[simp] theorem setV_acc (k : Core) (r : BitVec 5) (v : VWord) : (k.setV r v).acc = k.acc := rfl
@[simp] theorem setP_acc (k : Core) (r : BitVec 3) (v : PWord) : (k.setP r v).acc = k.acc := by unfold Core.setP; split <;> rfl
@[simp] theorem setX_grp (k : Core) (r : BitVec 5) (v : DWord) : (k.setX r v).grp = k.grp := by unfold Core.setX; split <;> rfl
@[simp] theorem setV_grp (k : Core) (r : BitVec 5) (v : VWord) : (k.setV r v).grp = k.grp := rfl
@[simp] theorem setP_grp (k : Core) (r : BitVec 3) (v : PWord) : (k.setP r v).grp = k.grp := by unfold Core.setP; split <;> rfl
@[simp] theorem setX_loops (k : Core) (r : BitVec 5) (v : DWord) : (k.setX r v).loops = k.loops := by unfold Core.setX; split <;> rfl
@[simp] theorem setV_loops (k : Core) (r : BitVec 5) (v : VWord) : (k.setV r v).loops = k.loops := rfl
@[simp] theorem setP_loops (k : Core) (r : BitVec 3) (v : PWord) : (k.setP r v).loops = k.loops := by unfold Core.setP; split <;> rfl
@[simp] theorem setX_next (k : Core) (r : BitVec 5) (v : DWord) : (k.setX r v).next = k.next := by unfold Core.setX; split <;> rfl
@[simp] theorem setV_next (k : Core) (r : BitVec 5) (v : VWord) : (k.setV r v).next = k.next := rfl
@[simp] theorem setP_next (k : Core) (r : BitVec 3) (v : PWord) : (k.setP r v).next = k.next := by unfold Core.setP; split <;> rfl
@[simp] theorem setX_edge (k : Core) (r : BitVec 5) (v : DWord) : (k.setX r v).edge = k.edge := by unfold Core.setX; split <;> rfl
@[simp] theorem setV_edge (k : Core) (r : BitVec 5) (v : VWord) : (k.setV r v).edge = k.edge := rfl
@[simp] theorem setP_edge (k : Core) (r : BitVec 3) (v : PWord) : (k.setP r v).edge = k.edge := by unfold Core.setP; split <;> rfl
@[simp] theorem setX_pause (k : Core) (r : BitVec 5) (v : DWord) : (k.setX r v).pause = k.pause := by unfold Core.setX; split <;> rfl
@[simp] theorem setV_pause (k : Core) (r : BitVec 5) (v : VWord) : (k.setV r v).pause = k.pause := rfl
@[simp] theorem setP_pause (k : Core) (r : BitVec 3) (v : PWord) : (k.setP r v).pause = k.pause := by unfold Core.setP; split <;> rfl
@[simp] theorem setX_trapPend (k : Core) (r : BitVec 5) (v : DWord) : (k.setX r v).trapPend = k.trapPend := by unfold Core.setX; split <;> rfl
@[simp] theorem setV_trapPend (k : Core) (r : BitVec 5) (v : VWord) : (k.setV r v).trapPend = k.trapPend := rfl
@[simp] theorem setP_trapPend (k : Core) (r : BitVec 3) (v : PWord) : (k.setP r v).trapPend = k.trapPend := by unfold Core.setP; split <;> rfl
@[simp] theorem setX_noBreak (k : Core) (r : BitVec 5) (v : DWord) : (k.setX r v).noBreak = k.noBreak := by unfold Core.setX; split <;> rfl
@[simp] theorem setV_noBreak (k : Core) (r : BitVec 5) (v : VWord) : (k.setV r v).noBreak = k.noBreak := rfl
@[simp] theorem setP_noBreak (k : Core) (r : BitVec 3) (v : PWord) : (k.setP r v).noBreak = k.noBreak := by unfold Core.setP; split <;> rfl
@[simp] theorem setX_seed (k : Core) (r : BitVec 5) (v : DWord) : (k.setX r v).seed = k.seed := by unfold Core.setX; split <;> rfl
@[simp] theorem setV_seed (k : Core) (r : BitVec 5) (v : VWord) : (k.setV r v).seed = k.seed := rfl
@[simp] theorem setP_seed (k : Core) (r : BitVec 3) (v : PWord) : (k.setP r v).seed = k.seed := by unfold Core.setP; split <;> rfl
@[simp] theorem setX_gen (k : Core) (r : BitVec 5) (v : DWord) : (k.setX r v).gen = k.gen := by unfold Core.setX; split <;> rfl
@[simp] theorem setV_gen (k : Core) (r : BitVec 5) (v : VWord) : (k.setV r v).gen = k.gen := rfl
@[simp] theorem setP_gen (k : Core) (r : BitVec 3) (v : PWord) : (k.setP r v).gen = k.gen := by unfold Core.setP; split <;> rfl
@[simp] theorem setX_epochTag (k : Core) (r : BitVec 5) (v : DWord) : (k.setX r v).epochTag = k.epochTag := by unfold Core.setX; split <;> rfl
@[simp] theorem setV_epochTag (k : Core) (r : BitVec 5) (v : VWord) : (k.setV r v).epochTag = k.epochTag := rfl
@[simp] theorem setP_epochTag (k : Core) (r : BitVec 3) (v : PWord) : (k.setP r v).epochTag = k.epochTag := by unfold Core.setP; split <;> rfl
@[simp] theorem setX_view (k : Core) (r : BitVec 5) (v : DWord) : (k.setX r v).view = k.view := by unfold Core.setX; split <;> rfl
@[simp] theorem setV_view (k : Core) (r : BitVec 5) (v : VWord) : (k.setV r v).view = k.view := rfl
@[simp] theorem setP_view (k : Core) (r : BitVec 3) (v : PWord) : (k.setP r v).view = k.view := by unfold Core.setP; split <;> rfl
@[simp] theorem setX_hint (k : Core) (r : BitVec 5) (v : DWord) : (k.setX r v).hint = k.hint := by unfold Core.setX; split <;> rfl
@[simp] theorem setV_hint (k : Core) (r : BitVec 5) (v : VWord) : (k.setV r v).hint = k.hint := rfl
@[simp] theorem setP_hint (k : Core) (r : BitVec 3) (v : PWord) : (k.setP r v).hint = k.hint := by unfold Core.setP; split <;> rfl
@[simp] theorem setX_fault (k : Core) (r : BitVec 5) (v : DWord) : (k.setX r v).fault = k.fault := by unfold Core.setX; split <;> rfl
@[simp] theorem setV_fault (k : Core) (r : BitVec 5) (v : VWord) : (k.setV r v).fault = k.fault := rfl
@[simp] theorem setP_fault (k : Core) (r : BitVec 3) (v : PWord) : (k.setP r v).fault = k.fault := by unfold Core.setP; split <;> rfl
@[simp] theorem setX_tc (k : Core) (r : BitVec 5) (v : DWord) : (k.setX r v).tc = k.tc := by unfold Core.setX; split <;> rfl
@[simp] theorem setV_tc (k : Core) (r : BitVec 5) (v : VWord) : (k.setV r v).tc = k.tc := rfl
@[simp] theorem setP_tc (k : Core) (r : BitVec 3) (v : PWord) : (k.setP r v).tc = k.tc := by unfold Core.setP; split <;> rfl
@[simp] theorem setX_tcb (k : Core) (r : BitVec 5) (v : DWord) : (k.setX r v).tcb = k.tcb := by unfold Core.setX; split <;> rfl
@[simp] theorem setV_tcb (k : Core) (r : BitVec 5) (v : VWord) : (k.setV r v).tcb = k.tcb := rfl
@[simp] theorem setP_tcb (k : Core) (r : BitVec 3) (v : PWord) : (k.setP r v).tcb = k.tcb := by unfold Core.setP; split <;> rfl
@[simp] theorem setX_jobTag (k : Core) (r : BitVec 5) (v : DWord) : (k.setX r v).jobTag = k.jobTag := by unfold Core.setX; split <;> rfl
@[simp] theorem setV_jobTag (k : Core) (r : BitVec 5) (v : VWord) : (k.setV r v).jobTag = k.jobTag := rfl
@[simp] theorem setP_jobTag (k : Core) (r : BitVec 3) (v : PWord) : (k.setP r v).jobTag = k.jobTag := by unfold Core.setP; split <;> rfl
@[simp] theorem setX_cycles (k : Core) (r : BitVec 5) (v : DWord) : (k.setX r v).cycles = k.cycles := by unfold Core.setX; split <;> rfl
@[simp] theorem setV_cycles (k : Core) (r : BitVec 5) (v : VWord) : (k.setV r v).cycles = k.cycles := rfl
@[simp] theorem setP_cycles (k : Core) (r : BitVec 3) (v : PWord) : (k.setP r v).cycles = k.cycles := by unfold Core.setP; split <;> rfl
@[simp] theorem setX_stall (k : Core) (r : BitVec 5) (v : DWord) : (k.setX r v).stall = k.stall := by unfold Core.setX; split <;> rfl
@[simp] theorem setV_stall (k : Core) (r : BitVec 5) (v : VWord) : (k.setV r v).stall = k.stall := rfl
@[simp] theorem setP_stall (k : Core) (r : BitVec 3) (v : PWord) : (k.setP r v).stall = k.stall := by unfold Core.setP; split <;> rfl
@[simp] theorem setX_ready (k : Core) (r : BitVec 5) (v : DWord) : (k.setX r v).ready = k.ready := by unfold Core.setX; split <;> rfl
@[simp] theorem setV_ready (k : Core) (r : BitVec 5) (v : VWord) : (k.setV r v).ready = k.ready := rfl
@[simp] theorem setP_ready (k : Core) (r : BitVec 3) (v : PWord) : (k.setP r v).ready = k.ready := by unfold Core.setP; split <;> rfl
@[simp] theorem setX_array (k : Core) (r : BitVec 5) (v : DWord) : (k.setX r v).array = k.array := by unfold Core.setX; split <;> rfl
@[simp] theorem setV_array (k : Core) (r : BitVec 5) (v : VWord) : (k.setV r v).array = k.array := rfl
@[simp] theorem setP_array (k : Core) (r : BitVec 3) (v : PWord) : (k.setP r v).array = k.array := by unfold Core.setP; split <;> rfl
@[simp] theorem setX_fe (k : Core) (r : BitVec 5) (v : DWord) : (k.setX r v).fe = k.fe := by unfold Core.setX; split <;> rfl
@[simp] theorem setV_fe (k : Core) (r : BitVec 5) (v : VWord) : (k.setV r v).fe = k.fe := rfl
@[simp] theorem setP_fe (k : Core) (r : BitVec 3) (v : PWord) : (k.setP r v).fe = k.fe := by unfold Core.setP; split <;> rfl
@[simp] theorem setX_bulk (k : Core) (r : BitVec 5) (v : DWord) : (k.setX r v).bulk = k.bulk := by unfold Core.setX; split <;> rfl
@[simp] theorem setV_bulk (k : Core) (r : BitVec 5) (v : VWord) : (k.setV r v).bulk = k.bulk := rfl
@[simp] theorem setP_bulk (k : Core) (r : BitVec 3) (v : PWord) : (k.setP r v).bulk = k.bulk := by unfold Core.setP; split <;> rfl
@[simp] theorem setX_billet (k : Core) (r : BitVec 5) (v : DWord) : (k.setX r v).billet = k.billet := by unfold Core.setX; split <;> rfl
@[simp] theorem setV_billet (k : Core) (r : BitVec 5) (v : VWord) : (k.setV r v).billet = k.billet := rfl
@[simp] theorem setP_billet (k : Core) (r : BitVec 3) (v : PWord) : (k.setP r v).billet = k.billet := by unfold Core.setP; split <;> rfl
@[simp] theorem setX_fetch (k : Core) (r : BitVec 5) (v : DWord) : (k.setX r v).fetch = k.fetch := by unfold Core.setX; split <;> rfl
@[simp] theorem setV_fetch (k : Core) (r : BitVec 5) (v : VWord) : (k.setV r v).fetch = k.fetch := rfl
@[simp] theorem setP_fetch (k : Core) (r : BitVec 3) (v : PWord) : (k.setP r v).fetch = k.fetch := by unfold Core.setP; split <;> rfl
@[simp] theorem setX_loopBuf (k : Core) (r : BitVec 5) (v : DWord) : (k.setX r v).loopBuf = k.loopBuf := by unfold Core.setX; split <;> rfl
@[simp] theorem setX_stepping (k : Core) (r : BitVec 5) (v : DWord) : (k.setX r v).stepping = k.stepping := by unfold Core.setX; split <;> rfl
@[simp] theorem setX_pipe (k : Core) (r : BitVec 5) (v : DWord) : (k.setX r v).pipe = k.pipe := by unfold Core.setX; split <;> rfl
@[simp] theorem setX_kept (k : Core) (r : BitVec 5) (v : DWord) : (k.setX r v).kept = k.kept := by unfold Core.setX; split <;> rfl
@[simp] theorem setX_begun (k : Core) (r : BitVec 5) (v : DWord) : (k.setX r v).begun = k.begun := by unfold Core.setX; split <;> rfl
@[simp] theorem setV_loopBuf (k : Core) (r : BitVec 5) (v : VWord) : (k.setV r v).loopBuf = k.loopBuf := rfl
@[simp] theorem setV_stepping (k : Core) (r : BitVec 5) (v : VWord) : (k.setV r v).stepping = k.stepping := rfl
@[simp] theorem setV_pipe (k : Core) (r : BitVec 5) (v : VWord) : (k.setV r v).pipe = k.pipe := rfl
@[simp] theorem setV_kept (k : Core) (r : BitVec 5) (v : VWord) : (k.setV r v).kept = k.kept := rfl
@[simp] theorem setV_begun (k : Core) (r : BitVec 5) (v : VWord) : (k.setV r v).begun = k.begun := rfl
@[simp] theorem setP_loopBuf (k : Core) (r : BitVec 3) (v : PWord) : (k.setP r v).loopBuf = k.loopBuf := by unfold Core.setP; split <;> rfl
@[simp] theorem setP_stepping (k : Core) (r : BitVec 3) (v : PWord) : (k.setP r v).stepping = k.stepping := by unfold Core.setP; split <;> rfl
@[simp] theorem setP_pipe (k : Core) (r : BitVec 3) (v : PWord) : (k.setP r v).pipe = k.pipe := by unfold Core.setP; split <;> rfl
@[simp] theorem setP_kept (k : Core) (r : BitVec 3) (v : PWord) : (k.setP r v).kept = k.kept := by unfold Core.setP; split <;> rfl
@[simp] theorem setP_begun (k : Core) (r : BitVec 3) (v : PWord) : (k.setP r v).begun = k.begun := by unfold Core.setP; split <;> rfl

end Sys2Proof.Machine
end

