-- ==== Sys2Proof/Laws/Issue.lean ====
section
/-! SUPPORT. What issuing a bundle does, once for every instruction: where the bundle runs, both slots take effect on the
state of the issue cycle, and no part of the device but the core changes beside what slot A does. -/

namespace Sys2Proof.Machine

/-! ### Parts replaced -/

@[simp] theorem withCores_self (s : State) : s.withCores s.cores = s := rfl
@[simp] theorem setCore_withCores (s : State) (c : Nat) (k : Core) (x : Tab Core) :
    (s.setCore c k).withCores x = s.withCores x := rfl
@[simp] theorem modCore_withCores (s : State) (c : Nat) (f : Core → Core) (x : Tab Core) :
    (s.modCore c f).withCores x = s.withCores x := rfl

/-! ### The issue cycle -/

theorem issueBundle_runs (s : State) (c : Nat) (a b : Slot) (w : DWord) (h : bundleRuns s c a b = true) :
    issueBundle c a b w s = takeEffect c a b w (issueState s c a b) := by
  unfold bundleRuns at h
  simp only [Bool.and_eq_true, Bool.not_eq_true', decide_eq_true_eq] at h
  obtain ⟨⟨⟨⟨⟨⟨⟨⟨⟨h1, h0⟩, h2⟩, h3⟩, h4⟩, h5⟩, h6⟩, h7⟩, h8⟩, h9⟩ := h
  have hk : (s.modCore c settle).core c = settle (s.core c) := core_modCore_same s c settle
  have hs : (settle (s.core c)).stepping = false := by rw [← h0]; unfold settle; split <;> rfl
  unfold issueBundle
  rw [if_pos h1]
  simp only [hk, h2, hs, endStep, Bool.false_and, Bool.false_eq_true, if_false]
  unfold issueNow
  simp only [hk]
  rw [if_neg (by omega), if_neg (by simp [h4]), if_neg (by simp [h5]), if_neg (by simpa [bundleKeys] using h7)]
  have h8' : a.cause (issueState s c a b) c ((issueState s c a b).core c) = none := by
    simpa [issueCore] using h8
  have e : (if waitCycles (settle (s.core c)) (bundleKeys a b) b.array = 0
      then s.modCore c settle
      else (s.modCore c settle).modCore c (fun k => readAhead (s.modCore c settle).mem c
        (waitCycles (settle (s.core c)) (bundleKeys a b) b.array)
        (interlock (waitCycles (settle (s.core c)) (bundleKeys a b) b.array) k)))
      = issueState s c a b := by simp [issueState]
  simp only [e, h8']
  rw [if_neg (by simp [h6]), if_neg (by simpa [issueCore] using h9)]

/-- Reading ahead changes the fetch buffer alone. -/
theorem fetchAhead_keeps (m : Memory) (c busy : Nat) (k : Core) :
    (fetchAhead m c busy k).still = k.still ∧ (fetchAhead m c busy k).next = k.next ∧ (fetchAhead m c busy k).stall = k.stall := by
  unfold fetchAhead
  simp only []
  repeat' split
  all_goals exact ⟨rfl, rfl, rfl⟩
theorem readAhead_keeps (m : Memory) (c n : Nat) (k : Core) :
    (readAhead m c n k).still = k.still ∧ (readAhead m c n k).next = k.next ∧ (readAhead m c n k).stall = k.stall := by
  unfold readAhead
  have h := fetchAhead_keeps m c 0 k
  have h2 := fetchAhead_keeps m c 0 (fetchAhead m c 0 k)
  split
  · exact ⟨rfl, rfl, rfl⟩
  · exact h
  · exact ⟨h2.1.trans h.1, h2.2.1.trans h.2.1, h2.2.2.trans h.2.2⟩

theorem settle_still (k : Core) : (settle k).still = k.still := by unfold settle; split <;> rfl

theorem issueCore_eq (s : State) (c : Nat) (a b : Slot) :
    ∃ n, issueCore s c a b = settle (s.core c) ∨
      issueCore s c a b = readAhead s.mem c n (interlock n (settle (s.core c))) := by
  refine ⟨waitCycles (settle (s.core c)) (bundleKeys a b) b.array, ?_⟩
  unfold issueCore issueState
  simp only [core_modCore_same]
  split
  · left; simp
  · right; simp

/-- The issue cycle keeps what a core holds; only its place and timing move. -/
theorem issueCore_still (s : State) (c : Nat) (a b : Slot) : (issueCore s c a b).still = (s.core c).still := by
  obtain ⟨n, h | h⟩ := issueCore_eq s c a b <;> rw [h]
  · exact settle_still _
  · rw [(readAhead_keeps ..).1, ← settle_still (s.core c)]; rfl

theorem issueCore_next (s : State) (c : Nat) (a b : Slot) : (issueCore s c a b).next = (settle (s.core c)).next := by
  obtain ⟨n, h | h⟩ := issueCore_eq s c a b <;> rw [h]
  rw [(readAhead_keeps ..).2.1]; rfl

theorem still_getX (k k' : Core) (h : k.still = k'.still) (r : BitVec 5) : k.getX r = k'.getX r := by
  have : k.x = k'.x := congrArg (fun k => k.x) h
  simp [Core.getX, this]
theorem still_getV (k k' : Core) (h : k.still = k'.still) (r : BitVec 5) : k.getV r = k'.getV r := by
  have : k.v = k'.v := congrArg (fun k => k.v) h
  simp [Core.getV, this]
theorem still_getP (k k' : Core) (h : k.still = k'.still) (r : BitVec 3) : k.getP r = k'.getP r := by
  have : k.p = k'.p := congrArg (fun k => k.p) h
  simp [Core.getP, this]

@[simp] theorem issueCore_getX (s : State) (c : Nat) (a b : Slot) (r : BitVec 5) :
    (issueCore s c a b).getX r = (s.core c).getX r := still_getX _ _ (issueCore_still s c a b) r
@[simp] theorem issueCore_getV (s : State) (c : Nat) (a b : Slot) (r : BitVec 5) :
    (issueCore s c a b).getV r = (s.core c).getV r := still_getV _ _ (issueCore_still s c a b) r
@[simp] theorem issueCore_getP (s : State) (c : Nat) (a b : Slot) (r : BitVec 3) :
    (issueCore s c a b).getP r = (s.core c).getP r := still_getP _ _ (issueCore_still s c a b) r

theorem issueState_frame (s : State) (c : Nat) (a b : Slot) :
    (∀ d, d ≠ c → (issueState s c a b).core d = s.core d) ∧ (issueState s c a b).withCores s.cores = s := by
  unfold issueState
  simp only []
  split
  · exact ⟨fun d hd => by simp [core_modCore, hd], by simp⟩
  · exact ⟨fun d hd => by simp [core_modCore, hd], by simp⟩

theorem fetchStep_keeps (m : Memory) (c idx busy : Nat) (w : DWord) (k : Core) :
    (fetchStep m c idx busy w k).still = k.still ∧ (fetchStep m c idx busy w k).next = k.next := by
  unfold fetchStep
  simp only []
  repeat' split
  all_goals exact ⟨rfl, rfl⟩

/-! ### Slots that touch only their core -/

/-- A slot changes only its core, by `f` of the core in the issue cycle. -/
structure CoreAct (b : Slot) (f : Core → Core → Core) : Prop where
  others : ∀ c k s d, d ≠ c → (b.run c k s).core d = s.core d
  rest   : ∀ c k s, (b.run c k s).withCores s.cores = s
  core   : ∀ c k s, (b.run c k s).core c = f k (s.core c)

theorem CoreAct.ofMod (b : Slot) (f : Core → Core → Core) (h : ∀ c k s, b.run c k s = s.modCore c (f k)) : CoreAct b f where
  others c k s d hd := by simp [h, core_modCore, hd]
  rest c k s := by simp [h]
  core c k s := by simp [h]

theorem CoreAct.ofId (b : Slot) (h : ∀ c k s, b.run c k s = s) : CoreAct b (fun _ k => k) where
  others c k s d _ := by rw [h]
  rest c k s := by rw [h]; rfl
  core c k s := by rw [h]

/-- The parts of a core that no slot B changes: x registers, counters, requests, loops and the next bundle. -/
def Core.aside (k : Core) : Tab DWord × Tab DWord × Tab (Option Entry) × List Desc × List BilletOp × List LoopLvl × BitVec 16 :=
  (k.x, k.tc, k.fe, k.bulk, k.billet, k.loops, k.next)

/-- The change depends on the core through what `still` keeps, and leaves alone what no slot B changes. -/
structure CoreStep (b : Slot) (f : Core → Core → Core) : Prop extends CoreAct b f where
  still  : ∀ k k1 k2, k1.still = k2.still → (f k k1).still = (f k k2).still
  aside  : ∀ k k1, (f k k1).aside = k1.aside

theorem CoreStep.next {b : Slot} {f : Core → Core → Core} (h : CoreStep b f) (k k1 : Core) : (f k k1).next = k1.next :=
  congrArg (fun p => p.2.2.2.2.2.2) (h.aside k k1)

theorem CoreStep.ofMod (b : Slot) (f : Core → Core → Core) (h : ∀ c k s, b.run c k s = s.modCore c (f k))
    (hs : ∀ k k1 k2, k1.still = k2.still → (f k k1).still = (f k k2).still) (hn : ∀ k k1, (f k k1).aside = k1.aside) :
    CoreStep b f where
  toCoreAct := CoreAct.ofMod b f h
  still := hs
  aside := hn

theorem CoreStep.ofId (b : Slot) (h : ∀ c k s, b.run c k s = s) : CoreStep b (fun _ k => k) where
  toCoreAct := CoreAct.ofId b h
  still _ _ _ h := h
  aside _ _ := rfl

/-- The parts of a core that `still` keeps agree when the stilled cores do. -/
theorem still_ext (k k' : Core) (h : k.still = k'.still) :
    k.x = k'.x ∧ k.v = k'.v ∧ k.p = k'.p ∧ k.acc = k'.acc ∧ k.grp = k'.grp ∧ k.gen = k'.gen ∧ k.tc = k'.tc ∧ k.fe = k'.fe ∧
      k.bulk = k'.bulk ∧ k.billet = k'.billet ∧ k.seed = k'.seed ∧ k.tcb = k'.tcb :=
  ⟨congrArg (fun k => k.x) h, congrArg (fun k => k.v) h, congrArg (fun k => k.p) h, congrArg (fun k => k.acc) h,
    congrArg (fun k => k.grp) h, congrArg (fun k => k.gen) h, congrArg (fun k => k.tc) h, congrArg (fun k => k.fe) h,
    congrArg (fun k => k.bulk) h, congrArg (fun k => k.billet) h, congrArg (fun k => k.seed) h, congrArg (fun k => k.tcb) h⟩

theorem setX_still (k : Core) (r : BitVec 5) (v : DWord) : (k.setX r v).still = k.still.setX r v := by
  unfold Core.setX; split <;> rfl
theorem setV_still (k : Core) (r : BitVec 5) (v : VWord) : (k.setV r v).still = k.still.setV r v := rfl
theorem setP_still (k : Core) (r : BitVec 3) (v : PWord) : (k.setP r v).still = k.still.setP r v := by
  unfold Core.setP; split <;> rfl
theorem closeWhere_still (p : Nat → Bool) (k : Core) : (closeWhere p k).still = closeWhere p k.still := rfl
theorem mmaRows_still (acc : BitVec 2) (fa fb mode : BitVec 4) (a b sv : VWord) (n : Nat) (k : Core) :
    (mmaRows' acc fa fb mode a b sv n k).still = mmaRows' acc fa fb mode a b sv n k.still ∧
      (mmaRows' acc fa fb mode a b sv n k).aside = k.aside := by
  induction n with
  | zero => exact ⟨rfl, rfl⟩
  | succ n ih =>
    simp only [mmaRows']
    rw [← ih.1]
    exact ⟨rfl, ih.2⟩

/-! ### Slot B: what each instruction does to its core -/

theorem coreStep_vec (vd vs1 vs2 : BitVec 5) (pm : BitVec 3) (legal two : Bool) (n : Nat) (g : PWord → VWord → VWord → VWord → VWord) :
    CoreStep (slotVec vd vs1 vs2 pm legal two n g)
      (fun k k1 => k1.setV vd (g (k.getP pm) (k.getV vs1) (k.getV vs2) (k.getV vd))) :=
  CoreStep.ofMod _ _ (fun _ _ _ => rfl) (fun k k1 k2 h => by rw [setV_still, setV_still, h]) (fun _ _ => rfl)

theorem coreStep_vcmp (vd vs1 vs2 : BitVec 5) (pm : BitVec 3) (fn : BitVec 8) :
    CoreStep (slotVcmp vd vs1 vs2 pm fn) (fun k k1 => k1.setP (vd.extractLsb' 0 3)
      (vcmpVal fn (k.getP pm) (k.getV vs1) (k.getV vs2) (k.getP (vd.extractLsb' 0 3)))) :=
  CoreStep.ofMod _ _ (fun _ _ _ => rfl) (fun k k1 k2 h => by rw [setP_still, setP_still, h]) (fun _ _ => by simp [Core.aside])

theorem coreStep_vpred (vd vs1 vs2 : BitVec 5) (pm : BitVec 3) (fn : BitVec 8) :
    CoreStep (slotVpred vd vs1 vs2 pm fn) (fun k k1 => k1.setP (vd.extractLsb' 0 3)
      (vpredVal fn (k.getP (vs1.extractLsb' 0 3)) (k.getP (vs2.extractLsb' 0 3)))) :=
  CoreStep.ofMod _ _ (fun _ _ _ => rfl) (fun k k1 k2 h => by rw [setP_still, setP_still, h]) (fun _ _ => by simp [Core.aside])

theorem coreStep_vred (vd vs1 vs2 : BitVec 5) (pm : BitVec 3) (fn : BitVec 8) :
    CoreStep (slotVred vd vs1 vs2 pm fn) (fun k k1 => k1.setV vd (vredVal fn vs2 (k.getP pm) (k.getV vs1))) :=
  CoreStep.ofMod _ _ (fun _ _ _ => rfl) (fun k k1 k2 h => by rw [setV_still, setV_still, h]) (fun _ _ => rfl)

/-- A v register and the generator written together. -/
def setVGen (k1 : Core) (vd : BitVec 5) (r : VWord × DWord) : Core := { k1.setV vd r.1 with gen := r.2 }
theorem setVGen_still (k1 k2 : Core) (vd : BitVec 5) (r : VWord × DWord) (h : k1.still = k2.still) :
    (setVGen k1 vd r).still = (setVGen k2 vd r).still :=
  congrArg (fun x : Core => setVGen x vd r) h

theorem coreStep_vcvt (m : Rnd) (sr : Bool) (vd vs1 vs2 : BitVec 5) (pm : BitVec 3) (fn : BitVec 8) :
    CoreStep (slotVcvt m sr vd vs1 vs2 pm fn)
      (fun k k1 => setVGen k1 vd (vcvtVal m sr fn pm (k.getV vs1) (k.getV vs2) (k.getV vd) k.gen)) :=
  CoreStep.ofMod _ _ (fun _ _ _ => rfl) (fun _ _ _ h => setVGen_still _ _ _ _ h) (fun _ _ => rfl)

theorem coreStep_mma (acc : BitVec 2) (vs1 vs2 : BitVec 5) (fa fb mode : BitVec 4) (scale : BitVec 2) :
    CoreStep (slotMma acc vs1 vs2 fa fb mode scale) (fun k k1 =>
      { mmaRows' acc fa fb mode (k.getV vs1) (k.getV vs2)
          (if etBlock fa.toNat || etBlock fb.toNat then k.getV (scaleReg scale) else 0) (mmaRows mode) k1 with
        ready := Tab.put 0 k1.ready (kMma acc) (k.pipe + 8) }) :=
  CoreStep.ofMod _ _ (fun _ _ _ => rfl)
    (fun k k1 k2 h => by
      have e : ∀ (y : Core) z, ({ y with ready := z } : Core).still = y.still := fun _ _ => rfl
      simp only [e, (mmaRows_still _ _ _ _ _ _ _ _ _).1, h])
    (fun k k1 => (mmaRows_still _ _ _ _ _ _ _ _ _).2)

/-- An accumulator and its open groups cleared. -/
def clearAcc (acc : BitVec 2) (k1 : Core) : Core :=
  { k1 with acc := Tab.restrict (fun i => decide (i / 32 ≠ acc.toNat)) k1.acc
            grp := Tab.restrict (fun i => decide (i / 32 ≠ acc.toNat)) k1.grp }
theorem coreStep_aclr (acc : BitVec 2) (zero : BitVec 24) : CoreStep (slotAclr acc zero) (fun _ k1 => clearAcc acc k1) :=
  CoreStep.ofMod _ _ (fun _ _ _ => rfl) (fun _ _ _ h => congrArg (clearAcc acc) h) (fun _ _ => rfl)

theorem coreStep_acvt (acc : BitVec 2) (vd row : BitVec 5) (fmt : BitVec 4) (rnd : BitVec 2) (mul sat : Bool)
    (zero part scale : BitVec 2) :
    CoreStep (slotAcvt acc vd row fmt rnd mul sat zero part scale) (fun k k1 => setVGen (k1.closeAcc acc) vd
      (acvtVal fmt rnd mul sat part ((k.closeAcc acc).getAcc acc row.toNat) (k.getV (scaleReg scale)) (k.getV vd) k.gen)) :=
  CoreStep.ofMod _ _ (fun _ _ _ => rfl)
    (fun k _ _ h => congrArg (fun x : Core => setVGen (x.closeAcc acc) vd
      (acvtVal fmt rnd mul sat part ((k.closeAcc acc).getAcc acc row.toNat) (k.getV (scaleReg scale)) (k.getV vd) k.gen)) h)
    (fun _ _ => rfl)

theorem coreStep_awr (acc : BitVec 2) (vs1 row : BitVec 5) (zero : BitVec 14) :
    CoreStep (slotAwr acc vs1 row zero) (fun k k1 =>
      { (k1.closeAcc acc).setAcc acc row.toNat (k.getV vs1) with
        ready := Tab.put 0 k1.ready (kAwr acc) (k.pipe + 2) }) :=
  CoreStep.ofMod _ _ (fun _ _ _ => rfl)
    (fun k _ _ h => congrArg (fun x : Core => (x.closeAcc acc).setAcc acc row.toNat (k.getV vs1)) h) (fun _ _ => rfl)

theorem coreStep_illegal : CoreStep slotIllegal (fun _ k => k) := CoreStep.ofId _ (fun _ _ _ => rfl)
theorem coreStep_nop : CoreStep slotNop (fun _ k => k) := CoreStep.ofId _ (fun _ _ _ => rfl)

/-- Every slot B word touches only its core. -/
theorem coreStep_decodeB (w : Word) : ∃ f, CoreStep (decodeB w) f := by
  unfold decodeB
  split
  · split
    · exact ⟨_, coreStep_nop⟩
    · exact ⟨_, coreStep_illegal⟩
  · exact ⟨_, coreStep_vec ..⟩
  · exact ⟨_, coreStep_vec ..⟩
  · exact ⟨_, coreStep_vec ..⟩
  · exact ⟨_, coreStep_vcmp ..⟩
  · exact ⟨_, coreStep_vpred ..⟩
  · exact ⟨_, coreStep_vec ..⟩
  · exact ⟨_, coreStep_vec ..⟩
  · exact ⟨_, coreStep_vred ..⟩
  · exact ⟨_, coreStep_vcvt ..⟩
  · exact ⟨_, coreStep_vcvt ..⟩
  · exact ⟨_, coreStep_vcvt ..⟩
  · exact ⟨_, coreStep_mma ..⟩
  · exact ⟨_, coreStep_aclr ..⟩
  · exact ⟨_, coreStep_acvt ..⟩
  · exact ⟨_, coreStep_awr ..⟩
  · exact ⟨_, coreStep_illegal⟩

theorem decodeB_post (w : Word) : (decodeB w).post = fun _ s => s := by
  unfold decodeB
  repeat' split
  all_goals rfl

/-! ### Both slots -/

/-- The core with the bookkeeping of its issue: the next bundle, the fetch and loop buffers, the registers pending. -/
def issuedCore (m : Memory) (c : Nat) (a b : Slot) (w : DWord) (k k1 : Core) : Core :=
  countBanks k1 (a.banks k)
    (fetchStep m c k.next.toNat (a.banks k) w
      (markReady k.pipe (a.writes ++ b.writes)
        { coast 1 { k1 with begun := true } with
          next := k1.next + 1, edge := true, noBreak := false, array := if b.array then k.pipe + 4 else k1.array }))

theorem issuedCore_still (m : Memory) (c : Nat) (a b : Slot) (w : DWord) (k k1 : Core) :
    (issuedCore m c a b w k k1).still = k1.still := (fetchStep_keeps ..).1
theorem issuedCore_next (m : Memory) (c : Nat) (a b : Slot) (w : DWord) (k k1 : Core) :
    (issuedCore m c a b w k k1).next = k1.next + 1 := (fetchStep_keeps ..).2

theorem takeEffect_eq (c : Nat) (a b : Slot) (w : DWord) (s : State) :
    takeEffect c a b w s = a.post c (a.run c (s.core c) (b.run c (s.core c)
      (s.modCore c (issuedCore s.mem c a b w (s.core c))))) := rfl

/-- Slot B's effect in the issue cycle: the core changes by slot B beside its bookkeeping, and nothing else does. -/
theorem slotB_effect (s : State) (c : Nat) (a b : Slot) (w : DWord) (f : Core → Core → Core) (hb : CoreStep b f) :
    let u := b.run c (issueCore s c a b)
      ((issueState s c a b).modCore c (issuedCore (issueState s c a b).mem c a b w (issueCore s c a b)))
    (∀ d, d ≠ c → u.core d = s.core d) ∧ u.withCores s.cores = s ∧
      (u.core c).still = (f (issueCore s c a b) (issueCore s c a b)).still ∧
      (u.core c).next = (settle (s.core c)).next + 1 := by
  intro u
  have fr := issueState_frame s c a b
  have hr := hb.rest c (issueCore s c a b)
    ((issueState s c a b).modCore c (issuedCore (issueState s c a b).mem c a b w (issueCore s c a b)))
  refine ⟨fun d hd => ?_, ?_, ?_, ?_⟩
  · rw [hb.others _ _ _ _ hd, core_modCore, if_neg hd, fr.1 d hd]
  · have h2 : u.withCores s.cores = (u.withCores
        ((issueState s c a b).modCore c (issuedCore (issueState s c a b).mem c a b w (issueCore s c a b))).cores).withCores s.cores := rfl
    rw [h2, hr, modCore_withCores, fr.2]
  · rw [hb.core]
    exact hb.still _ _ _ (by rw [core_modCore_same, issuedCore_still]; rfl)
  · rw [hb.core, hb.next, core_modCore_same, issuedCore_next]
    show (issueCore s c a b).next + 1 = _
    rw [issueCore_next]

/-- `beside` is slot B's effect on the core of the issue cycle. -/
theorem beside_core (s : State) (c : Nat) (a b : Slot) (f : Core → Core → Core) (hb : CoreStep b f) :
    (beside s c a b).core c = f (issueCore s c a b) (issueCore s c a b) := hb.core ..

/-- A slot A that touches only its core, beside any slot B: the whole effect of a bundle that runs. -/
theorem slotA_effect (s : State) (c : Nat) (a b : Slot) (w : DWord) (g : Core → Core → Core)
    (h : bundleRuns s c a b = true) (hb : ∃ f, CoreStep b f) (ha : CoreAct a g)
    (hs : ∀ k k1 k2, k1.still = k2.still → (g k k1).still = (g k k2).still) (hp : a.post = fun _ s => s) :
    let t := issueBundle c a b w s
    (∀ d, d ≠ c → t.core d = s.core d) ∧ t.withCores s.cores = s ∧
      (t.core c).still = (g (issueCore s c a b) ((beside s c a b).core c)).still ∧
      ∃ k1, k1.next = (settle (s.core c)).next + 1 ∧ k1.still = ((beside s c a b).core c).still ∧
        t.core c = g (issueCore s c a b) k1 := by
  intro t
  obtain ⟨f, hb⟩ := hb
  have e := slotB_effect s c a b w f hb
  simp only [] at e
  have ht : t = a.run c (issueCore s c a b) (b.run c (issueCore s c a b) ((issueState s c a b).modCore c
      (issuedCore (issueState s c a b).mem c a b w (issueCore s c a b)))) := by
    show issueBundle c a b w s = _
    rw [issueBundle_runs s c a b w h, takeEffect_eq, hp]; rfl
  have hr := ha.rest c (issueCore s c a b) (b.run c (issueCore s c a b) ((issueState s c a b).modCore c
      (issuedCore (issueState s c a b).mem c a b w (issueCore s c a b))))
  rw [ht]
  refine ⟨fun d hd => by rw [ha.others _ _ _ _ hd, e.1 d hd], ?_, ?_, _, e.2.2.2, ?_, ha.core ..⟩
  · have h2 : ∀ u v : State, u.withCores s.cores = (u.withCores v.cores).withCores s.cores := fun _ _ => rfl
    rw [h2, hr, e.2.1]
  · rw [ha.core]
    exact hs _ _ _ (by rw [e.2.2.1, beside_core s c a b f hb])
  · rw [e.2.2.1, beside_core s c a b f hb]

end Sys2Proof.Machine
end

