-- ==== Sys2Proof/Laws/PerInstr.lean ====
section
/-! SUPPORT. The opcode of every instruction command: the bundle that it encodes carries, in the place of its slot, the
opcode that R75 and R102 give the instruction; a command that is no instruction encodes no bundle. -/

namespace Sys2Proof.Laws

open Sys2Proof.Machine

/-! ### The opcode field of each format (R72, R100) -/

theorem opNop (b : Word) : (bundle (0#32) b).extractLsb' 26 6 = 0x00#6 := by
  unfold bundle
  rw [BitVec.extractLsb'_append_eq_of_add_le (by omega)]; rfl

theorem opI (op : BitVec 6) (r1 r2 : BitVec 5) (imm : BitVec 16) (b : Word) :
    (bundle (encI op r1 r2 imm) b).extractLsb' 26 6 = op := by
  unfold bundle encI
  rw [BitVec.extractLsb'_append_eq_of_add_le (by omega)]
  iterate 3 rw [BitVec.extractLsb'_append_eq_of_le (by omega)]
  simp

theorem opR (op : BitVec 6) (r1 r2 r3 : BitVec 5) (fn : BitVec 11) (b : Word) :
    (bundle (encR op r1 r2 r3 fn) b).extractLsb' 26 6 = op := by
  unfold bundle encR
  rw [BitVec.extractLsb'_append_eq_of_add_le (by omega)]
  iterate 4 rw [BitVec.extractLsb'_append_eq_of_le (by omega)]
  simp

theorem opJ (op : BitVec 6) (off : BitVec 26) (b : Word) :
    (bundle (encJ op off) b).extractLsb' 26 6 = op := by
  unfold bundle encJ
  rw [BitVec.extractLsb'_append_eq_of_add_le (by omega)]
  iterate 1 rw [BitVec.extractLsb'_append_eq_of_le (by omega)]
  simp

theorem opF (op : BitVec 6) (r1 r2 r3 : BitVec 5) (cls : BitVec 3) (ord : BitVec 2) (flag : Bool)
    (size : BitVec 2) (hint : BitVec 3) (b : Word) :
    (bundle (encF op r1 r2 r3 cls ord flag size hint) b).extractLsb' 26 6 = op := by
  unfold bundle encF
  rw [BitVec.extractLsb'_append_eq_of_add_le (by omega)]
  iterate 8 rw [BitVec.extractLsb'_append_eq_of_le (by omega)]
  simp

theorem opV (op : BitVec 6) (r1 r2 r3 : BitVec 5) (pm : BitVec 3) (fn : BitVec 8) (a : Word) :
    (bundle a (encV op r1 r2 r3 pm fn)).extractLsb' 58 6 = op := by
  unfold bundle encV
  iterate 6 rw [BitVec.extractLsb'_append_eq_of_le (by omega)]
  simp

theorem opM (op : BitVec 6) (acc : BitVec 2) (f1 f2 : BitVec 5) (rest : BitVec 14) (a : Word) :
    (bundle a (encM op acc f1 f2 rest)).extractLsb' 58 6 = op := by
  unfold bundle encM
  iterate 5 rw [BitVec.extractLsb'_append_eq_of_le (by omega)]
  simp

theorem opC (op : BitVec 6) (acc : BitVec 2) (zero : BitVec 24) (a : Word) :
    (bundle a (op ++ acc ++ zero : Word)).extractLsb' 58 6 = op := by
  unfold bundle
  iterate 3 rw [BitVec.extractLsb'_append_eq_of_le (by omega)]
  simp

/-! ### One statement for every constructor -/

/-- Where in a bundle the instruction's opcode stands, and its value (R75, R102); none for every other command. -/
def Opcode.table (i : Instr) : Option (Nat × BitVec 6) :=
  match i with
  | .nop _ _ => some (26, 0x00)
  | .alu _ _ _ _ _ _ => some (26, 0x01)
  | .addi _ _ _ _ _ => some (26, 0x02)
  | .andi _ _ _ _ _ => some (26, 0x03)
  | .ori _ _ _ _ _ => some (26, 0x04)
  | .xori _ _ _ _ _ => some (26, 0x05)
  | .slti _ _ _ _ _ => some (26, 0x06)
  | .sltiu _ _ _ _ _ => some (26, 0x07)
  | .slli _ _ _ _ _ => some (26, 0x08)
  | .srli _ _ _ _ _ => some (26, 0x09)
  | .srai _ _ _ _ _ => some (26, 0x0A)
  | .orsh _ _ _ _ _ => some (26, 0x0B)
  | .beq _ _ _ _ _ => some (26, 0x10)
  | .bne _ _ _ _ _ => some (26, 0x11)
  | .blt _ _ _ _ _ => some (26, 0x12)
  | .bge _ _ _ _ _ => some (26, 0x13)
  | .bltu _ _ _ _ _ => some (26, 0x14)
  | .bgeu _ _ _ _ _ => some (26, 0x15)
  | .j _ _ _ => some (26, 0x16)
  | .jal _ _ _ => some (26, 0x17)
  | .jalr _ _ _ _ _ => some (26, 0x18)
  | .loop _ _ _ _ _ => some (26, 0x19)
  | .waitt _ _ _ _ _ => some (26, 0x1A)
  | .halt _ _ _ => some (26, 0x1B)
  | .trap _ _ _ => some (26, 0x1C)
  | .srd _ _ _ _ _ => some (26, 0x1D)
  | .swr _ _ _ _ _ => some (26, 0x1E)
  | .ldx _ _ _ _ _ => some (26, 0x20)
  | .stx _ _ _ _ _ => some (26, 0x21)
  | .ldv16 _ _ _ _ _ => some (26, 0x22)
  | .ldv32 _ _ _ _ _ => some (26, 0x23)
  | .ldv64 _ _ _ _ _ => some (26, 0x24)
  | .ldv _ _ _ _ _ => some (26, 0x25)
  | .stv16 _ _ _ _ _ => some (26, 0x26)
  | .stv32 _ _ _ _ _ => some (26, 0x27)
  | .stv64 _ _ _ _ _ => some (26, 0x28)
  | .stv _ _ _ _ _ => some (26, 0x29)
  | .ldp _ _ _ _ _ => some (26, 0x2A)
  | .stp _ _ _ _ _ => some (26, 0x2B)
  | .bldx _ _ _ _ _ => some (26, 0x2C)
  | .bstx _ _ _ _ _ => some (26, 0x2D)
  | .bldv _ _ _ _ _ => some (26, 0x2E)
  | .bstv _ _ _ _ _ => some (26, 0x2F)
  | .fld _ _ _ _ _ _ _ _ _ _ => some (26, 0x30)
  | .fat _ _ _ _ _ _ _ _ _ _ => some (26, 0x32)
  | .fred _ _ _ _ _ _ _ _ _ _ => some (26, 0x33)
  | .fmcs _ _ _ _ _ _ _ _ _ _ => some (26, 0x34)
  | .ownx _ _ _ _ _ _ _ _ _ _ => some (26, 0x36)
  | .ownr _ _ _ _ _ _ _ _ _ _ => some (26, 0x37)
  | .ecommit _ _ _ _ _ _ _ _ _ _ => some (26, 0x3A)
  | .bulkq _ _ _ _ _ _ _ _ _ _ => some (26, 0x3B)
  | .fst _ _ _ _ _ _ _ _ _ => some (26, 0x31)
  | .fstf _ _ _ _ _ _ _ _ _ => some (26, 0x31)
  | .ffence _ _ _ _ _ => some (26, 0x35)
  | .etag _ _ _ _ _ => some (26, 0x38)
  | .eview _ _ _ _ _ => some (26, 0x39)
  | .vfp _ _ _ _ _ _ _ => some (58, 0x01)
  | .vint _ _ _ _ _ _ _ => some (58, 0x02)
  | .vlog _ _ _ _ _ _ _ => some (58, 0x03)
  | .vcmp _ _ _ _ _ _ _ => some (58, 0x04)
  | .vpred _ _ _ _ _ _ _ => some (58, 0x05)
  | .vxcn _ _ _ _ _ _ _ => some (58, 0x06)
  | .vperm _ _ _ _ _ _ _ => some (58, 0x07)
  | .vred _ _ _ _ _ _ _ => some (58, 0x08)
  | .vcvtRne _ _ _ _ _ _ _ => some (58, 0x09)
  | .vcvtRtz _ _ _ _ _ _ _ => some (58, 0x0A)
  | .vcvtSr _ _ _ _ _ _ _ => some (58, 0x0B)
  | .mma _ _ _ _ _ _ _ _ _ => some (58, 0x20)
  | .aclr _ _ _ _ => some (58, 0x21)
  | .acvt _ _ _ _ _ _ _ _ _ _ _ _ => some (58, 0x22)
  | .awr _ _ _ _ _ _ => some (58, 0x23)
  | _ => none

/-- The bundle of the command carries its opcode; a command that is no instruction has no bundle. -/
def Opcode.Statement (i : Instr) : Prop :=
  match Opcode.table i with
  | some (p, op) => ∃ c w, bundleOf i = some (c, w) ∧ w.extractLsb' p 6 = op
  | none => bundleOf i = none

theorem Opcode.nop : ∀ a1 a2, Opcode.Statement (.nop a1 a2) :=
  fun _ _ => ⟨_, _, rfl, opNop _⟩
theorem Opcode.alu : ∀ a1 a2 a3 a4 a5 a6, Opcode.Statement (.alu a1 a2 a3 a4 a5 a6) :=
  fun _ _ _ _ _ _ => ⟨_, _, rfl, opR _ _ _ _ _ _⟩
theorem Opcode.addi : ∀ a1 a2 a3 a4 a5, Opcode.Statement (.addi a1 a2 a3 a4 a5) :=
  fun _ _ _ _ _ => ⟨_, _, rfl, opI _ _ _ _ _⟩
theorem Opcode.andi : ∀ a1 a2 a3 a4 a5, Opcode.Statement (.andi a1 a2 a3 a4 a5) :=
  fun _ _ _ _ _ => ⟨_, _, rfl, opI _ _ _ _ _⟩
theorem Opcode.ori : ∀ a1 a2 a3 a4 a5, Opcode.Statement (.ori a1 a2 a3 a4 a5) :=
  fun _ _ _ _ _ => ⟨_, _, rfl, opI _ _ _ _ _⟩
theorem Opcode.xori : ∀ a1 a2 a3 a4 a5, Opcode.Statement (.xori a1 a2 a3 a4 a5) :=
  fun _ _ _ _ _ => ⟨_, _, rfl, opI _ _ _ _ _⟩
theorem Opcode.slti : ∀ a1 a2 a3 a4 a5, Opcode.Statement (.slti a1 a2 a3 a4 a5) :=
  fun _ _ _ _ _ => ⟨_, _, rfl, opI _ _ _ _ _⟩
theorem Opcode.sltiu : ∀ a1 a2 a3 a4 a5, Opcode.Statement (.sltiu a1 a2 a3 a4 a5) :=
  fun _ _ _ _ _ => ⟨_, _, rfl, opI _ _ _ _ _⟩
theorem Opcode.slli : ∀ a1 a2 a3 a4 a5, Opcode.Statement (.slli a1 a2 a3 a4 a5) :=
  fun _ _ _ _ _ => ⟨_, _, rfl, opI _ _ _ _ _⟩
theorem Opcode.srli : ∀ a1 a2 a3 a4 a5, Opcode.Statement (.srli a1 a2 a3 a4 a5) :=
  fun _ _ _ _ _ => ⟨_, _, rfl, opI _ _ _ _ _⟩
theorem Opcode.srai : ∀ a1 a2 a3 a4 a5, Opcode.Statement (.srai a1 a2 a3 a4 a5) :=
  fun _ _ _ _ _ => ⟨_, _, rfl, opI _ _ _ _ _⟩
theorem Opcode.orsh : ∀ a1 a2 a3 a4 a5, Opcode.Statement (.orsh a1 a2 a3 a4 a5) :=
  fun _ _ _ _ _ => ⟨_, _, rfl, opI _ _ _ _ _⟩
theorem Opcode.beq : ∀ a1 a2 a3 a4 a5, Opcode.Statement (.beq a1 a2 a3 a4 a5) :=
  fun _ _ _ _ _ => ⟨_, _, rfl, opI _ _ _ _ _⟩
theorem Opcode.bne : ∀ a1 a2 a3 a4 a5, Opcode.Statement (.bne a1 a2 a3 a4 a5) :=
  fun _ _ _ _ _ => ⟨_, _, rfl, opI _ _ _ _ _⟩
theorem Opcode.blt : ∀ a1 a2 a3 a4 a5, Opcode.Statement (.blt a1 a2 a3 a4 a5) :=
  fun _ _ _ _ _ => ⟨_, _, rfl, opI _ _ _ _ _⟩
theorem Opcode.bge : ∀ a1 a2 a3 a4 a5, Opcode.Statement (.bge a1 a2 a3 a4 a5) :=
  fun _ _ _ _ _ => ⟨_, _, rfl, opI _ _ _ _ _⟩
theorem Opcode.bltu : ∀ a1 a2 a3 a4 a5, Opcode.Statement (.bltu a1 a2 a3 a4 a5) :=
  fun _ _ _ _ _ => ⟨_, _, rfl, opI _ _ _ _ _⟩
theorem Opcode.bgeu : ∀ a1 a2 a3 a4 a5, Opcode.Statement (.bgeu a1 a2 a3 a4 a5) :=
  fun _ _ _ _ _ => ⟨_, _, rfl, opI _ _ _ _ _⟩
theorem Opcode.j : ∀ a1 a2 a3, Opcode.Statement (.j a1 a2 a3) :=
  fun _ _ _ => ⟨_, _, rfl, opJ _ _ _⟩
theorem Opcode.jal : ∀ a1 a2 a3, Opcode.Statement (.jal a1 a2 a3) :=
  fun _ _ _ => ⟨_, _, rfl, opJ _ _ _⟩
theorem Opcode.jalr : ∀ a1 a2 a3 a4 a5, Opcode.Statement (.jalr a1 a2 a3 a4 a5) :=
  fun _ _ _ _ _ => ⟨_, _, rfl, opI _ _ _ _ _⟩
theorem Opcode.loop : ∀ a1 a2 a3 a4 a5, Opcode.Statement (.loop a1 a2 a3 a4 a5) :=
  fun _ _ _ _ _ => ⟨_, _, rfl, opI _ _ _ _ _⟩
theorem Opcode.loopBackEdge : ∀ a1, Opcode.Statement (.loopBackEdge a1) :=
  fun _ => rfl
theorem Opcode.waitt : ∀ a1 a2 a3 a4 a5, Opcode.Statement (.waitt a1 a2 a3 a4 a5) :=
  fun _ _ _ _ _ => ⟨_, _, rfl, opI _ _ _ _ _⟩
theorem Opcode.halt : ∀ a1 a2 a3, Opcode.Statement (.halt a1 a2 a3) :=
  fun _ _ _ => ⟨_, _, rfl, opJ _ _ _⟩
theorem Opcode.trap : ∀ a1 a2 a3, Opcode.Statement (.trap a1 a2 a3) :=
  fun _ _ _ => ⟨_, _, rfl, opJ _ _ _⟩
theorem Opcode.breakpointStop : ∀ a1, Opcode.Statement (.breakpointStop a1) :=
  fun _ => rfl
theorem Opcode.srd : ∀ a1 a2 a3 a4 a5, Opcode.Statement (.srd a1 a2 a3 a4 a5) :=
  fun _ _ _ _ _ => ⟨_, _, rfl, opI _ _ _ _ _⟩
theorem Opcode.swr : ∀ a1 a2 a3 a4 a5, Opcode.Statement (.swr a1 a2 a3 a4 a5) :=
  fun _ _ _ _ _ => ⟨_, _, rfl, opI _ _ _ _ _⟩
theorem Opcode.ldx : ∀ a1 a2 a3 a4 a5, Opcode.Statement (.ldx a1 a2 a3 a4 a5) :=
  fun _ _ _ _ _ => ⟨_, _, rfl, opI _ _ _ _ _⟩
theorem Opcode.stx : ∀ a1 a2 a3 a4 a5, Opcode.Statement (.stx a1 a2 a3 a4 a5) :=
  fun _ _ _ _ _ => ⟨_, _, rfl, opI _ _ _ _ _⟩
theorem Opcode.ldv16 : ∀ a1 a2 a3 a4 a5, Opcode.Statement (.ldv16 a1 a2 a3 a4 a5) :=
  fun _ _ _ _ _ => ⟨_, _, rfl, opI _ _ _ _ _⟩
theorem Opcode.ldv32 : ∀ a1 a2 a3 a4 a5, Opcode.Statement (.ldv32 a1 a2 a3 a4 a5) :=
  fun _ _ _ _ _ => ⟨_, _, rfl, opI _ _ _ _ _⟩
theorem Opcode.ldv64 : ∀ a1 a2 a3 a4 a5, Opcode.Statement (.ldv64 a1 a2 a3 a4 a5) :=
  fun _ _ _ _ _ => ⟨_, _, rfl, opI _ _ _ _ _⟩
theorem Opcode.ldv : ∀ a1 a2 a3 a4 a5, Opcode.Statement (.ldv a1 a2 a3 a4 a5) :=
  fun _ _ _ _ _ => ⟨_, _, rfl, opI _ _ _ _ _⟩
theorem Opcode.stv16 : ∀ a1 a2 a3 a4 a5, Opcode.Statement (.stv16 a1 a2 a3 a4 a5) :=
  fun _ _ _ _ _ => ⟨_, _, rfl, opI _ _ _ _ _⟩
theorem Opcode.stv32 : ∀ a1 a2 a3 a4 a5, Opcode.Statement (.stv32 a1 a2 a3 a4 a5) :=
  fun _ _ _ _ _ => ⟨_, _, rfl, opI _ _ _ _ _⟩
theorem Opcode.stv64 : ∀ a1 a2 a3 a4 a5, Opcode.Statement (.stv64 a1 a2 a3 a4 a5) :=
  fun _ _ _ _ _ => ⟨_, _, rfl, opI _ _ _ _ _⟩
theorem Opcode.stv : ∀ a1 a2 a3 a4 a5, Opcode.Statement (.stv a1 a2 a3 a4 a5) :=
  fun _ _ _ _ _ => ⟨_, _, rfl, opI _ _ _ _ _⟩
theorem Opcode.ldp : ∀ a1 a2 a3 a4 a5, Opcode.Statement (.ldp a1 a2 a3 a4 a5) :=
  fun _ _ _ _ _ => ⟨_, _, rfl, opI _ _ _ _ _⟩
theorem Opcode.stp : ∀ a1 a2 a3 a4 a5, Opcode.Statement (.stp a1 a2 a3 a4 a5) :=
  fun _ _ _ _ _ => ⟨_, _, rfl, opI _ _ _ _ _⟩
theorem Opcode.bldx : ∀ a1 a2 a3 a4 a5, Opcode.Statement (.bldx a1 a2 a3 a4 a5) :=
  fun _ _ _ _ _ => ⟨_, _, rfl, opI _ _ _ _ _⟩
theorem Opcode.bstx : ∀ a1 a2 a3 a4 a5, Opcode.Statement (.bstx a1 a2 a3 a4 a5) :=
  fun _ _ _ _ _ => ⟨_, _, rfl, opI _ _ _ _ _⟩
theorem Opcode.bldv : ∀ a1 a2 a3 a4 a5, Opcode.Statement (.bldv a1 a2 a3 a4 a5) :=
  fun _ _ _ _ _ => ⟨_, _, rfl, opI _ _ _ _ _⟩
theorem Opcode.bstv : ∀ a1 a2 a3 a4 a5, Opcode.Statement (.bstv a1 a2 a3 a4 a5) :=
  fun _ _ _ _ _ => ⟨_, _, rfl, opI _ _ _ _ _⟩
theorem Opcode.billetLoadReturn : ∀ a1, Opcode.Statement (.billetLoadReturn a1) :=
  fun _ => rfl
theorem Opcode.fld : ∀ a1 a2 a3 a4 a5 a6 a7 a8 a9 a10, Opcode.Statement (.fld a1 a2 a3 a4 a5 a6 a7 a8 a9 a10) :=
  fun _ _ _ _ _ _ _ _ _ _ => ⟨_, _, rfl, opF _ _ _ _ _ _ _ _ _ _⟩
theorem Opcode.fst : ∀ a1 a2 a3 a4 a5 a6 a7 a8 a9, Opcode.Statement (.fst a1 a2 a3 a4 a5 a6 a7 a8 a9) :=
  fun _ _ _ _ _ _ _ _ _ => ⟨_, _, rfl, opF _ _ _ _ _ _ _ _ _ _⟩
theorem Opcode.fstf : ∀ a1 a2 a3 a4 a5 a6 a7 a8 a9, Opcode.Statement (.fstf a1 a2 a3 a4 a5 a6 a7 a8 a9) :=
  fun _ _ _ _ _ _ _ _ _ => ⟨_, _, rfl, opF _ _ _ _ _ _ _ _ _ _⟩
theorem Opcode.fat : ∀ a1 a2 a3 a4 a5 a6 a7 a8 a9 a10, Opcode.Statement (.fat a1 a2 a3 a4 a5 a6 a7 a8 a9 a10) :=
  fun _ _ _ _ _ _ _ _ _ _ => ⟨_, _, rfl, opF _ _ _ _ _ _ _ _ _ _⟩
theorem Opcode.fred : ∀ a1 a2 a3 a4 a5 a6 a7 a8 a9 a10, Opcode.Statement (.fred a1 a2 a3 a4 a5 a6 a7 a8 a9 a10) :=
  fun _ _ _ _ _ _ _ _ _ _ => ⟨_, _, rfl, opF _ _ _ _ _ _ _ _ _ _⟩
theorem Opcode.fmcs : ∀ a1 a2 a3 a4 a5 a6 a7 a8 a9 a10, Opcode.Statement (.fmcs a1 a2 a3 a4 a5 a6 a7 a8 a9 a10) :=
  fun _ _ _ _ _ _ _ _ _ _ => ⟨_, _, rfl, opF _ _ _ _ _ _ _ _ _ _⟩
theorem Opcode.ffence : ∀ a1 a2 a3 a4 a5, Opcode.Statement (.ffence a1 a2 a3 a4 a5) :=
  fun _ _ _ _ _ => ⟨_, _, rfl, opI _ _ _ _ _⟩
theorem Opcode.fenceTimeout : ∀ a1, Opcode.Statement (.fenceTimeout a1) :=
  fun _ => rfl
theorem Opcode.ownx : ∀ a1 a2 a3 a4 a5 a6 a7 a8 a9 a10, Opcode.Statement (.ownx a1 a2 a3 a4 a5 a6 a7 a8 a9 a10) :=
  fun _ _ _ _ _ _ _ _ _ _ => ⟨_, _, rfl, opF _ _ _ _ _ _ _ _ _ _⟩
theorem Opcode.ownr : ∀ a1 a2 a3 a4 a5 a6 a7 a8 a9 a10, Opcode.Statement (.ownr a1 a2 a3 a4 a5 a6 a7 a8 a9 a10) :=
  fun _ _ _ _ _ _ _ _ _ _ => ⟨_, _, rfl, opF _ _ _ _ _ _ _ _ _ _⟩
theorem Opcode.etag : ∀ a1 a2 a3 a4 a5, Opcode.Statement (.etag a1 a2 a3 a4 a5) :=
  fun _ _ _ _ _ => ⟨_, _, rfl, opI _ _ _ _ _⟩
theorem Opcode.eview : ∀ a1 a2 a3 a4 a5, Opcode.Statement (.eview a1 a2 a3 a4 a5) :=
  fun _ _ _ _ _ => ⟨_, _, rfl, opI _ _ _ _ _⟩
theorem Opcode.ecommit : ∀ a1 a2 a3 a4 a5 a6 a7 a8 a9 a10, Opcode.Statement (.ecommit a1 a2 a3 a4 a5 a6 a7 a8 a9 a10) :=
  fun _ _ _ _ _ _ _ _ _ _ => ⟨_, _, rfl, opF _ _ _ _ _ _ _ _ _ _⟩
theorem Opcode.bulkq : ∀ a1 a2 a3 a4 a5 a6 a7 a8 a9 a10, Opcode.Statement (.bulkq a1 a2 a3 a4 a5 a6 a7 a8 a9 a10) :=
  fun _ _ _ _ _ _ _ _ _ _ => ⟨_, _, rfl, opF _ _ _ _ _ _ _ _ _ _⟩
theorem Opcode.bulkPacketStart : ∀ a1 a2, Opcode.Statement (.bulkPacketStart a1 a2) :=
  fun _ _ => rfl
theorem Opcode.descriptorCompletion : ∀ a1, Opcode.Statement (.descriptorCompletion a1) :=
  fun _ => rfl
theorem Opcode.vfp : ∀ a1 a2 a3 a4 a5 a6 a7, Opcode.Statement (.vfp a1 a2 a3 a4 a5 a6 a7) :=
  fun _ _ _ _ _ _ _ => ⟨_, _, rfl, opV _ _ _ _ _ _ _⟩
theorem Opcode.vint : ∀ a1 a2 a3 a4 a5 a6 a7, Opcode.Statement (.vint a1 a2 a3 a4 a5 a6 a7) :=
  fun _ _ _ _ _ _ _ => ⟨_, _, rfl, opV _ _ _ _ _ _ _⟩
theorem Opcode.vlog : ∀ a1 a2 a3 a4 a5 a6 a7, Opcode.Statement (.vlog a1 a2 a3 a4 a5 a6 a7) :=
  fun _ _ _ _ _ _ _ => ⟨_, _, rfl, opV _ _ _ _ _ _ _⟩
theorem Opcode.vcmp : ∀ a1 a2 a3 a4 a5 a6 a7, Opcode.Statement (.vcmp a1 a2 a3 a4 a5 a6 a7) :=
  fun _ _ _ _ _ _ _ => ⟨_, _, rfl, opV _ _ _ _ _ _ _⟩
theorem Opcode.vpred : ∀ a1 a2 a3 a4 a5 a6 a7, Opcode.Statement (.vpred a1 a2 a3 a4 a5 a6 a7) :=
  fun _ _ _ _ _ _ _ => ⟨_, _, rfl, opV _ _ _ _ _ _ _⟩
theorem Opcode.vxcn : ∀ a1 a2 a3 a4 a5 a6 a7, Opcode.Statement (.vxcn a1 a2 a3 a4 a5 a6 a7) :=
  fun _ _ _ _ _ _ _ => ⟨_, _, rfl, opV _ _ _ _ _ _ _⟩
theorem Opcode.vperm : ∀ a1 a2 a3 a4 a5 a6 a7, Opcode.Statement (.vperm a1 a2 a3 a4 a5 a6 a7) :=
  fun _ _ _ _ _ _ _ => ⟨_, _, rfl, opV _ _ _ _ _ _ _⟩
theorem Opcode.vred : ∀ a1 a2 a3 a4 a5 a6 a7, Opcode.Statement (.vred a1 a2 a3 a4 a5 a6 a7) :=
  fun _ _ _ _ _ _ _ => ⟨_, _, rfl, opV _ _ _ _ _ _ _⟩
theorem Opcode.vcvtRne : ∀ a1 a2 a3 a4 a5 a6 a7, Opcode.Statement (.vcvtRne a1 a2 a3 a4 a5 a6 a7) :=
  fun _ _ _ _ _ _ _ => ⟨_, _, rfl, opV _ _ _ _ _ _ _⟩
theorem Opcode.vcvtRtz : ∀ a1 a2 a3 a4 a5 a6 a7, Opcode.Statement (.vcvtRtz a1 a2 a3 a4 a5 a6 a7) :=
  fun _ _ _ _ _ _ _ => ⟨_, _, rfl, opV _ _ _ _ _ _ _⟩
theorem Opcode.vcvtSr : ∀ a1 a2 a3 a4 a5 a6 a7, Opcode.Statement (.vcvtSr a1 a2 a3 a4 a5 a6 a7) :=
  fun _ _ _ _ _ _ _ => ⟨_, _, rfl, opV _ _ _ _ _ _ _⟩
theorem Opcode.mma : ∀ a1 a2 a3 a4 a5 a6 a7 a8 a9, Opcode.Statement (.mma a1 a2 a3 a4 a5 a6 a7 a8 a9) :=
  fun _ _ _ _ _ _ _ _ _ => ⟨_, _, rfl, opM _ _ _ _ _ _⟩
theorem Opcode.aclr : ∀ a1 a2 a3 a4, Opcode.Statement (.aclr a1 a2 a3 a4) :=
  fun _ _ _ _ => ⟨_, _, rfl, opC _ _ _ _⟩
theorem Opcode.acvt : ∀ a1 a2 a3 a4 a5 a6 a7 a8 a9 a10 a11 a12, Opcode.Statement (.acvt a1 a2 a3 a4 a5 a6 a7 a8 a9 a10 a11 a12) :=
  fun _ _ _ _ _ _ _ _ _ _ _ _ => ⟨_, _, rfl, opM _ _ _ _ _ _⟩
theorem Opcode.awr : ∀ a1 a2 a3 a4 a5 a6, Opcode.Statement (.awr a1 a2 a3 a4 a5 a6) :=
  fun _ _ _ _ _ _ => ⟨_, _, rfl, opM _ _ _ _ _ _⟩
theorem Opcode.bankYield : ∀ a1 a2 a3, Opcode.Statement (.bankYield a1 a2 a3) :=
  fun _ _ _ => rfl
theorem Opcode.start : ∀ a1, Opcode.Statement (.start a1) :=
  fun _ => rfl
theorem Opcode.stop : ∀ a1, Opcode.Statement (.stop a1) :=
  fun _ => rfl
theorem Opcode.stopDrainDone : ∀ a1, Opcode.Statement (.stopDrainDone a1) :=
  fun _ => rfl
theorem Opcode.resume : ∀ a1, Opcode.Statement (.resume a1) :=
  fun _ => rfl
theorem Opcode.step : ∀ a1, Opcode.Statement (.step a1) :=
  fun _ => rfl
theorem Opcode.siteGo : ∀ a1, Opcode.Statement (.siteGo a1) :=
  fun _ => rfl
theorem Opcode.debugDataRead : ∀ a1 a2 a3, Opcode.Statement (.debugDataRead a1 a2 a3) :=
  fun _ _ _ => rfl
theorem Opcode.debugDataWrite : ∀ a1 a2 a3 a4, Opcode.Statement (.debugDataWrite a1 a2 a3 a4) :=
  fun _ _ _ _ => rfl
theorem Opcode.siteJobCfgWrite : ∀ a1 a2 a3 a4, Opcode.Statement (.siteJobCfgWrite a1 a2 a3 a4) :=
  fun _ _ _ _ => rfl
theorem Opcode.coreFence : ∀ a1, Opcode.Statement (.coreFence a1) :=
  fun _ => rfl
theorem Opcode.registerWrite : ∀ a1 a2 a3, Opcode.Statement (.registerWrite a1 a2 a3) :=
  fun _ _ _ => rfl
theorem Opcode.routerForward : ∀ a1 a2 a3, Opcode.Statement (.routerForward a1 a2 a3) :=
  fun _ _ _ => rfl
theorem Opcode.redholdExpiry : ∀ a1, Opcode.Statement (.redholdExpiry a1) :=
  fun _ => rfl
theorem Opcode.multicastAnswer : ∀ a1, Opcode.Statement (.multicastAnswer a1) :=
  fun _ => rfl
theorem Opcode.routerFault : ∀ a1, Opcode.Statement (.routerFault a1) :=
  fun _ => rfl
theorem Opcode.billetRequest : ∀ a1 a2 a3 a4, Opcode.Statement (.billetRequest a1 a2 a3 a4) :=
  fun _ _ _ _ => rfl
theorem Opcode.scrubRead : ∀ a1 a2, Opcode.Statement (.scrubRead a1 a2) :=
  fun _ _ => rfl
theorem Opcode.billetCfgWrite : ∀ a1 a2, Opcode.Statement (.billetCfgWrite a1 a2) :=
  fun _ _ => rfl
theorem Opcode.hearthPortRequest : ∀ a1, Opcode.Statement (.hearthPortRequest a1) :=
  fun _ => rfl
theorem Opcode.rd : ∀ a1, Opcode.Statement (.rd a1) :=
  fun _ => rfl
theorem Opcode.wr8 : ∀ a1, Opcode.Statement (.wr8 a1) :=
  fun _ => rfl
theorem Opcode.wr : ∀ a1, Opcode.Statement (.wr a1) :=
  fun _ => rfl
theorem Opcode.mcs8 : ∀ a1, Opcode.Statement (.mcs8 a1) :=
  fun _ => rfl
theorem Opcode.mcs : ∀ a1, Opcode.Statement (.mcs a1) :=
  fun _ => rfl
theorem Opcode.fatAtHome : ∀ a1, Opcode.Statement (.fatAtHome a1) :=
  fun _ => rfl
theorem Opcode.fredAtHome : ∀ a1, Opcode.Statement (.fredAtHome a1) :=
  fun _ => rfl
theorem Opcode.ownxAtHome : ∀ a1, Opcode.Statement (.ownxAtHome a1) :=
  fun _ => rfl
theorem Opcode.ownrAtHome : ∀ a1, Opcode.Statement (.ownrAtHome a1) :=
  fun _ => rfl
theorem Opcode.ecommitAtHome : ∀ a1, Opcode.Statement (.ecommitAtHome a1) :=
  fun _ => rfl
theorem Opcode.epochStateChange : ∀ a1, Opcode.Statement (.epochStateChange a1) :=
  fun _ => rfl
theorem Opcode.commitDrainWriteback : ∀ a1 a2 a3, Opcode.Statement (.commitDrainWriteback a1 a2 a3) :=
  fun _ _ _ => rfl
theorem Opcode.epochFree : ∀ a1 a2, Opcode.Statement (.epochFree a1 a2) :=
  fun _ _ => rfl
theorem Opcode.ack : ∀ a1, Opcode.Statement (.ack a1) :=
  fun _ => rfl
theorem Opcode.data8 : ∀ a1, Opcode.Statement (.data8 a1) :=
  fun _ => rfl
theorem Opcode.data : ∀ a1, Opcode.Statement (.data a1) :=
  fun _ => rfl
theorem Opcode.heldRequestRelease : ∀ a1, Opcode.Statement (.heldRequestRelease a1) :=
  fun _ => rfl
theorem Opcode.flagWriteRelease : ∀ a1, Opcode.Statement (.flagWriteRelease a1) :=
  fun _ => rfl
theorem Opcode.ownCfgWrite : ∀ a1 a2, Opcode.Statement (.ownCfgWrite a1 a2) :=
  fun _ _ => rfl
theorem Opcode.ownForceRelRegion : ∀ a1 a2, Opcode.Statement (.ownForceRelRegion a1 a2) :=
  fun _ _ => rfl
theorem Opcode.ownForceRelAll : ∀ a1, Opcode.Statement (.ownForceRelAll a1) :=
  fun _ => rfl
theorem Opcode.creditReturn : ∀ a1 a2 a3, Opcode.Statement (.creditReturn a1 a2 a3) :=
  fun _ _ _ => rfl
theorem Opcode.inputQueueRelease : ∀ a1, Opcode.Statement (.inputQueueRelease a1) :=
  fun _ => rfl
theorem Opcode.combEntryFree : ∀ a1, Opcode.Statement (.combEntryFree a1) :=
  fun _ => rfl
theorem Opcode.gatewayRedholdExpiry : ∀ a1 a2, Opcode.Statement (.gatewayRedholdExpiry a1 a2) :=
  fun _ _ => rfl
theorem Opcode.jobKill : ∀ a1, Opcode.Statement (.jobKill a1) :=
  fun _ => rfl
theorem Opcode.jobKillDone : Opcode.Statement .jobKillDone := rfl
theorem Opcode.jobKillRelease : ∀ a1, Opcode.Statement (.jobKillRelease a1) :=
  fun _ => rfl
theorem Opcode.grantRequest : ∀ a1 a2, Opcode.Statement (.grantRequest a1 a2) :=
  fun _ _ => rfl
theorem Opcode.grant : ∀ a1 a2, Opcode.Statement (.grant a1 a2) :=
  fun _ _ => rfl
theorem Opcode.grantEnd : ∀ a1 a2, Opcode.Statement (.grantEnd a1 a2) :=
  fun _ _ => rfl
theorem Opcode.l0Packet : ∀ a1, Opcode.Statement (.l0Packet a1) :=
  fun _ => rfl
theorem Opcode.loopFailure : ∀ a1, Opcode.Statement (.loopFailure a1) :=
  fun _ => rfl
theorem Opcode.opticalWindowFail : ∀ a1 a2, Opcode.Statement (.opticalWindowFail a1 a2) :=
  fun _ _ => rfl
theorem Opcode.waveguideFailure : ∀ a1 a2, Opcode.Statement (.waveguideFailure a1 a2) :=
  fun _ _ => rfl
theorem Opcode.gwPortCfgWrite : ∀ a1 a2 a3, Opcode.Statement (.gwPortCfgWrite a1 a2 a3) :=
  fun _ _ _ => rfl
theorem Opcode.portTraining : ∀ a1 a2 a3 a4 a5, Opcode.Statement (.portTraining a1 a2 a3 a4 a5) :=
  fun _ _ _ _ _ => rfl
theorem Opcode.portTrainingTimeout : ∀ a1 a2 a3, Opcode.Statement (.portTrainingTimeout a1 a2 a3) :=
  fun _ _ _ => rfl
theorem Opcode.portTrainingRetry : ∀ a1 a2 a3, Opcode.Statement (.portTrainingRetry a1 a2 a3) :=
  fun _ _ _ => rfl
theorem Opcode.mismatchRecheck : ∀ a1 a2 a3 a4, Opcode.Statement (.mismatchRecheck a1 a2 a3 a4) :=
  fun _ _ _ _ => rfl
theorem Opcode.portLaneFailure : ∀ a1 a2 a3, Opcode.Statement (.portLaneFailure a1 a2 a3) :=
  fun _ _ _ => rfl
theorem Opcode.portDown : ∀ a1 a2 a3, Opcode.Statement (.portDown a1 a2 a3) :=
  fun _ _ _ => rfl
theorem Opcode.linkFrame : ∀ a1 a2, Opcode.Statement (.linkFrame a1 a2) :=
  fun _ _ => rfl
theorem Opcode.e2eAck : ∀ a1 a2 a3, Opcode.Statement (.e2eAck a1 a2 a3) :=
  fun _ _ _ => rfl
theorem Opcode.rtoExpiry : ∀ a1 a2, Opcode.Statement (.rtoExpiry a1 a2) :=
  fun _ _ => rfl
theorem Opcode.deadTimeout : ∀ a1, Opcode.Statement (.deadTimeout a1) :=
  fun _ => rfl
theorem Opcode.gwRouteWrite : ∀ a1 a2, Opcode.Statement (.gwRouteWrite a1 a2) :=
  fun _ _ => rfl
theorem Opcode.revive : ∀ a1, Opcode.Statement (.revive a1) :=
  fun _ => rfl
theorem Opcode.pcArbiterGrant : ∀ a1 a2 a3 a4, Opcode.Statement (.pcArbiterGrant a1 a2 a3 a4) :=
  fun _ _ _ _ => rfl
theorem Opcode.ageCap : ∀ a1 a2, Opcode.Statement (.ageCap a1 a2) :=
  fun _ _ => rfl
theorem Opcode.refresh : ∀ a1 a2 a3, Opcode.Statement (.refresh a1 a2 a3) :=
  fun _ _ _ => rfl
theorem Opcode.hbmTempRead : ∀ a1 a2 a3 a4 a5, Opcode.Statement (.hbmTempRead a1 a2 a3 a4 a5) :=
  fun _ _ _ _ _ => rfl
theorem Opcode.crucScrubRead : ∀ a1 a2, Opcode.Statement (.crucScrubRead a1 a2) :=
  fun _ _ => rfl
theorem Opcode.pcFailed : ∀ a1 a2, Opcode.Statement (.pcFailed a1 a2) :=
  fun _ _ => rfl
theorem Opcode.hbmInit : ∀ a1 a2, Opcode.Statement (.hbmInit a1 a2) :=
  fun _ _ => rfl
theorem Opcode.replay : ∀ a1 a2, Opcode.Statement (.replay a1 a2) :=
  fun _ _ => rfl
theorem Opcode.laneMonitorProbe : ∀ a1 a2 a3, Opcode.Statement (.laneMonitorProbe a1 a2 a3) :=
  fun _ _ _ => rfl
theorem Opcode.spareSwap : ∀ a1 a2, Opcode.Statement (.spareSwap a1 a2) :=
  fun _ _ => rfl
theorem Opcode.linkDegrade : ∀ a1 a2, Opcode.Statement (.linkDegrade a1 a2) :=
  fun _ _ => rfl
theorem Opcode.fullRetrain : ∀ a1 a2, Opcode.Statement (.fullRetrain a1 a2) :=
  fun _ _ => rfl
theorem Opcode.fieldSelfTest : ∀ a1 a2, Opcode.Statement (.fieldSelfTest a1 a2) :=
  fun _ _ => rfl
theorem Opcode.lockUpdate : ∀ a1 a2 a3 a4, Opcode.Statement (.lockUpdate a1 a2 a3 a4) :=
  fun _ _ _ _ => rfl
theorem Opcode.wrongLineLock : ∀ a1 a2, Opcode.Statement (.wrongLineLock a1 a2) :=
  fun _ _ => rfl
theorem Opcode.laserDriveUpdate : ∀ a1 a2 a3 a4, Opcode.Statement (.laserDriveUpdate a1 a2 a3 a4) :=
  fun _ _ _ _ => rfl
theorem Opcode.combSwap : ∀ a1 a2 a3 a4, Opcode.Statement (.combSwap a1 a2 a3 a4) :=
  fun _ _ _ _ => rfl
theorem Opcode.quietGap : ∀ a1, Opcode.Statement (.quietGap a1) :=
  fun _ => rfl
theorem Opcode.forceSwap : ∀ a1 a2 a3 a4, Opcode.Statement (.forceSwap a1 a2 a3 a4) :=
  fun _ _ _ _ => rfl
theorem Opcode.combDark : ∀ a1 a2, Opcode.Statement (.combDark a1 a2) :=
  fun _ _ => rfl
theorem Opcode.imageSnapshot : Opcode.Statement .imageSnapshot := rfl
theorem Opcode.imageRead : ∀ a1, Opcode.Statement (.imageRead a1) :=
  fun _ => rfl
theorem Opcode.stepSwitch : ∀ a1 a2, Opcode.Statement (.stepSwitch a1 a2) :=
  fun _ _ => rfl
theorem Opcode.droopStretch : ∀ a1 a2, Opcode.Statement (.droopStretch a1 a2) :=
  fun _ _ => rfl
theorem Opcode.refclkLoss : Opcode.Statement .refclkLoss := rfl
theorem Opcode.refclkRestored : Opcode.Statement .refclkRestored := rfl
theorem Opcode.holdoverTimeout : Opcode.Statement .holdoverTimeout := rfl
theorem Opcode.referenceLoss : ∀ a1, Opcode.Statement (.referenceLoss a1) :=
  fun _ => rfl
theorem Opcode.xtalLoss : Opcode.Statement .xtalLoss := rfl
theorem Opcode.boostRequest : ∀ a1, Opcode.Statement (.boostRequest a1) :=
  fun _ => rfl
theorem Opcode.burstExpiry : ∀ a1, Opcode.Statement (.burstExpiry a1) :=
  fun _ => rfl
theorem Opcode.regulatorReport : ∀ a1, Opcode.Statement (.regulatorReport a1) :=
  fun _ => rfl
theorem Opcode.avsTimeout : ∀ a1, Opcode.Statement (.avsTimeout a1) :=
  fun _ => rfl
theorem Opcode.ocAlert : Opcode.Statement .ocAlert := rfl
theorem Opcode.ocHoldExpiry : Opcode.Statement .ocHoldExpiry := rfl
theorem Opcode.napEntry : ∀ a1, Opcode.Statement (.napEntry a1) :=
  fun _ => rfl
theorem Opcode.handshakeRetry : ∀ a1, Opcode.Statement (.handshakeRetry a1) :=
  fun _ => rfl
theorem Opcode.standbyEntry : ∀ a1, Opcode.Statement (.standbyEntry a1) :=
  fun _ => rfl
theorem Opcode.wake : ∀ a1, Opcode.Statement (.wake a1) :=
  fun _ => rfl
theorem Opcode.regionOn : ∀ a1, Opcode.Statement (.regionOn a1) :=
  fun _ => rfl
theorem Opcode.regionGatedClock : ∀ a1 a2, Opcode.Statement (.regionGatedClock a1 a2) :=
  fun _ _ => rfl
theorem Opcode.regionRetain : ∀ a1 a2, Opcode.Statement (.regionRetain a1 a2) :=
  fun _ _ => rfl
theorem Opcode.regionOff : ∀ a1 a2, Opcode.Statement (.regionOff a1 a2) :=
  fun _ _ => rfl
theorem Opcode.regionWakeDone : ∀ a1, Opcode.Statement (.regionWakeDone a1) :=
  fun _ => rfl
theorem Opcode.autoIdle : ∀ a1, Opcode.Statement (.autoIdle a1) :=
  fun _ => rfl
theorem Opcode.sensorConversion : ∀ a1 a2 a3, Opcode.Statement (.sensorConversion a1 a2 a3) :=
  fun _ _ _ => rfl
theorem Opcode.thermalCapStep : ∀ a1, Opcode.Statement (.thermalCapStep a1) :=
  fun _ => rfl
theorem Opcode.capLift : ∀ a1, Opcode.Statement (.capLift a1) :=
  fun _ => rfl
theorem Opcode.billetImplausible : ∀ a1, Opcode.Statement (.billetImplausible a1) :=
  fun _ => rfl
theorem Opcode.faultEvent : ∀ a1 a2, Opcode.Statement (.faultEvent a1 a2) :=
  fun _ _ => rfl
theorem Opcode.collectorMismatch : Opcode.Statement .collectorMismatch := rfl
theorem Opcode.quenchRelease : Opcode.Statement .quenchRelease := rfl
theorem Opcode.perFunctionReset : ∀ a1 a2, Opcode.Statement (.perFunctionReset a1 a2) :=
  fun _ _ => rfl
theorem Opcode.f0Restart : ∀ a1, Opcode.Statement (.f0Restart a1) :=
  fun _ => rfl
theorem Opcode.billetInternalReset : ∀ a1, Opcode.Statement (.billetInternalReset a1) :=
  fun _ => rfl
theorem Opcode.fltHeartbeat : ∀ a1, Opcode.Statement (.fltHeartbeat a1) :=
  fun _ => rfl
theorem Opcode.heartbeatMiss : ∀ a1, Opcode.Statement (.heartbeatMiss a1) :=
  fun _ => rfl
theorem Opcode.clearC2 : Opcode.Statement .clearC2 := rfl
theorem Opcode.coldReset : Opcode.Statement .coldReset := rfl
theorem Opcode.startSequence : ∀ a1, Opcode.Statement (.startSequence a1) :=
  fun _ => rfl
theorem Opcode.startTimeout : Opcode.Statement .startTimeout := rfl
theorem Opcode.csrRd : ∀ a1, Opcode.Statement (.csrRd a1) :=
  fun _ => rfl
theorem Opcode.csrWr : ∀ a1 a2, Opcode.Statement (.csrWr a1 a2) :=
  fun _ _ => rfl
theorem Opcode.memRd : ∀ a1, Opcode.Statement (.memRd a1) :=
  fun _ => rfl
theorem Opcode.memWr : ∀ a1 a2, Opcode.Statement (.memWr a1 a2) :=
  fun _ _ => rfl
theorem Opcode.assign : ∀ a1, Opcode.Statement (.assign a1) :=
  fun _ => rfl
theorem Opcode.assignAck : ∀ a1, Opcode.Statement (.assignAck a1) :=
  fun _ => rfl
theorem Opcode.assignEnd : ∀ a1, Opcode.Statement (.assignEnd a1) :=
  fun _ => rfl
theorem Opcode.unassign : Opcode.Statement .unassign := rfl
theorem Opcode.resp : ∀ a1, Opcode.Statement (.resp a1) :=
  fun _ => rfl
theorem Opcode.event : ∀ a1, Opcode.Statement (.event a1) :=
  fun _ => rfl
theorem Opcode.evtCredit : ∀ a1, Opcode.Statement (.evtCredit a1) :=
  fun _ => rfl
theorem Opcode.spasenReplay : ∀ a1 a2, Opcode.Statement (.spasenReplay a1 a2) :=
  fun _ _ => rfl
theorem Opcode.spasenPortDown : ∀ a1, Opcode.Statement (.spasenPortDown a1) :=
  fun _ => rfl
theorem Opcode.fabricNumberAssign : ∀ a1, Opcode.Statement (.fabricNumberAssign a1) :=
  fun _ => rfl
theorem Opcode.flashRecordWrite : ∀ a1, Opcode.Statement (.flashRecordWrite a1) :=
  fun _ => rfl
theorem Opcode.flashSlotSwitch : ∀ a1 a2, Opcode.Statement (.flashSlotSwitch a1 a2) :=
  fun _ _ => rfl
theorem Opcode.attestationReport : Opcode.Statement .attestationReport := rfl
theorem Opcode.fuseSequence : Opcode.Statement .fuseSequence := rfl
theorem Opcode.fuseWindowCheck : Opcode.Statement .fuseWindowCheck := rfl
theorem Opcode.saveCalibrationImage : ∀ a1, Opcode.Statement (.saveCalibrationImage a1) :=
  fun _ => rfl
theorem Opcode.secExtend : Opcode.Statement .secExtend := rfl
theorem Opcode.smbusSetPointer : ∀ a1 a2, Opcode.Statement (.smbusSetPointer a1 a2) :=
  fun _ _ => rfl
theorem Opcode.smbusRead : ∀ a1, Opcode.Statement (.smbusRead a1) :=
  fun _ => rfl
theorem Opcode.smbusWrite : ∀ a1 a2, Opcode.Statement (.smbusWrite a1 a2) :=
  fun _ _ => rfl
theorem Opcode.smbusHealth : Opcode.Statement .smbusHealth := rfl
theorem Opcode.smbusTemp : Opcode.Statement .smbusTemp := rfl
theorem Opcode.smbusAlertResponse : Opcode.Statement .smbusAlertResponse := rfl
theorem Opcode.idcode : Opcode.Statement .idcode := rfl
theorem Opcode.samplePreload : ∀ a1, Opcode.Statement (.samplePreload a1) :=
  fun _ => rfl
theorem Opcode.extest : Opcode.Statement .extest := rfl
theorem Opcode.clamp : Opcode.Statement .clamp := rfl
theorem Opcode.highz : Opcode.Statement .highz := rfl
theorem Opcode.dbg : ∀ a1, Opcode.Statement (.dbg a1) :=
  fun _ => rfl
theorem Opcode.bypass : Opcode.Statement .bypass := rfl
theorem Opcode.guestRequest : ∀ a1 a2, Opcode.Statement (.guestRequest a1 a2) :=
  fun _ _ => rfl
theorem Opcode.guestInboundRequest : ∀ a1 a2, Opcode.Statement (.guestInboundRequest a1 a2) :=
  fun _ _ => rfl
theorem Opcode.claim : Opcode.Statement .claim := rfl
theorem Opcode.release : Opcode.Statement .release := rfl
theorem Opcode.resync : Opcode.Statement .resync := rfl
theorem Opcode.ownInRise : Opcode.Statement .ownInRise := rfl
theorem Opcode.gatesOpen : Opcode.Statement .gatesOpen := rfl
theorem Opcode.switchOver : Opcode.Statement .switchOver := rfl
theorem Opcode.mirrorEpochClose : Opcode.Statement .mirrorEpochClose := rfl
theorem Opcode.mirrorRecord : ∀ a1 a2, Opcode.Statement (.mirrorRecord a1 a2) :=
  fun _ _ => rfl
theorem Opcode.mirrorCommit : ∀ a1 a2, Opcode.Statement (.mirrorCommit a1 a2) :=
  fun _ _ => rfl
theorem Opcode.mirrorLinkTimeout : Opcode.Statement .mirrorLinkTimeout := rfl
theorem Opcode.takeover : ∀ a1 a2 a3 a4, Opcode.Statement (.takeover a1 a2 a3 a4) :=
  fun _ _ _ _ => rfl
theorem Opcode.spasenPortUp : ∀ a1, Opcode.Statement (.spasenPortUp a1) :=
  fun _ => rfl
theorem Opcode.aliveToggle : Opcode.Statement .aliveToggle := rfl
theorem Opcode.vaonBrownout : Opcode.Statement .vaonBrownout := rfl
theorem Opcode.billetControlFault : ∀ a1, Opcode.Statement (.billetControlFault a1) :=
  fun _ => rfl
theorem Opcode.tapReset : Opcode.Statement .tapReset := rfl
theorem Opcode.l1PacketAcknowledgement : ∀ a1, Opcode.Statement (.l1PacketAcknowledgement a1) :=
  fun _ => rfl
theorem Opcode.periodicCalibration : ∀ a1 a2, Opcode.Statement (.periodicCalibration a1 a2) :=
  fun _ _ => rfl

end Sys2Proof.Laws
end

