-- ==== Sys2Proof/Tests/Slice0.lean ====
section
/-! SUPPORT. Small checks: terms that well-formedness refuses, instruction words written out from the formats, and for
each statement concrete states that meet its hypotheses, clause by clause. -/

namespace Sys2Proof.Tests

open Sys2Proof Sys2Proof.Machine

-- One theorem after another: the kernel runs below are long, and many at once need many stacks.
set_option Elab.async false

/-! ### Well-formedness refuses parts the device does not have -/

theorem test_link_kind_refused : exec (.replay ⟨7, 0⟩ 0) State.reset = .refused .noSuchPart := by rfl
theorem test_link_lane_refused : exec (.spareSwap ⟨0, 0⟩ 511) State.reset = .refused .noSuchPart := by rfl
theorem test_probe_refused : wellFormed (.laneMonitorProbe ⟨0, 8191⟩ 0 none) = false := by decide
theorem test_degrade_refused : wellFormed (.linkDegrade ⟨0, 8191⟩ 0) = false := by decide
theorem test_retrain_refused : wellFormed (.fullRetrain ⟨7, 0⟩ []) = false := by decide
theorem test_lock_refused : wellFormed (.lockUpdate ⟨7, 0, 511⟩ 0 none none) = false := by decide
theorem test_wrong_line_refused : wellFormed (.wrongLineLock ⟨0, 0, 0⟩ true) = false := by decide
theorem test_calibration_refused : laneNamed ⟨0, 0, 0⟩ = false := by decide
theorem test_own_cfg_refused : exec (.ownCfgWrite 4 20) State.reset = .refused .noSuchPart := by rfl
theorem test_own_region_refused : wellFormed (.ownForceRelRegion 3 0) = false := by decide
theorem test_own_all_refused : wellFormed (.ownForceRelAll 19) = false := by decide
theorem test_named_link_accepted : wellFormed (.replay ⟨0, 0⟩ 0) = true ∧ wellFormed (.ownCfgWrite 0 20) = true := by decide

/-! ### Words written out from R72, R75, R100 and R102 -/

/-- Opcode 0x02, rd 1, rs1 2, imm 3: 000010 00001 00010 0000000000000011. -/
theorem test_decode_addi : decodeA 0b00001000001000100000000000000011 = slotAddi 1 2 3 := by rfl
/-- Opcode 0x01, rd 2, rs1 3, rs2 5, fn 13: 000001 00010 00011 00101 00000001101. -/
theorem test_decode_alu : decodeA 0b00000100010000110010100000001101 = slotAlu 2 3 5 13 := by rfl
/-- Opcode 0x10, rs1 5, rs2 6, off −2. -/
theorem test_decode_beq : decodeA 0b01000000101001101111111111111110 = slotBeq 5 6 0xFFFE := by rfl
/-- Opcode 0x16, off −1. -/
theorem test_decode_j : decodeA 0b01011011111111111111111111111111 = slotJ 0x3FFFFFF := by rfl
/-- Opcode 0x20, rd 4, rs1 2, imm 16. -/
theorem test_decode_ldx : decodeA 0b10000000100000100000000000010000 = slotLdx 4 2 0x10 := by rfl
/-- Opcode 0x30, rd 4, rs1 5, rs2 2, TC 0, ord 0, F 0, size 0, hint 0. -/
theorem test_decode_fld : decodeA 0b11000000100001010001000000000000 = slotFld 4 5 2 0 0 false 0 0 := by rfl
/-- Opcode 0x02 of slot B, vd 4, vs1 5, vs2 6, pm 1, fn 3. -/
theorem test_decode_vint : decodeB 0b00001000100001010011000100000011 = slotVint 4 5 6 1 3 := by rfl
/-- Opcode 0x03 of slot B, every field 0. -/
theorem test_decode_vlog : decodeB 0b00001100000000000000000000000000 = slotVlog 0 0 0 0 0 := by rfl
/-- Opcode 0x20 of slot B, acc 3, vs1 2, vs2 4, formats 4 and 0, mode 8, scale 1. -/
theorem test_decode_mma : decodeB 0b10000011000100010001000000100001 = slotMma 3 2 4 4 0 8 1 := by rfl

/-! ### States that meet the statements' hypotheses -/

/-- Core 0 runs with its region on and x1 holding an address. -/
def core0 : Core := { Core.reset with st := .running, jobTag := 5, x := [(1, 0x100)] }
def dev : State := { State.reset with cores := [(0, core0)], regs := [(0x14, 0x100)] }
/-- The bundle of slot A's `a` with no slot B, and the other way round. -/
def runsA (a : Slot) : Bool := bundleRuns dev 0 a (decodeB 0)
def runsB (b : Slot) : Bool := bundleRuns dev 0 (decodeA 0) b

theorem witness_slot_a : [slotNop, slotAddi 1 2 3, slotAlu 1 2 3 0x010, slotOrsh 1 2 3, slotBeq 1 1 4, slotJ 3, slotJal 5, slotJalr 0 1 0,
  slotLoop 0 1 64, slotWaitt 0 0 1, slotFfence 0 0 0x1FF, slotHalt 0, slotSrd 3 0 0x1F, slotSwr 0 1 0x1F, slotEtag 0 1 0, slotEview 0 1 0].all runsA = true := by decide +kernel

/-- PreciseTraps, TrapInstruction: an access beyond the store, one not aligned, two slots with one destination, a reserved
slot B encoding. -/
theorem witness_traps : bundleReaches dev 0 (slotTrap 3) (decodeB 0) = true ∧ bundleReaches dev 0 (slotLdx 2 1 0) (decodeB 0) = true ∧
    conflict (slotLdvN 128 4 1 0) (decodeB 0x08853103) = true ∧ mayIssue dev 0 = true ∧
    breakHit (dev.modCore 0 settle) 0 (settle (dev.core 0)) = false ∧
    bundleReaches dev 0 (slotAddi 1 2 3) (decodeB 0xFC000000) = true ∧
    (decodeB 0xFC000000).illegal = true := by decide +kernel

/-- Local and billet accesses at the first and the last place of the store. -/
theorem witness_local : [slotLdx 2 1 0, slotLdvN 16 2 1 0, slotLdvN 32 2 1 0, slotLdvN 64 2 1 0, slotLdvN 128 2 1 0, slotLdp 1 1 0, slotStx 2 1 0,
    slotStvN 16 2 1 0, slotStvN 32 2 1 0, slotStvN 64 2 1 0, slotStvN 128 2 1 0, slotStp 1 1 0, slotBldx 2 1 0, slotBldv 2 1 0, slotBstx 2 1 0,
    slotBstv 2 1 0, slotLdx 2 0 0].all runsA = true ∧
    bundleRuns (dev.setCore 0 { core0 with x := [(1, 0x3FFF8)] }) 0 (slotLdx 2 1 0) (decodeB 0) = true := by decide +kernel

/-- Fabric requests of a device with a fabric number whose job is not being killed. -/
theorem witness_requests : [slotFld 2 1 0 0 0 false 0 0, slotFld 0 1 2 0 0 false 3 0, slotFat 2 1 0 0 0 false 0 0, slotFst 0 1 2 0 0 0 0, slotFstf 0 1 2 0 1 0 0,
    slotFmcs 3 1 2 0 0 false 0 0, slotFred 3 1 2 0 0 false 0 2, slotFred 3 1 2 0 0 false 3 5, slotOwnx 0 1 0 0 0 false 0 0, slotOwnr 0 1 0 0 0 false 0 0,
    slotEcommit 3 1 2 0 0 false 0 0, slotBulkq 0 1 0 0 0 false 0 0].all runsA = true ∧
    dev.fabValid = true ∧ dev.armed 5 = false := by decide +kernel

/-- Vector and matrix instructions of slot B. -/
theorem witness_slot_b : [slotVint 4 5 6 1 96, slotVint 4 5 0 0 173, slotVfp 4 5 6 0 0, slotVfp 4 5 0 0 72, slotVxcn 4 5 0 0 3, slotVlog 4 5 6 1 6,
    slotVperm 4 5 6 0 0, slotVcmp 3 5 6 0 97, slotVpred 3 1 2 0 0, slotVpred 3 0 0 0 255, slotVred 4 5 0 0 96, slotVcvt .rne false 4 5 0 0 0x10,
    slotMma 3 2 4 0 0 0 0, slotAclr 2 0, slotAwr 1 4 31 0, slotAcvt 0 4 0 0 0 false false 0 0 0].all runsB = true := by decide +kernel

/-- Loops: a last body whose inner count is exhausted, and one that is not. -/
theorem witness_loops :
    let k (n : Word) : Core := { core0 with edge := true, next := 9, loops := [⟨n, 5, 8⟩, ⟨2, 1, 8⟩] }
    let s (n : Word) : State := dev.setCore 0 (k n)
    ((s 1).core 0).edge = true ∧ ((s 1).core 0).loops = [⟨1, 5, 8⟩, ⟨2, 1, 8⟩] ∧ ((s 1).core 0).next = 8 + 1 ∧ (s 1).quench = false ∧
      exec (.loopBackEdge 0) (s 2) = .next ((s 2).setCore 0 { k 2 with next := 5, loops := [⟨1, 5, 8⟩, ⟨2, 1, 8⟩], edge := false }) ∧
      exec (.loopBackEdge 0) (s 1) = .next ((s 1).setCore 0 { k 1 with next := 1, loops := [⟨1, 1, 8⟩], edge := false }) :=
  ⟨by decide +kernel, by decide +kernel, by decide +kernel, by decide +kernel, by rfl, by rfl⟩

/-- FFENCE with an entry in use on a counter of its mask, and FENCE_TIMEOUT a millisecond later. -/
theorem witness_fence :
    let k : Core := { core0 with fe := [(0, some ⟨3, .none⟩)], pause := some (.ffence 8 0) }
    let s : State := { dev with cores := [(0, k)], now := 250000 }
    bundleRuns (dev.setCore 0 { k with pause := none }) 0 (slotFfence 0 0 8) (decodeB 0) = true ∧
      (s.core 0).pause = some (.ffence 8 0) ∧ (s.core 0).st = .running ∧ s.quench = false ∧
      (∃ e ∈ (s.core 0).fe, ∃ n, e.2 = some n ∧ n.tc.toNat = 3) ∧ (8 : BitVec 9).getLsbD 3 = true :=
  ⟨by decide +kernel, by decide +kernel, by decide +kernel, rfl, ⟨(0, some ⟨3, .none⟩), by decide +kernel, ⟨3, .none⟩, rfl, rfl⟩, rfl⟩

/-- START, SITE_GO and the job slots: a slot with a tag and without one, a core that names it running. -/
theorem witness_starts :
    let s : State := { State.reset with regs := [(0x1000104, 0)] }
    let a := siteBase 0
    let v : State := (s.setReg (a + 0x100) 0x80000005).setReg (a + 0x200) 1
    sitesOn 0 v = true ∧ startOk v 0 = true ∧ startOk s 0 = false ∧ v.rf (a + 0x200) 0 1 = 1 ∧ v.rf (a + 0x200) 1 1 = 0 ∧
      (dev.core 0).st = .running ∧ dev.rf (coreBase 0 + 0x0C) 0 3 = 0 ∧ sitesOn 0 dev = true ∧ (v.core 0).st ≠ .running := by decide +kernel

/-- STOP, RESUME and STEP in each state, and a breakpoint at the next bundle. -/
theorem witness_stops :
    let s (st : CoreSt) (p : Option Pause) : State := dev.setCore 0 { core0 with st := st, pause := p }
    let b : State := dev.setReg (coreBase 0 + 0x20) 0x80000000
    (((s .stopping none).core 0).st = .stopping ∧ ((s .stopping none).core 0).trapPend = none) ∧ ((s .stopped none).core 0).cause ≠ .kill ∧
      ((s .stopped (some (.waitt 0 1))).core 0).pause.isSome = true ∧ ((s .halted none).core 0).st ≠ .stopped ∧
      (s .stopped none).regionState 0 = 0 ∧ (s .stopped none).frozen = false ∧
      bundleRuns (dev.setCore 0 { core0 with stepping := false }) 0 slotNop (decodeB 0) = true ∧ ((s .stopped none).setRf 0x50100 0 2 1).regionState 0 ≠ 0 ∧
      (match exec (.nop 0 0) (dev.setCore 0 { core0 with stepping := true }) with
       | .next t => decide ((t.core 0).st = .stopped ∧ (t.core 0).cause = .step)
       | _ => false) = true ∧
      (match exec (.step 0) (s .stopped none) with
       | .next t => decide ((t.core 0).st = .stopped ∧ (t.core 0).next = core0.next + 1)
       | _ => false) = true ∧
      mayIssue b 0 = true ∧ breakHit b 0 (settle (b.core 0)) = true := by decide +kernel

/-- A request of core 0 to an offset of an endpoint of this device, and its item in a place. -/
def pkt (op : BitVec 6) (ep off : Nat) : Pkt :=
  ⟨gfa 0 ep off, false, op, 0, 0, 0, 0, 0, 0, 1, false, 5, 0, 0, 0, 0, 0, 0, 0, 0, 0, []⟩
def itm (l : Loc) (wr : Bool) (p : Pkt) : Item :=
  ⟨1, 1, l, p, wr, 0, none, none, none, 0, false, decide (0x18 ≤ p.op ∧ p.op ≤ 0x1A), false, none, 0, false, some false, 0, 0, 0, none, none⟩
/-- The item waiting at its place, not checked yet. -/
def held (i : Item) : Item := { i with held := true, chk := none }
/-- The device with one item, with crucible 0 initialised and core 0 halted. -/
def holds (i : Item) : State := (({ dev with pool := [i] }.setReg 0x14 0x100).setReg (crucBase 0 + 4) 0x1000).setCore 0 { core0 with st := .halted, fe := [(0, some ⟨3, .x 4⟩)] }
/-- The first byte of core 0's store, as an offset of its stack. -/
def store0 : Nat := 2 ^ 32

/-- CORE_FENCE; BANK_YIELD with an access refused for 256 cycles, and with none; BILLET_LOAD_RETURN with a served load. -/
theorem witness_waits :
    let x : BilletOp := ⟨false, .x 3, 0, 8, 7, true, 1, 0, 0, true, none⟩
    let y : BilletOp := ⟨true, .none, 0, 8, 7, false, 0, 0, 0, true, none⟩
    let s : State := dev.setCore 0 { core0 with billet := [x] }
    let i := itm (.store 0) false (pkt 1 0 store0)
    let r : State := (holds i).setCore 0 { core0 with st := .halted, kept := [(0, 256)], cycles := 256 }
    let w : State := (holds i).setCore 0 { core0 with kept := [(0, 256)], cycles := 256, loopBuf := [(0, some 0x80410000)] }
    (s.core 0).st ≠ .fenced ∧ (s.core 0).billet = [] ++ x :: [] ∧ ([] : List BilletOp).all (fun y => y.store || y.served) = true ∧
      x.store = false ∧ x.served = true ∧ [y].all (fun y => y.store || y.served) = true ∧ s.quench = false ∧
      r.item 1 = some i ∧ engineBank r 0 i = some 0 ∧ 256 ≤ Tab.get 0 (r.core 0).kept 0 ∧ i.cyc + 256 ≤ (r.core 0).cycles ∧
      firstAtBank r 0 i = true ∧ needsBank r 0 0 = false ∧ firstAtBank w 0 i = true ∧ needsBank w 0 0 = true ∧ engineBank w 0 i = some 0 ∧
      Tab.get 0 ((holds i).core 0).kept 0 < 256 := by decide +kernel

/-- A finished descriptor, and one whose packet can start. -/
theorem witness_bulk :
    let p (st : Nat) : BulkPkt := ⟨0, 0x10000000040, 0, 1, st, 0, 0⟩
    let s (st : Nat) : State := dev.setCore 0 { core0 with bulk := [⟨2, false, none, [p st]⟩] }
    ((s 3).core 0).bulk = ⟨2, false, none, [p 3]⟩ :: [] ∧ ((s 3).core 0).pause = none ∧ (s 3).errTraps 0 (descStatus ⟨2, false, none, [p 3]⟩) = false ∧
      (s 0).frozen = false ∧ clusterCore 0 0 0 = 0 ∧ bulkNext ((s 0).core 0).bulk = some (0, 0) ∧ bulkOut ((s 0).core 0) < 256 ∧
      ((List.range 16).map (fun i => (Tab.get 0 (s 0).rr 100000 + 1 + i) % 16)).find? (fun i =>
        (bulkNext ((s 0).core (clusterCore 0 0 i)).bulk).isSome && decide (bulkOut ((s 0).core (clusterCore 0 0 i)) < 256)) = some 0 := by decide +kernel

/-! ### The fabric and the homes -/

/-- The device with its links trained, and with every comb of tile 0 dark. -/
def trained : State := { dev with linksUp := true, now := 100 }
def darkTile : State := (List.range 10).foldl (fun s p => s.setRf (combPos 0 p) 29 3 4) trained
/-- The packet that a router sends next by an output. -/
def sends (s : State) (c : Nat) (p : RPort) (i : Item) : Bool :=
  match nextInput s c p (pktVc i.pkt) with | some n => decide (headFor s c p n (pktVc i.pkt) = some i) | none => false
def roomBy (s : State) (c : Nat) (p : RPort) (i : Item) : Bool :=
  roomAt s (neighbour c p).1 (neighbour c p).2 (pktVc i.pkt) (pktFlits i.pkt)
/-- The device with core 0 fenced, and the device with 36 packets in an input of core 1's router. -/
def fenced0 (s : State) : State := s.setCore 0 { core0 with st := .fenced }
def east1 : Nat := 2 ^ 32 + 2 ^ 18
def fullEast (s : State) : State :=
  { s with pool := s.pool ++ (List.range 36).map (fun n => { itm (.mesh 1 3) false (pkt 1 0 (east1 + 8)) with id := 100 + n }) }

/-- A packet for the next router, with room there and without, one for the hearth, a request and a response for core 0; a
data request whose store still holds an answer; a block store at its engine, with its bank free and with it taken. -/
theorem witness_router :
    let far := itm (.mesh 0 3) false (pkt 1 0 east1)
    let down := itm .engine false (pkt 1 2 0x40)
    let req := itm (.mesh 0 3) false (pkt 1 0 store0)
    let resp := itm (.mesh 0 3) false (pkt 0x21 0 0)
    let w := itm (.mesh 0 3) true { pkt 3 0 store0 with cls := true, len := 1 }
    let full : State := { holds w with pool := [w, { itm (.store 0) false { pkt 0x21 0 0 with srcCore := 5 } with id := 9 }] }
    let b : Item := { itm .engine true { pkt 3 0 east1 with cls := true, len := 4 } with blk := some (0, 4) }
    let at' (i : Item) : State := (holds i).setCore 0 { core0 with st := .halted }
    let busy (i : Item) : State := (holds i).setCore 0 { core0 with loopBuf := [(0, some 0x80410000)] }
    sends (holds far) 0 .east far = true ∧ roomBy (holds far) 0 .east far = true ∧ sends (fullEast (holds far)) 0 .east far = true ∧
      roomBy (fullEast (holds far)) 0 .east far = false ∧ sends (holds down) 0 .down down = true ∧
      [req, resp].all (fun i => sends (holds i) 0 .loc i && sends (fenced0 (holds i)) 0 .loc i && (redKey i.pkt).isNone && !isMeshMc i.pkt) = true ∧
      isResp req.pkt = false ∧ isResp resp.pkt = true ∧ nextInput (holds far) 0 .south 0 = none ∧ (holds far).quench = false ∧
      [req, resp].all (fun i => outRoom (holds i) 0 .loc i && i.ctx.isNone) = true ∧ sends full 0 .loc w = true ∧ outRoom full 0 .loc w = false ∧
      sends (at' b) 0 .east b = true ∧ outRoom (at' b) 0 .east b = true ∧ 0 < linesNow (at' b) 0 b ∧ (at' b).item 1 = some b ∧
      sends (busy b) 0 .east b = true ∧ outRoom (busy b) 0 .east b = true ∧ linesNow (busy b) 0 b = 0 := by decide +kernel

/-- A row multicast at its source, to a member there and one to the east, to none, and the copy at a member. -/
theorem witness_router_multicasts :
    let at' (l : Loc) (n : BitVec 18) : Item := { itm l true { pkt 4 0 store0 with members := n } with ctx := if l = .engine then none else some 9 }
    let a := at' .engine 3
    let n := at' .engine 0
    let m := at' (.mesh 0 3) 1
    let d : Item := { itm (.mesh 0 2) true { pkt 0x20 0 0 with members := 2, comp := compWord 0 1 false } with ctx := some 9 }
    (holds a).item (holds a).nextId = none ∧ mcSource a = true ∧ sends (holds a) 0 .east a = true ∧ roomBy (holds a) 0 .east a = true ∧
      sends (holds a) 0 .loc a = true ∧ ((holds a).core 0).st ≠ .fenced ∧ mcSource n = true ∧ sends (holds n) 0 .loc n = true ∧ mcSource m = false ∧
      isMeshMc m.pkt = true ∧ sends (holds m) 0 .loc m = true ∧ redKey m.pkt = none ∧
      [a, n, m].all (fun i => i.blk.isNone && outRoom (holds i) 0 .loc i) = true ∧ outRoom (holds a) 0 .east a = true ∧
      isResp d.pkt = true ∧ d.ctx = some 9 ∧ mcSource d = false ∧ redKey d.pkt = none ∧ sends (holds d) 0 .loc d = true ∧ outRoom (holds d) 0 .loc d = true := by decide +kernel

/-- A reduction in a router with a mate parked, with none, with 16 others parked, with merging off, and of an armed tag. -/
theorem witness_router_reductions :
    let red (n : Nat) (l : Loc) (r : BitVec 16) : Item := { itm l true { pkt 0x10 0 east1 with redId := r } with id := n }
    let i := red 1 (.mesh 0 3) 7
    let others := (List.range 16).map (fun n => red (10 + n) (.parked 0) (BitVec.ofNat 16 (20 + n)))
    let s (q : List Item) : State := { holds i with pool := i :: q }
    let base := siteBase 0 + 0x8000
    let mate (q : List Item) := (s q).pool.find? (fun x => decide (x.loc = .parked 0) && decide (redKey x.pkt = redKey i.pkt))
    redKey i.pkt ≠ none ∧ i.blk = none ∧ [[], [red 2 (.parked 0) 7], others].all (fun q => sends (s q) 0 .east i && roomBy (s q) 0 .east i) = true ∧
      (s []).rf base 15 1 = 1 ∧ (s []).armed 5 = false ∧ mate [] = none ∧ mate [red 2 (.parked 0) 7] = some (red 2 (.parked 0) 7) ∧
      (s [red 2 (.parked 0) 7]).item 2 = some (red 2 (.parked 0) 7) ∧ mate others = none ∧
      ((s others).pool.filter (fun x => decide (x.loc = .parked 0))).length = 16 ∧ ((s []).setRf base 15 1 0).rf base 15 1 = 0 ∧
      sends ((s []).setRf base 15 1 0) 0 .east i = true ∧ ((s []).setReg 0x8F010 0x80000005).armed 5 = true := by decide +kernel

theorem witness_parked :
    let red (l : Loc) (ep off : Nat) : Item := itm l true { pkt 0x10 ep off with redId := 7 }
    let i := red (.parked 0) 0 east1
    let j := red (.parked 0) 0 store0
    let h := red (.hubParked 0 0) 2 0
    let late (i : Item) : State := { holds i with now := 1000 }
    let hold (s : State) (i : Item) : Bool := decide (regionCycles s (regionOf 0) i.since < s.rf (siteBase 0 + 0x8000) 0 6)
    let goes (i : Item) (p : RPort) : Bool := decide (headFor (late i) 0 p 6 (pktVc i.pkt) = some i) &&
      decide (nextInput (late i) 0 p (pktVc i.pkt) = some 6) && outRoom (late i) 0 p i
    (late i).item 1 = some i ∧ hold (late i) i = false ∧ hold (holds i) i = true ∧ outPort (late i) 0 i.pkt = .east ∧ goes i .east = true ∧
      headFor (fullEast (late i)) 0 .east 6 (pktVc i.pkt) = some i ∧ outRoom (fullEast (late i)) 0 .east i = false ∧
      outPort (late j) 0 j.pkt = .loc ∧ goes j .loc = true ∧ isFred j.pkt = true ∧ ((late j).core 0).st ≠ .fenced ∧
      (late h).item 1 = some h ∧ srcCoreIdx h.pkt = 0 ∧ hold (late h) h = false ∧ hold (holds h) h = true := by decide +kernel

theorem witness_multicast :
    let r := itm .engine true (pkt 4 0 store0)
    let s (n : Nat) : State := { dev with mcasts := [(9, some ⟨r, n, 3, false, []⟩)] }
    Tab.get none (s 0).mcasts 9 = some ⟨r, 0, 3, false, []⟩ ∧ Tab.get none (s 1).mcasts 9 = some ⟨r, 1, 3, false, []⟩ ∧ isMcs r.pkt = true ∧
      (s 0).item r.id = none ∧ (s 0).ownSrc r.pkt = true ∧ r.pkt.srcEp.toNat = r.via ∧ r.ctx = none ∧
      { r with ctx := some 4 }.ctx = some 4 ∧ r.pkt.srcEp.toNat = siteEp (srcCoreIdx r.pkt / 256) := by decide +kernel

/-- The turn of a bank: a load of one line and of two, a store, a fabric request with its credit, a drain and nothing. -/
theorem witness_banks :
    let b (st : Bool) (n : Nat) : BilletOp := ⟨st, .x 3, 0, n, 7, false, 0, 0, 4, true, none⟩
    let s (st : Bool) (n : Nat) : State := dev.setCore 0 { core0 with billet := [b st n] }
    let next (s : State) := bankNext (admitSlice 0 0 s) 0 0 0
    let turn (s : State) := (next s).map Prod.snd
    let q := { itm (.home 0) false (pkt 1 0 0) with cred := some (5, 3) }
    let l : SpecLine := ⟨0, 0, 3, 5, 1, [], 0⟩
    islandOnly dev 0 = false ∧ dev.devState = 0 ∧ next dev = none ∧ turn (s false 8) = some (.own 0 (b false 8)) ∧
      turn (s true 8) = some (.own 0 (b true 8)) ∧ turn (s false 128) = some (.own 0 (b false 128)) ∧ (linesFrom 0 8 0).length = 1 ∧
      (linesFrom 0 128 0).length = 2 ∧ turn (holds q) = some (.req q) ∧ (holds q).item 1 = some q ∧ (linesFrom 0 (reqBytes q.pkt) 0).length = 1 ∧
      next { dev with spec := [l], epochs := [(epochKey 0 3, .commit)] } = some (17, .drain) ∧ (b true 8).old = none := by decide +kernel

theorem witness_scrub :
    let s : State := { dev with now := 100000 }
    let w : State := { dev with scrubT := [(scrubKey 0 0, 1)] }
    let cfg (s : State) := s.rf (siteBase 0 + 0x9000) 16 1
    s.rf (siteBase 0 + 0x9000) 0 8 ≠ 0 ∧ Tab.get 0 s.scrubT (scrubTimer 0 3) + 250 * s.rf (siteBase 0 + 0x9000) 0 8 ≤ s.now ∧ BitVec.getLsbD 8#16 3 = true ∧ islandOnly s 0 = false ∧ s.devState = 0 ∧
      dev.now < Tab.get 0 dev.scrubT (scrubTimer 0 3) + 250 * dev.rf (siteBase 0 + 0x9000) 0 8 ∧ bankNext (admitSlice 0 0 w) 0 0 (bankOf (scrubLine w 0 0)) = some (17, .scrub) ∧
      (dev.core 0).st = .running ∧ cfg dev = 0 ∧ fld 0x10000 16 1 = 1 ∧ fld 0 16 1 = 0 ∧ cfg State.reset = 0 ∧ (State.reset.core 0).st = .idle ∧
      (State.reset.core 255).st = .idle ∧ State.reset.cores = [] ∧ Memory.wf State.reset.mem = true := by decide +kernel

/-- Requests that a home serves: to a core store, to a control register pair, to billet and to HBM memory. -/
def r0 : Item := itm (.store 0) false (pkt 1 0 store0)
def w0 : Item := itm (.store 0) true (pkt 2 0 store0)
def c0 : Item := itm (.home 0) false (pkt 1 0 (2 ^ 33))
def m2 (op : BitVec 6) : Item := itm (.ready 2) (decide (op ≠ 1)) (pkt op 2 0x80)
/-- A read of 512 bytes from a core store, and a write of them; an atomic and a reduction there. -/
def r8 : Item := itm (.store 0) false { pkt 1 0 store0 with var := 8 }
def w8 : Item := itm (.store 0) true { pkt 3 0 store0 with len := 8 }
theorem witness_served_store : ∀ i ∈ [r0, w0, r8, w8, { r8 with lines := 6 }, { w8 with lines := 6 }, itm (.store 0) true (pkt 8 0 store0), itm (.store 0) true (pkt 0x10 0 store0)],
    servedAt (holds i) 1 0 i := by unfold servedAt; decide +kernel
theorem witness_served_control : servedAt (holds c0) 1 0 c0 := by unfold servedAt; decide +kernel
theorem witness_served_memory : ∀ op ∈ [1, 2, 8, 0x10], servedAt (holds (m2 op)) 1 2 (m2 op) := by unfold servedAt; decide +kernel
/-- The forms the clauses tell apart, and a read merged into another, one of the two poisoned. -/
theorem witness_served_clauses :
    let two : State := { holds (m2 1) with pool := [m2 1, { m2 1 with id := 7, lead := some 1 }], poison := [memBase 2 + 0x80] }
    reqTgt r0.pkt = .store 0 0 ∧ reqBytes r0.pkt = 8 ∧ reqBytes r8.pkt = 512 ∧ reqBytes w8.pkt = 512 ∧ stepLines 2 w0 = 1 ∧ stepLines 2 w8 = 2 ∧
    stepLines 2 { w8 with lines := 6 } = 2 ∧ ctrlAddr c0.pkt = some (siteBase 0) ∧ (reqTgt (m2 2).pkt).isMem = true ∧
    epochOf (m2 2).pkt = 0 ∧ epochOf { (m2 2).pkt with p1 := 3 } ≠ 0 ∧ isFat (m2 8).pkt = true ∧ isFred (m2 0x10).pkt = true ∧
    reqEp (m2 8).pkt = 2 ∧ (holds (m2 1)).merged 1 = [] ∧ (holds (m2 1)).spec = [] ∧ (holds (m2 1)).poison = [] ∧ (m2 2).pkt.op.toNat = 2 ∧
    reqBytes (m2 2).pkt = 8 ∧ reqBytes (pkt 3 2 0x80) = 0 ∧ (two.merged 1).length = 1 ∧
    (readBytes two 2 (m2 1).pkt.p0 (memBase 2) (reqOff (m2 1).pkt) 8).2 = true := by decide +kernel

/-- EXTENT, JOB_KILLED, FENCED, NOT_POWERED and PERM at a home. -/
theorem witness_status :
    let i := itm (.store 0) true (pkt 2 0 store0)
    let st (s : State) (i : Item) : Nat := if s.item 1 = some i ∧ placeEp i.loc = some (reqEp i.pkt) ∧ toGuest i.pkt = false ∧ islandHolds s i = false ∧
      homeTurn s i = true ∧ underWay i = false ∧ i.held = false ∧ i.lead = none then itemStatus s i else 99
    let off := itm (.home 0) false (pkt 1 0 (2 ^ 34))
    let p := { i with chk := some true }
    st (holds off) off = 5 ∧ st ((holds i).setReg 0x8F010 0x80000005) i = 9 ∧ st (fenced0 (holds i)) i = 2 ∧ st (holds p) p = 6 ∧
      st ((holds i).setRf 0x50100 0 2 3) i = 3 ∧ ((holds i).core 0).st ≠ .fenced := by decide +kernel

/-- The answer to a request in its own site, in another, one held by no requester, and that of a multicast's member far off and here. -/
theorem witness_answers :
    let i := itm (.store 0) false (pkt 1 0 store0)
    let far := { itm (.home 2) true (pkt 4 2 0x40) with ctx := some 9 }
    let s : State := { holds far with mcasts := [(9, some ⟨far, 2, 0, false, []⟩)] }
    let out := itm (.home 2) false { pkt 1 2 0x40 with srcFab := 9 }
    (holds i).item i.id = some i ∧ (backLoc (holds i) 0 i.pkt).isSome = true ∧ (backLoc (holds far) 2 far.pkt).isSome = true ∧
      s.ownSrc far.pkt = true ∧ far.pkt.srcEp.toNat ≠ 2 ∧ far.pkt.members = 0 ∧ Tab.get none s.mcasts 9 = some ⟨far, 2, 0, false, []⟩ ∧
      backLoc (holds out) 2 out.pkt = none := by decide +kernel

theorem witness_served_ownership : ∀ op ∈ [0x18, 0x19, 0x1A], let x := itm (.home 2) true { pkt op 2 0 with p0 := 6, p1 := 4 }
    servedAt (holds x) 1 2 x := by simp only [servedAt]; decide +kernel
theorem witness_ownership :
    let x := itm (.home 2) true (pkt 0x18 2 0)
    let o (c : BitVec 8) : OwnEnt := ⟨0, 0, 0, 0, c, 5⟩
    ownEntry (holds x) 2 0 = none ∧
      ownEntry { holds x with own := [(2, [o 0])] } 2 0 = some (o 0) ∧ ownMatch (o 0) x.pkt = true ∧ ownMatch (o 1) x.pkt = false ∧
      hasHome 2 = true ∧ 16 ≤ fld 16 0 5 ∧ fld 30 0 5 ≤ 30 ∧ fld 15 0 5 < 16 ∧ 30 < fld 31 0 5 ∧
      ((Tab.get [] { dev with own := [(2, List.replicate 4096 (o 1))] }.own 2).length = 4096) := by decide +kernel

/-- ECOMMIT waiting and in service; a line of a discarded and of a committed epoch of a billet and of a crucible. -/
theorem witness_epochs :
    let i := itm (.home 2) true { pkt 0x1A 2 0 with p0 := 6, p1 := 4 }
    let j := { itm (.ready 2) true { pkt 0x1A 2 0 with p0 := 6, p1 := 4 } with id := 4 }
    let l (e : EpId) : SpecLine := ⟨e, 1, 3, 5, 1, [], 0⟩
    let s (e : EpId) (st : EpochSt) : State := { dev with spec := [l e], epochs := [(epochKey e.val 3, st)] }
    let b : State := { holds i with pool := [i, j] }
    commitInService (holds i) 2 = none ∧ commitInService (holds j) 2 = some j ∧ j.since + 2 ≤ { holds j with now := 2 }.now ∧
      (commitInService b 2).isSome = true ∧ b.item 1 = some i ∧ itemStatus b i = 0 ∧
      specAt (s 2 .commit) 2 1 3 = some (l 2) ∧ (s 2 .discard).epochSt 2 3 = .discard ∧ (s 2 .commit).epochSt 2 3 = .commit ∧
      mayDrain (s 2 .commit) (l 2) = true ∧ mayDrain (s 0 .commit) (l 0) = true ∧ isStack 0 = true ∧ isStack 2 = false ∧ pcqLen (s 2 .commit) 0 (pcOf 64) < 32 ∧
      bankNext (s 0 .commit) 0 (sliceOf (s 0 .commit) 0 64) (bankOf 64) = some (17, .drain) ∧ specOf dev 2 3 = 0 ∧ dev.epochSt 2 3 = .free := by decide +kernel

/-- Completions: entry in use, gone, of a block load, source out of service, a bulk packet's read and write; ERR_TRAP set and clear. -/
theorem witness_completions :
    let i := itm .resp false (pkt 0x21 0 0)
    let s := holds i
    let t : State := dev.setReg (siteBase 0 + 0x100) 0x00400005
    let p (st : Nat) : BulkPkt := ⟨0, 0x10000000040, 0, 1, st, 0, 0⟩
    let b (st : Nat) : State := (holds i).setCore 0 { core0 with bulk := [⟨2, false, none, [p st]⟩] }
    let g : State := (holds i).setCore 0 { core0 with fe := [(0, some ⟨3, .block 0 8⟩)] }
    s.item 1 = some i ∧ Tab.get none (s.core 0).fe 0 = some ⟨3, .x 4⟩ ∧ srcCoreIdx i.pkt = 0 ∧ i.dead = false ∧ { i with dead := true }.dead = true ∧
      Tab.get none (dev.core 0).fe 0 = none ∧ Tab.get none (g.core 0).fe 0 = some ⟨3, .block 0 8⟩ ∧ i.lines + 2 < 8 ∧ { i with lines := 6 }.lines + min 2 (8 - 6) = 8 ∧
      linesNow (g.setCore 0 { core0 with st := .halted, fe := (g.core 0).fe }) 0 i = 2 ∧ linesNow g 0 { i with lines := 6 } ≤ 2 ∧ linesNow (g.setCore 0 { core0 with fe := (g.core 0).fe, loopBuf := [(0, some 0x80410000)] }) 0 i = 0 ∧
      ((b 2).core 0).bulk = ⟨2, false, none, [p 2]⟩ :: [] ∧ ((b 1).core 0).bulk = ⟨2, false, none, [p 1]⟩ :: [] ∧ (p 1).tag = i.pkt.tag ∧
      compStatus i.pkt = 0 ∧ compStatus { i.pkt with comp := compWord 4 1 false } ≠ 0 ∧
      dev.errTraps 0 6 = false ∧ ((List.range 16).any (fun st => (List.range 10).any (fun b => (dev.setReg (siteBase 0 + 0x100) (BitVec.ofNat 32 (2 ^ (22 + b)))).errTraps 0 st))) = true ∧
      t.quench = false := by decide +kernel

/-- Held requests: in an engine, at a gateway, at a home and a store, free to go and not. -/
theorem witness_held :
    let i := held (itm .engine true (pkt 2 2 0x40))
    let n := held (itm .engine true { pkt 2 2 0x40 with ord := 2 })
    let e : Item := { itm .engine true (pkt 2 7 0x40) with id := 0, no := 0 }
    let j (l : Loc) := held (itm l true { pkt 2 0 store0 with flag := true })
    let f (l : Loc) : Item := { itm l true (pkt 2 0 store0) with id := 0, no := 0 }
    let two (l : Loc) : State := { holds (j l) with pool := [f l, j l] }
    let fr : Frame := ⟨9, 0, 0, false, 0, { pkt 2 0 store0 with srcFab := 9 }⟩
    let y : Item := { itm (.gwIn 0) true fr.pkt with frame := some fr }
    let a : Item := { itm (.ready 2) true { pkt 2 2 0x40 with srcFab := 9, ord := 0 } with id := 0, no := 0 }
    let zp : Pkt := { pkt 1 2 0x40 with srcFab := 9, ord := 0, seq := 1 }
    let z : Item := { itm (.gwIn 0) false zp with frame := some ⟨9, 0, 0, false, 0, zp⟩, no := 5 }
    let both : State := { holds z with pool := [a, z], got := [(gotKey zp, [1])] }
    mustHold (holds i) i = false ∧ mustHold { holds n with pool := [e, n] } n = true ∧
      (holds i).item 1 = some i ∧
      [Loc.store 0, .home 0].all (fun l => !mustWait (holds (j l)) (j l) && (mustWake (holds (j l)) (j l).pkt).isNone && mustWait (two l) (j l) &&
        decide ((two l).item 1 = some (j l))) = true ∧
      mustWake ((holds (j (.store 0))).setRf 0x50100 0 2 1) (j (.store 0)).pkt = some 0 ∧ seqMissing dev (j (.gwIn 0)).pkt = false ∧
      toRelay (holds y) 0 y = false ∧ framesOf (holds y) 0 9 false = y :: [] ∧ (holds y).armed 5 = false ∧ (holds y).funcState 13 = 0 ∧
      y.pkt.flag = false ∧ gwHolds both z = true ∧ framesOf both 0 9 false = z :: [] ∧ seqMissing both z.pkt = false ∧ both.item z.id = some z := by decide +kernel

theorem witness_credits :
    let i := itm (.home 2) false (pkt 1 2 0x40)
    let o := itm (.home 2) true (pkt 0x18 2 0x40)
    Tab.get 0 { dev with credOwed := [(credKey 0 2 7, 1)] }.credOwed (credKey 0 2 7) ≠ 0 ∧ nextTaken (holds i) 2 = some i ∧ wantsMem (holds i) 2 i = true ∧
      nextTaken (holds o) 2 = some o ∧ wantsMem (holds o) 2 o = false ∧ nextTaken dev 2 = none ∧ (holds i).item 1 = some i := by decide +kernel

/-! ### The hearth and the gateways -/

/-- A hub's packet in turn; an agent of the tongs; a packet of a gateway; what a source port finds. -/
theorem witness_hearth_port :
    let p (ep : Nat) : Item := itm (.hub 0 0) false (pkt 1 ep 0x40)
    let two : State := { holds (p 2) with pool := [p 2, { p 2 with id := 2 }] }
    let a (src : BitVec 5) (ep : Nat) : Item := itm .engine false { pkt 1 ep 0x40 with eng := 2, srcEp := src }
    let g : Item := itm (.gwIn 1) false { pkt 1 2 0x40 with srcFab := 9 }
    let f : Item := itm .engine true { pkt 2 2 0x40 with flag := true }
    let st (s : State) (p : Pkt) := portStatus s p
    let y : Item := { g with frame := some ⟨9, 0, 0, false, 0, g.pkt⟩ }
    hubNext (holds (p 2)) 0 0 = some (p 2) ∧ pktVc (p 2).pkt = 0 ∧ pktVc { pkt 3 2 0 with cls := true, len := 8 } ≠ 0 ∧
      hubNext two 0 0 = some (p 2) ∧ portRoom (holds (a 4 2)) 4 (a 4 2).pkt = true ∧ ownStack (holds (a 4 4)) 4 (a 4 4).pkt = true ∧
      portRoom (holds (a 4 4)) 4 (a 4 4).pkt = true ∧ ownStack (holds (a 4 2)) 4 (a 4 2).pkt = false ∧ onDie 4 = true ∧ onDie 9 = false ∧
      ownStack (holds (a 9 2)) 9 (a 9 2).pkt = false ∧ portRoom (holds (a 9 2)) 9 (a 9 2).pkt = true ∧ portRoom (holds g) (gwEp 1) g.pkt = true ∧
      (dev.setReg 0x14 0).fabValid = false ∧ dev.ownDst { pkt 1 2 0 with dst := gfa 3 2 0 } = false ∧ routeValid dev 3 = false ∧
      st (dev.setReg 0x80004 4) (pkt 1 2 0x40) = 2 ∧ st dev (pkt 1 20 0) = 5 ∧ st (dev.setReg 0x8F010 0x80000005) (pkt 1 2 0) = 9 ∧
      st dev { pkt 1 2 0 with dst := gfa 3 2 0 } = 4 ∧ st dev (pkt 1 2 0) = 0 ∧ st (dev.setReg 0x14 0) (a 4 4).pkt = 4 ∧ (dev.setRf 0x10808 26 2 1).funcState 13 = 1 ∧ g.frame = none ∧ g.lead = none ∧
      toRelay (holds y) 1 y = true ∧ toRelay (holds { y with loc := .gwIn 2 }) 1 { y with loc := .gwIn 2 } = false ∧ portDest dev (pkt 1 2 0) = 2 ∧ onLoop f.pkt = true ∧ onLoop (p 2).pkt = false := by decide +kernel

/-- A bundle that may ask, a train it has, a request in turn and one that is not, a management requester's, a grant over and one not. -/
theorem witness_grants :
    let i := itm (.port 0) false (pkt 1 2 0x40)
    let s := holds i
    let g := (nextBundle s 0 2 false).getD 0
    let r := rxOf g 2
    let q : GrantReq := ⟨g, 2, 0, false⟩
    let t : State := { s with greqs := [q], now := 1000 }
    let m := itm (.port 4) false { pkt 1 2 0x40 with eng := 2, srcEp := 4, srcCore := 4 }
    let gm := (nextBundle (holds m) 4 2 false).getD 0
    let hold (x : Grant) (s : State) : State := { s with grants := [(128 * 2 + rxOf x.g 2, some x)] }
    nextBundle s 0 2 false = some g ∧ g < 912 ∧ ownerOf g = 0 ∧ s.epFenced 2 = false ∧ s.grantAt 2 r = none ∧ needsBundle s 0 2 false = true ∧
      needsBundle dev 0 2 false = false ∧ needsBundle dev 0 2 true = false ∧ lostBy dev g 2 true = [] ∧ lostBy dev g 2 false = [] ∧ lostBy s g 2 false = [] ∧ heldBy s g < 64 ∧ bundleQuiet s g 2 i.pkt = false ∧
      (sendable s g 2 false).head? = some i ∧ ((hold ⟨g, 1, 0, false, 16, false⟩ s).grantAt 2 r).map Grant.g = some g ∧ changeDue t 2 r = true ∧
      nextHolder t 2 r = some q ∧ nextHolder { t with pool := [] } 2 r ≠ some q ∧ (dev.setReg 0x80004 4).epFenced 2 = true ∧
      ownerOf gm = 4 ∧ isMgmt m = true ∧ grantable { holds m with greqs := [⟨gm, 2, 0, false⟩] } ⟨gm, 2, 0, false⟩ = true ∧
      (sendable (holds m) gm 2 false).any isMgmt = true ∧ (sendable s g 2 false).any isMgmt = false ∧ hasTraffic s g 2 false = true ∧ hasTraffic dev g 2 false = false ∧
      bundleDark s g = false ∧
      s.rf (0x81000 + 0x40 * 2) 0 6 + 1 = 16 ∧ changeDue (hold ⟨g, 1, 0, false, 16, false⟩ t) 2 r = true ∧
      (hold ⟨g, 1, 0, false, 16, false⟩ t).grantAt 2 r = some ⟨g, 1, 0, false, 16, false⟩ ∧ t.grantAt 2 r = none ∧
      t.greqs.find? (fun q => decide (q.g = g ∧ q.dst = 2)) = some q ∧ heldBy s g < 64 ∧
      (lostBy { s with pool := [{ i with loc := .flight g 2, held := true }] } g 2 false).length = 1 ∧
      bundleFree { s with pool := [{ i with loc := .flight g 2, held := true }] } g = true := by decide +kernel

/-- The L0 queue: a packet, a multicast, a frame; and the same at a receiving port, with what is held there for resend. -/
theorem witness_hearth_arrivals :
    let f (ep : Nat) : Item := itm (.l0 0) true { pkt 2 ep 0x40 with flag := true }
    let mc := itm (.l0 0) true { pkt 4 0 0x40 with flag := true, mcKind := 2, members := 6 }
    let fr : Frame := ⟨9, 0, 0, true, 0, { pkt 2 0 store0 with srcFab := 9 }⟩
    let y := { itm (.l0 0) true fr.pkt with frame := some fr }
    let r := itm (.flight 3 0) false (pkt 0x20 0 0)
    mc.frame = none ∧ y.frame = some fr ∧ r.ctx = none ∧ r.held = false ∧ loopsOk (holds (f 2)) ≠ 0 ∧ loopsDark (holds (f 2)) 0 = false ∧ loopsDark darkTile 0 = true ∧ [f 2, mc, y].all (fun i => decide ((holds i).pool.find? (fun i => decide (i.loc = .l0 0)) = some i)) = true ∧
      isHearthMc (f 2).pkt = false ∧ isHearthMc mc.pkt = true ∧ hearthMembers mc.pkt = [1, 2] ∧ onDie 1 = true ∧ 1 < { holds mc with nextId := 2 }.nextId ∧
      (holds (f 2)).ownDst (f 2).pkt = true ∧ (holds r).item 1 = some r ∧ isResp r.pkt = true ∧ (holds r).ownSrc r.pkt = true ∧
      (holds r).ownSrc { r.pkt with srcFab := 9 } = false ∧ (holds r).ownDst { pkt 1 2 0 with dst := gfa 3 2 0 } = false ∧ isResp (pkt 1 2 0) = false := by decide +kernel

theorem witness_hearth_failures :
    let k := ((List.range 8).find? (fun k => crosses k 0)).getD 9
    dev.devState ≠ 2 ∧ dev.rf 0x80000 0 2 = 3 ∧ (dev.setReg 0x80000 2).rf 0x80000 0 2 = 2 ∧ (dev.setReg 0x80000 0).rf 0x80000 0 1 = 0 ∧ k < 8 ∧
      (List.range 8).any (fun k => !crosses k 0) = true ∧ guideOf dev k (guideLane dev k 0) = some (guideLane dev k 0) ∧
      guideOf { dev with guides := [(k, [(guideLane dev k 0, none)])] } k (guideLane dev k 0) = none := by decide +kernel

theorem witness_job_kill :
    let s := dev.setReg 0x8F010 0x80000007
    let x := itm (.home 2) false (pkt 1 2 0x40)
    dev.recovery = false ∧ { dev with recovery := true }.recovery = true ∧ dev.pool.any (killWaits 5 dev) = false ∧ (holds x).pool.any (killWaits 5 (holds x)) = true ∧
      killable 5 (holds x) x = true ∧ armedAt dev 5 = none ∧ armFree dev = some 0 ∧ armedAt s 7 = some 0 ∧ armFree s = some 1 ∧
      armFree ((List.range 8).foldl (fun s k => s.setReg (0x8F010 + 4 * k) (BitVec.ofNat 32 (2 ^ 31 + 100 + k))) dev) = none ∧
      (dev.core 0).jobTag = 5 := by decide +kernel

/-- A write of GW_PORT_CFG, and a port that trains, is UP, mismatches, has FAILED, loses a data slot or its control slot. -/
theorem witness_ports :
    let cfg := dev.setReg (portBase 0 0) 0x80000000
    let st (n : Nat) : State := setPortState 0 0 .full n cfg
    let up : State := setWorking 0 0 .full (2 ^ 31 - 1) (st 3)
    let few : State := setWorking 0 0 .full (2 ^ 30 + 15) { st 3 with portT := [(badKey 0 0, 2 ^ 31)] }
    let mir (r : Bool) : State := { setPortState 3 8 .full 2 ((dev.setRf 0x500004 31 1 1).setReg (portBase 3 8) 0x80000000) with pins := { dev.pins with pairEn := true, role := r } }
    portEnabled dev 0 0 = false ∧ portEnabled cfg 0 0 = true ∧ portSplit cfg 0 0 = false ∧ mayTrain cfg 0 0 = true ∧ halfFits cfg 0 0 .full = true ∧ halfFits cfg 0 0 .a = false ∧
      portState (st 2) 0 0 .full = 2 ∧ portState up 0 0 .full = 3 ∧ portState (st 4) 0 0 .full = 4 ∧ portState (st 5) 0 0 .full = 5 ∧
      25000000 ≤ { st 5 with now := 25000000 }.now ∧ (st 2).now ≤ Tab.get 0 (st 2).portT (portKey 0 0 .full) + 325000 ∧
      roleDark (st 2) 0 6 = false ∧ (trainedSlots .full 0xFFFFFFFF).isSome = true ∧ trainedSlots .full 1 = none ∧ mirrorPort (st 2) 0 0 = false ∧
      peerFits .full ⟨9, 0, 0, false⟩ = true ∧ peerFits .full ⟨9, 0, 1, false⟩ = false ∧
      peerOk (st 2) 0 0 .full 0 = true ∧ peerOk ((st 2).setReg (portBase 0 0) 0xA0000000) 0 0 .full 9 = false ∧
      mirrorPort (mir true) 3 8 = true ∧ mayTrain (mir true) 3 8 = true ∧ portState (mir true) 3 8 .full = 2 ∧ roleDark (mir true) 3 7 = false ∧
      Nat.testBit (working up 0 0).toNat 5 = true ∧ slotHalf up 0 0 5 = .full ∧ Nat.testBit (working up 0 0).toNat 31 = false ∧
      Tab.get 0 up.portT (badKey 0 0) = 0 ∧ Tab.get 0 few.portT (badKey 0 0) = 2 ^ 31 ∧ Nat.testBit (working few 0 0).toNat 30 = true ∧ Nat.testBit (working few 0 0).toNat 2 = true ∧
      dataLanes .full 11 < minLanes .full ∧ Nat.testBit (working up 0 0).toNat 31 = false ∧ ¬dataLanes .full (2 ^ 31 - 1 - 32) < minLanes .full := by decide +kernel

/-- Frames for this device and for another, a route, and a port UP to it. -/
theorem witness_frames :
    let f (d : BitVec 6) (h : BitVec 2) : Frame := ⟨9, d, h, false, 0, { pkt 2 0 store0 with srcFab := 9 }⟩
    let s := (dev.setReg (0x94000 + 4 * 3) 0x80000000)
    let u := setPortState 0 0 .full 3 (s.setReg (portBase 0 0) 0x80000000)
    let far := u.setReg (0x94000 + 4 * 9) 0xA0000000
    takesFrames u 0 0 .full = true ∧ takesFrames dev 0 0 .full = false ∧
      u.funcState 13 = 0 ∧ u.fabValid = true ∧ (f 0 0).dst.toNat = u.fabNum ∧ (f 0 0).seq = (u.stream 9 false).rx ∧ isResp (f 0 0).pkt = false ∧
      routeValid u 9 = false ∧ routeValid far 9 = true ∧ routeGw far 9 ≠ 0 ∧ ({ f 0 0 with seq := 4 }).seq ≠ (u.stream 9 false).rx ∧ isResp (pkt 0x20 0 0) = true ∧
      u.armed (f 0 0).pkt.job.toNat = false ∧ combKey (f 0 0).pkt = none ∧ (f 3 0).dst.toNat ≠ u.fabNum ∧ routeValid dev 3 = false ∧
      routeValid u 3 = true ∧ routeGw u 3 = 0 ∧ (f 3 1).hop ≠ 3 ∧ (f 3 3).hop = 3 ∧ priUp u 3 = true ∧ priUp s 3 = false ∧ altUp s 3 = false ∧
      gatesOpen u = true ∧ inGap u 0 6 0 = false := by decide +kernel

theorem witness_streams :
    let x : Stream := { Stream.reset with unacked := [⟨0, pkt 1 0 0, 0⟩, ⟨1, pkt 1 0 0, 0⟩] }
    let s (n : Nat) (x : Stream) : State := { (dev.setStream 9 false x).setReg (0x94100 + 36) (BitVec.ofNat 32 (n * 2 ^ 29)) with now := 10 ^ 9 }
    let k (n : Nat) : Nat := ((List.range 8).find? (fun m => decide (peerState (s m x) 9 = n))).getD 9
    let q : Stream := { Stream.reset with queue := [pkt 1 0 0] }
    let i := itm (.gwOut 0) false { pkt 1 0 0 with dst := gfa 9 2 0 }
    (s 0 x).stream 9 false = x ∧ x.queue = [] ∧ k 1 < 8 ∧ k 2 < 8 ∧ k 3 < 8 ∧ streamQuiet (s (k 1) x) 9 = false ∧
      250 * max 1 (dev.rf 0x94200 0 8) ≤ 10 ^ 9 ∧ 0 + 1 < max 1 (dev.rf 0x94200 8 4) ∧ max 1 (dev.rf 0x94200 8 4) ≤ 15 + 1 ∧
      ((s (k 2) x).stream 9 false).lostAt + 250 * max 1 (dev.rf 0x94200 16 16) ≤ (s (k 2) x).now ∧ gatesOpen (s (k 1) q) = true ∧ ((s (k 1) q).stream 9 false).queue = [pkt 1 0 0] ∧
      retryRoom (s (k 1) q) 9 false (pkt 1 0 0) = true ∧ (s (k 2) x).pool.filter (waitsFor 9) = [] ∧
      { s (k 2) x with pool := [i] }.pool.filter (waitsFor 9) = [i] := by decide +kernel

theorem witness_routes :
    let i : Item := held (itm (.gwOut 0) true { pkt 0x10 0 0 with dst := gfa 3 2 0, redId := 4 })
    let j : Item := { i with held := false, tab := true }
    let s : State := { dev with pool := [j], now := 1000 }
    let u := setPortState 0 0 .full 3 ((s.setReg (0x94000 + 4 * 3) 0x80000000).setReg (portBase 0 0) 0x80000000)
    let l : Item := { j with id := 6 }
    let w (q : List Item) : State := { dev with pool := i :: q }
    peerState dev 9 = 0 ∧ dev.rf 0x8F004 0 4 = 0 ∧ (dev.setReg 0x8F004 1).rf 0x8F004 0 4 ≠ 0 ∧ routeValid dev 3 = false ∧ routeValid u 3 = true ∧
      (w []).pool.find? (fun i => i.held && decide (i.loc = Loc.gwOut 0)) = some i ∧ (w []).item 1 = some i ∧ gwMerge 0 i (w []) = none ∧ (gwMerge 0 i (w [l])).isSome = true ∧
      (gwParked (w [l]) 0).find? (fun x => decide (x.id ≠ i.id) && decide (combKey x.pkt = combKey i.pkt)) = some l ∧ combUsed (w []) (gwEp 0) < 256 ∧
      256 ≤ combUsed (w (List.replicate 256 { l with pkt := { l.pkt with redId := 5 } })) (gwEp 0) ∧
      gwMerge 0 i (w (List.replicate 256 { l with pkt := { l.pkt with redId := 5 } })) = none ∧
      u.item 1 = some j ∧ u.rf (gwBase 0 + 0xC00) 8 8 ≤ 4 * (u.now - j.since) ∧ priUp u (dFab j.pkt.dst) = true ∧ peerState u (dFab j.pkt.dst) ≤ 1 ∧
      4 * (0 - j.since) < u.rf (gwBase 0 + 0xC00) 8 8 := by decide +kernel

/-! ### Crucibles -/

/-- A bank of HBM with a request, a patrol read or a drain's write in its queue; a row in force; a refresh due. -/
theorem witness_rows :
    let l : SpecLine := ⟨2, 0, 3, 5, 1, [], 0⟩
    let i := itm (.pcq 0 0) false (pkt 1 2 0)
    let own (p : Pkt) : Item := itm (.pcq 0 0) (decide (p.op ≠ 1)) p
    let s (i : Item) : State := { holds i with spec := [l], epochs := [(epochKey 2 3, .commit)] }
    let n := (itemRow i).1
    let r : RowGrant := ⟨(itemRow i).2, 1, 0⟩
    let due : State := { dev with refFrom := [(0, 1)], now := 1000 }
    dev.devState = 0 ∧ (dev.setRf 0x50004 0 2 1).devState ≠ 0 ∧ n < 48 ∧ refreshDue (s i) 0 0 n = false ∧ Tab.get none (s i).rows (hbmBank 0 0 n) = none ∧
      rowChooser dev 0 0 n = none ∧ rowChooser (s i) 0 0 n = some i ∧ ownAccess i = false ∧ readsMem i.pkt = true ∧ poisonedByte (s i) (hbmAddr 0 0) = false ∧
      rowChooser (s (own (patrolPkt 0 0))) 0 0 n = some (own (patrolPkt 0 0)) ∧ ownAccess (own (patrolPkt 0 0)) = true ∧ (patrolPkt 0 0).op = 1 ∧
      rowChooser (s (own (drainPkt 0 l))) 0 0 n = some (own (drainPkt 0 l)) ∧ ownAccess (own (drainPkt 0 l)) = true ∧ (drainPkt 0 l).op ≠ 1 ∧
      specAt (s i) 2 0 3 = some l ∧ (s i).epochSt 2 3 = .commit ∧ nextHit (s i) 0 0 n r = some i ∧ nextHit dev 0 0 n r = none ∧
      refreshDue due 0 0 (refAt due 0 0).1 = true ∧ Tab.get 0 due.refFrom 0 ≠ 0 ∧ Tab.get 0 dev.refFrom 0 = 0 := by decide +kernel

theorem witness_crucibles :
    let s (t : Nat) : State := { holds (itm .resp false (pkt 1 0 0)) with lastTemp := [(0, t), (1, 2000001), (2, 2000001), (3, 2000001)], now := 3000000 }
    let w : State := { s 1 with lastTemp := [(16, 3000001)] }
    Tab.get 0 (s 1).lastTemp 16 = 0 ∧ (∀ j < 4, j ≠ 0 → Tab.get 0 (s 1).lastTemp j ≠ 0 ∧ (s 1).now < Tab.get 0 (s 1).lastTemp j - 1 + 2500000) ∧
      Tab.get 0 (s 1).lastTemp 0 ≠ 0 ∧ Tab.get 0 (s 1).lastTemp 0 - 1 + 2500000 ≤ (s 1).now ∧ w.now < Tab.get 0 w.lastTemp 16 - 1 + 250000 ∧
      (s 1).rf (crucBase 0) 8 8 ≠ 0 ∧ (s 1).rf (crucBase 0 + 4) 12 1 = 1 ∧ dev.rf (crucBase 0 + 4) 12 1 = 0 ∧ dev.funcState 9 = 0 ∧
      Tab.get 0 (s 1).scrubT 2000 + 250 * (s 1).rf (crucBase 0) 8 8 ≤ (s 1).now ∧ pcqLen (s 1) 0 0 = 0 ∧ BitVec.getLsbD 1#128 0 = true ∧
      (s 1).rf (crucBase 0 + 0x40) 0 1 = 0 ∧ ((s 1).setReg (crucBase 0 + 0x40) 1).rf (crucBase 0 + 0x40) 0 1 = 1 := by decide +kernel

/-! ### Links and optics -/

/-- Unit slots: the control unit's, a unit to be sent again, a Memory unit and an Events unit, one that has waited, and none. -/
theorem witness_unit_slots :
    let k := upWire 0 0
    let i := itm (.wire k) false (pkt 1 2 0x40)
    let s (w : Wire) : State := { trained with pool := [i], wires := [(k, w)] }
    let ready (w : Wire) := (chanOrder w).filter (unitOk (s w) k w)
    let w0 := Wire.reset
    ({ w0 with slot := 15 } : Wire).slot % 16 = 15 ∧ w0.slot % 16 ≠ 15 ∧ w0.resend = [] ∧ (s w0).wire k = w0 ∧ ready w0 = [2] ∧
      ready { w0 with used := [(2, 16)] } = [] ∧ ready { w0 with extra := [(0, 1)] } = [0, 2] ∧
      (ready { w0 with extra := [(0, 1)], waited := [(2, 64)] }).find? (fun c => decide (64 ≤ Tab.get 0 [(2, 64)] c)) = some 2 ∧
      wireHead (s w0) k 2 = some i := by decide +kernel

/-- A lane in use and a spare, a window that fails for the first and the eighth time, a lane that fails again, a dark bundle. -/
theorem witness_link_monitoring :
    let k := linkKey 0 0
    let g := linkKey 2 0
    let s (x : Link) (n : Nat) : State := { trained with links := [(k, x)], wires := [(k, { Wire.reset with again := n })] }
    let h := halfWidth 0 Link.reset
    linkExists 0 0 = true ∧ linkRuns trained k = true ∧ linkRuns dev k = false ∧ 0 + 1 < trained.rf 0x88000 0 8 ∧ laneUsed 0 Link.reset 0 = true ∧
      laneUsed 0 Link.reset 67 = false ∧ ((s Link.reset 7).wire k).again = 7 ∧ ((s Link.reset 6).wire k).again < 7 ∧ ((s h 7).link k).width = 1 ∧
      trained.rf 0x88000 0 8 ≤ (if (Tab.get (0, 0) [(0, (0, 254))] 0).1 = trained.now / 250000 then 254 else 0) + 255 ∧
      badLane Link.reset 0 = false ∧ darkLink trained g = false ∧ darkLink darkTile g = true ∧ Link.reset.swap = none ∧
      ({ Link.reset with swap := some 3 } : Link).swap ≠ none ∧ (5 : Nat) < trained.rf 0x88004 0 10 ∧ ¬(1000 : Nat) < trained.rf 0x88004 0 10 := by decide +kernel

theorem witness_optical_windows :
    let i := itm (.flight 3 2) false (pkt 1 2 0x40)
    (holds i).item 1 = some i ∧ i.held = false ∧ i.fails ≠ 7 ∧ { i with fails := 7 }.fails = 7 ∧ ((holds i).link (linkKey 2 3)).width = 0 := by decide +kernel

/-- The swaps of R312–R316: a spare free, none, a spare held for a time, degraded width with an idle lane, a spare, and nothing. -/
theorem witness_lane_sparing :
    let k := linkKey 0 0
    let s (x : Link) : State := { trained with links := [(k, x)] }
    let spares := [64, 65, 66, 67]
    let none' : Link := { Link.reset with failed := spares }
    let temp : Link := { none' with temp := some (5, 64) }
    let few : Link := { none' with failed := spares ++ (List.range 33).map (· + 20) }
    let w (pick fail : List Nat) : Link := { Link.reset with width := 1, picked := pick, failed := fail }
    let idle (x : Link) := (goodLogical 0 (withFail x 0)).filter (fun j => !x.picked.contains j)
    linkRuns (s Link.reset) k = true ∧ laneOn 0 Link.reset 0 = some 0 ∧ hasSpare 0 Link.reset 0 = true ∧ hasSpare 0 none' 0 = false ∧
      freeSpares 0 (withFail Link.reset 0) ≠ [] ∧ freeSpares 0 (withFail none' 0) = [] ∧ (halfWidth 0 (withFail none' 0)).width ≠ 2 ∧
      temp.temp ≠ none ∧ (halfWidth 0 (withFail temp 0)).width ≠ 2 ∧ (halfWidth 0 (withFail few 0)).width = 2 ∧ few.temp = none ∧
      (w [1] []).picked.contains 0 = false ∧ (w [0] []).picked.contains 0 = true ∧ idle (w [0] []) ≠ [] ∧
      idle (w (List.range 64) []) = [] ∧ freeSpares 0 (withFail (w (List.range 64) []) 0) ≠ [] ∧ freeSpares 0 (withFail (w (List.range 64) spares) 0) = [] ∧
      (List.range 64).find? (fun i => [7].contains (physIn Link.reset.map i)) = some 7 := by decide +kernel

theorem witness_link_tests :
    let s : State := { trained with links := [(linkKey 0 0, { Link.reset with width := 1 })], now := 10 * 15000000000 }
    let fails (n : Nat) := (List.range n).map (fun p => (⟨BitVec.ofNat 9 p, true, 0⟩ : LaneTest))
    let width (n : Nat) := (testLink 0 (failsIn s (linkKey 0 0) (fails n)) (s.link (linkKey 0 0))).width
    let r := 0x88020 + 4
    (s.link (linkKey 0 0)).width = 1 ∧ s.linksUp = true ∧ width 0 = 0 ∧ width 5 = 1 ∧ width 40 = 2 ∧ s.rf r 17 1 = 0 ∧ s.funcState 1 = 0 ∧ s.devState = 0 ∧
      10 ≤ (s.now - Tab.get 0 s.testFrom 1) / 15000000000 ∧ linksIdle s 1 = true ∧ linksIdle { s with carried := [(0, s.now + 1)] } 1 = false ∧
      s.rf 0x88000 24 8 ≠ 0 ∧ (s.setRf r 17 1 1).rf r 17 1 = 1 ∧ linksOf [(⟨0, 0⟩, ⟨0, true, 0⟩)] = [linkKey 0 0] ∧ linkFunc 0 0 = 1 := by decide +kernel

/-- Lanes of a bundle, of a loop and of a port: one in range, one at the end of its range, one out, one with its DAC's spares used. -/
theorem witness_lanes :
    let l : OLane := ⟨2, 0, 0⟩
    let q : OLane := ⟨5, 0, 3⟩
    let x : OptLane := { OptLane.reset with heater := 0x800, eyeW := 300, eyeH := 300 }
    let s (l : OLane) (x : OptLane) : State := { trained with optics := ⟨true, 1, [], [(laneKey l, some x)]⟩ }
    olaneOk 2 0 0 = true ∧ olaneOk 7 0 0 = true ∧ olaneOk 5 0 3 = true ∧ laneAt (s l x) (laneKey l) = x ∧ heaterOk (moveHeater (dacTop x) x.heater 7) = true ∧
      heaterOk (moveHeater (dacTop x) 0x080 8) = false ∧ x.alt = false ∧ x.segs < 4 ∧ x.sub = false ∧ x.lastRet = none ∧ x.out = false ∧
      laneGone (s l x) l = false ∧ laneDark (s l x) 2 0 = false ∧ (laneLink l).isSome = true ∧ lanePort q = some (0, 0) ∧ laneLink q = none ∧
      laneLink ⟨7, 0, 0⟩ = none ∧ lanePort ⟨7, 0, 0⟩ = none ∧ laneGone (s q { x with out := true }) q = false ∧ onSpare trained 0 0 3 = false ∧
      onSpare { trained with portT := [(spareKey 0 0, 4)] } 0 0 3 = true ∧
      laneGone { s l x with links := [(linkKey 2 0, { Link.reset with failed := [0] })] } l = true ∧
      calReason (some x.heater) ⟨0x800, 16, 240, 100, 100, 1000, 31, true⟩ = 0 ∧ calReason (some x.heater) ⟨0, 0, 0, 0, 0, 0, 0, true⟩ ≠ 0 ∧ x.fails < 2 := by decide +kernel

theorem witness_combs :
    let p := ((List.range 10).find? (fun p => decide (combState dev 0 p = 0))).getD 0
    let w (d : Bool) (g : Option Nat) : State := { dev with swaps := [(0, some ⟨0, 9, d, g⟩)], now := 20 }
    let none' : State := (List.range 10).foldl (fun s p => if combState s 0 p = 1 then s.setRf (combPos 0 p) 29 3 3 else s) dev
    let it := itm (.flight 0 2) false (pkt 1 2 0x40)
    let part : State := { dev with laserAt := [(0, 1)] }
    combState dev 0 p = 0 ∧ Tab.get 0 dev.laserAt p = 0 ∧ part.now < Tab.get 0 part.laserAt 0 - 1 + 2500000 ∧ sparePos dev 0 = [8, 9] ∧ sparePos none' 0 = [] ∧
      (8 : Nat) ≠ 9 ∧ combState dev 0 9 ≠ 0 ∧ dev.rf 0xA1004 16 2 = 0 ∧ (dev.setRf 0xA1004 16 2 1).rf 0xA1004 16 2 ≠ 0 ∧
      Tab.get none (w false none).swaps 0 = some ⟨0, 9, false, none⟩ ∧ Tab.get none (w true none).swaps 0 = some ⟨0, 9, true, none⟩ ∧
      Tab.get none (w false (some 4)).swaps 0 = some ⟨0, 9, false, some 4⟩ ∧ 4 + 16 ≤ (w false (some 4)).now ∧ Tab.get none dev.swaps 0 = none ∧
      rolePos dev 0 0 ≠ some 9 ∧ dev.swapWait = [] ∧ combRole dev 0 p < 6 ∧ dev.swaps = [] ∧ ownerOf 0 / 5 = 0 ∧ bundleRole 0 = combRole dev 0 0 ∧
      (holds it).pool = [it] := by decide +kernel

/-! ### Power and heat -/

/-- A region that asks for less, for more with room and with none; a burst that ends. -/
theorem witness_boosts :
    let ask (h : BitVec 4) : State := dev.setCore 0 { core0 with hint := h }
    let low : State := { dev with reqs := [(0, { Tab.get Req.reset dev.reqs 0 with endsAt := some 5 })], now := 5 }
    (∃ h ∈ List.range 16, askOf (ask (BitVec.ofNat 4 h)) 0 < dev.granted 0) ∧ (∃ h ∈ List.range 16, dev.granted 0 < askOf (ask (BitVec.ofNat 4 h)) 0) ∧
      dev.rf 0x20004 31 1 = 0 ∧ extra dev 0 5 ≤ dev.freeBoost ∧ (dev.setReg 0x20004 0x80000000).rf 0x20004 31 1 = 1 ∧
      (Tab.get Req.reset low.reqs 0).endsAt = some 5 ∧ (Tab.get Req.reset dev.reqs 0).endsAt = none := by decide +kernel

theorem witness_steps :
    let e : StepPend := ⟨false, 1, 5, 7⟩
    let s : State := { dev with steps := [e], tick := 7, now := 7 }
    stepDue s 7 = true ∧ s.steps.filter (fun e => decide (e.n = 7)) = [e] ∧ e.mask = BitVec.ofNat 32 (2 ^ 0) ∧ s.regionState 0 = 0 ∧
      stepDue s 8 = false ∧ (s.avs.any (fun e => decide (e.1 = 0))) = false ∧ { s with avs := [(0, 0, 0)] }.avs.find? (fun e => decide (e.1 = 0)) = some (0, 0, 0) := by decide +kernel

theorem witness_clocks :
    let s : State := { dev with now := 300000000 }
    dev.holdover = none ∧ dev.rf 0x40000 30 1 = 0 ∧ { s with holdover := some 0 }.holdover = some 0 ∧ 0 + 250000000 < s.now ∧ s.now ≤ 100000000 + 250000000 ∧
      dev.regionState 0 = 0 ∧ dev.devState = 0 ∧ ((dev.setReg 0x40004 1).rf 0x40004 0 1 = 1) ∧ (dev.setReg 0x40004 0).rf 0x40004 0 1 = 0 ∧
      { dev with ocSince := some 0, now := 25000 }.ocSince = some 0 ∧ dev.pins.vio = true ∧ regionMHz dev 0 * 10 < 100000 ∧
      ¬regionMHz dev 0 * 10 < 1 ∧ dev.droopy = [] := by decide +kernel

/-- Device states: a device that refuses, one that accepts, one in NAP. -/
theorem witness_device_states :
    let quiet : State := { State.reset with regs := [(0x14, 0x100)] }
    devRefusal quiet false = none ∧ devRefusal quiet true = none ∧ (devRefusal dev false).isSome = true ∧ quiet.entries = [] ∧ quiet.spsReqs = [] ∧
      (quiet.setRf 0x50004 0 2 1).devState = 1 ∧ (quiet.setRf 0x50004 0 2 2).devState = 2 ∧ quiet.links = [] ∧
      { quiet with entries := [(1, 4, 0)] }.entries = [(1, 4, 0)] := by decide +kernel

theorem witness_region_states :
    let quiet : State := { State.reset with regs := [(0x14, 0x100)] }
    let a := 0x50100
    let off := quiet.setRf a 0 2 1
    let auto : State := { quiet.setRf a 26 1 1 with now := 10 ^ 9 }
    quiet.rf a 4 2 ≠ 1 ∧ quiet.regionState 0 < 1 ∧ regionBusy quiet 0 = false ∧ regionBusy dev 0 = true ∧ off.regionState 0 ≠ 0 ∧
      (off.setRf a 4 2 1).rf a 4 2 ≠ 0 ∧ Tab.get 0 { off with waking := [(0, 5)] }.waking 0 ≠ 0 ∧ auto.rf a 26 1 = 1 ∧ auto.rf a 4 2 = 0 ∧
      Tab.get 0 auto.idleAt 0 + 250 * auto.rf a 16 10 ≤ auto.now := by decide +kernel

/-- A reading at 105 °C, a cap that falls and one that lifts, an estimate that stood too long. -/
theorem witness_heat :
    let x := dev.sensor 0
    let y : State := { dev with sensors := Tab.put Sensor.reset dev.sensors 0 { x with temp := 840, conv := x.conv + 1 } }
    let c : State := { (dev.setRf (capReg 0) 31 1 1).setRf (capReg 0) 0 4 3 with capAt := [(0, (2, 0))], now := 300000 }
    x.fail = false ∧ dev.rf 0x30000 0 1 = 0 ∧ dev.rf (capReg 0) 29 1 = 0 ∧ dev.rf (capReg 0) 31 1 = 0 ∧ dev.devState ≠ 2 ∧
      ((unitEff y 0).map (fun e => decide (840 ≤ e ∧ e < 920))) = some true ∧ c.rf (capReg 0) 31 1 = 1 ∧ Tab.get (0, 0) c.capAt 0 = (2, 0) ∧
      (List.range 16).any (fun n => decide ((c.setRf (capReg 0) 0 4 n).capOf 0 ≠ 0 ∧ (c.setRf (capReg 0) 0 4 n).capOf 0 ≤ topStep 0)) = true ∧
      Tab.get (0, 0) { c with capAt := [(0, (0, 1))] }.capAt 0 = (0, 1) ∧ Tab.get 0 { dev with estHigh := [(0, 1)], now := 2500000 }.estHigh 0 ≠ 0 := by decide +kernel

/-! ### Faults, resets and the start -/

/-- Events of each class and a repeat of the newest one. -/
theorem witness_events :
    let e : LogEnt := ⟨0x5022, 0, 0, 0, 1, 0, false⟩
    let s : State := { dev with log := [(0, some e)], logSeq := 1 }
    dev.events.length < 256 ∧ Tab.get none dev.log dev.newest = none ∧ Tab.get none s.log s.newest = some e ∧ s.now ≤ e.at' + 250000 ∧
      (0x5022 : BitVec 16).toNat / 2 ^ 14 = 1 ∧ (0x5022 : BitVec 16).toNat / 2 ^ 9 % 32 < 30 ∧ (0xC810 : BitVec 16).toNat / 2 ^ 14 = 3 ∧
      30 ≤ (0xFE00 : BitVec 16).toNat / 2 ^ 9 % 32 ∧ dev.rf 0x10004 0 1 = 0 ∧ (dev.setReg 0x10004 1).rf 0x10004 0 1 = 1 ∧
      (epsOfFunc 1).isEmpty = false ∧ dev.lostRun = 0 ∧ e.cleared = false := by decide +kernel

theorem witness_resets :
    let beat : State := { dev.setRf 0x300000 29 2 1 with now := 2500000 }
    rstBusy dev = false ∧ dev.pool = [] ∧ dev.devState = 0 ∧ rstBusy (dev.setRf 0x10804 31 1 1) = true ∧ dev.funcState 1 ≠ 1 ∧ dev.fuseSeq = none ∧ dev.f0Down = none ∧
      islandOnly dev 0 = false ∧ islandOnly (dev.setRf (siteBase 0 + 0x9004) 1 1 1) 0 = true ∧ dev.funcState 1 ≠ 1 ∧
      beatMissed beat = true ∧ beatMissed dev = false ∧ beat.misses.length < 3 ∧ (dev.link 0).width ≠ 2 ∧ dev.links = [] ∧ dev.rf (crucBase 0 + 4) 12 1 = 0 ∧ firmwareRuns dev = false ∧
      firmwareRuns (dev.setRf 0x300000 29 2 1) = true := by decide +kernel

/-- A start whose fuses fail, one whose image verifies, and the time-out. -/
theorem witness_start :
    let s : State := { State.reset with now := 500000000 }
    s.rf 0x300000 29 2 = 0 ∧ s.startAt + 500000000 ≤ s.now ∧ (dev.setRf 0x300000 29 2 1).rf 0x300000 29 2 ≠ 0 ∧ newestRec dev 3 = none := by decide +kernel

/-- An image without firmware: its header, a key of zeros, and padding for the rest. -/
def keyBytes : List Byte := List.replicate 64 0
def header : List Byte := [1, 0, 0, 0, 0, 0, 0, 0, 0, 0, 0, 0, 0, 0, 0, 0]
def image : List Byte := header ++ (keyBytes ++ List.replicate 29840 0)
/-- A device with that image in slot A, its key's hash fused. -/
def signed (r : List (Nat × Word)) : State := { State.reset with regs := r, flash := [⟨1, 0, 1, image, 0, true⟩], fuses := { State.reset.fuses with rootA := shake256 keyBytes } }
theorem test_image_verifies (r : List (Nat × Word)) : headerOk (signed r) 0 = true := by
  have h : image.length = 29920 := by
    rw [image, List.length_append, List.length_append, List.length_replicate]; rfl
  have k : (image.drop 16).take 64 = keyBytes := by
    rw [image, List.drop_left' (show header.length = 16 by rfl), List.take_left' (show keyBytes.length = 64 by rfl)]
  have t : image.take 16 = header := List.take_left' (by rfl)
  have c : slotRec (signed r) 0 = some ⟨1, 0, 1, image, 0, true⟩ := by simp [slotRec, signed]
  have m : imageHead image = some (0, 0, 0) := by unfold imageHead; rw [t, h]; decide +kernel
  simp only [headerOk, imageIn, c, Option.bind_some, Option.map_some, Option.getD_some, m, k, keyOk]
  simp [signed, fusedVersion, State.reset]
/-- It boots where its signature verifies, and no slot boots where none does. -/
theorem witness_images (x : StartEnv) :
    bootSlot (signed []) { x with sigA := true } = some (0, false) ∧ bootSlot (signed []) { x with sigA := false, sigB := false } = none ∧
      (signed []).rf 0x300000 29 2 = 0 ∧ newestRec (signed []) 3 = none ∧ { x with fuseOk := false }.fuseOk = false := by
  refine ⟨?_, ?_, by decide +kernel, ?_, rfl⟩
  · have a : selectedSlot (signed []) = 0 := by simp [selectedSlot, newestRec, signed]
    simp [bootSlot, imageVerifies, a, test_image_verifies []]
  · have a : selectedSlot (signed []) = 0 := by simp [selectedSlot, newestRec, signed]
    simp [bootSlot, imageVerifies, a]
  · simp [newestRec, signed]

/-! ### The host, the control space and the guests -/

/-- The device with its Spasen ports UP, started and at address 1. -/
def chained : State :=
  ((({ dev with locked := true }.setRf 0x300000 29 2 1).setRf 0x10 0 7 1).setRf 0x60000 0 2 2).setRf 0x60000 2 2 2
def hdr (op : BitVec 8) (addr : BitVec 7) (w1 : DWord) : SpsHdr := ⟨addr, op, 9, 8, w1, []⟩
theorem witness_host :
    let h := hdr 1 1 0x10010
    let m := hdr 3 1 (gfa 0 2 0x40)
    let q : State := { chained with events := [⟨0, 1, 0x5022, 0, 1, 0⟩] }
    spsPortUp chained false = true ∧ spsPortUp chained true = true ∧ started chained = true ∧ chainAddr chained = 1 ∧ h.addr.toNat = chainAddr chained ∧ h.addr ≠ 0x7E ∧
      lenOk h 0 = true ∧ lenOk { h with len := 6 } 0 = false ∧ gateAllows chained h = true ∧ csrOneBlock chained 0x10010 8 = true ∧
      csrOneBlock chained 0x3FFFFFC 8 = false ∧ (csrReads 2 0x10010 chained).2.spsReqs = [] ∧ (csrWrites [0, 0] 0x10010 chained).spsReqs = [] ∧ memOneBlock m = true ∧
      (memPlan m).length = 1 ∧ q.events = [⟨0, 1, 0x5022, 0, 1, 0⟩] ∧ (q.setRf 0x60008 16 9 1).rf 0x60008 16 9 ≠ 0 ∧
      roleDark dev 0 7 = false ∧ roleDark darkTile 0 7 = true ∧ started dev = false ∧ spsPortUp (chained.setRf 0x60000 2 2 1) true = false ∧ chainAddr dev = 0x7F := by decide +kernel

/-- SPS_CFG.SmbWrite is written over the Spasen link only (R412). -/
theorem test_smb_write_bit : (match exec (.registerWrite .spasen 0x60004 0xFF) chained with | .next t => t.reg 0x60004 | _ => 0) = 1 ∧
    (match exec (.registerWrite .fabric 0x60004 1) chained with | .next t => t.reg 0x60004 | _ => 9) = 0 := by decide +kernel

theorem witness_gate :
    let s : State := { chained with pins := { chained.pins with pairEn := true } }
    gateAllows s (hdr 3 1 (gfa 0 2 0)) = false ∧ gatesOpen s = false := by decide +kernel

theorem witness_registers :
    let s : State := { dev with latch := [(ifaceKey .spasen, some (coreBase 0 + 0x28, 3))], hold := [(ifaceKey .spasen, some (coreBase 0 + 0x28, 3))] }
    let nap := dev.setRf 0x50004 0 2 1
    Tab.get none s.latch (ifaceKey .spasen) = some (coreBase 0 + 0x28, 3) ∧ Tab.get none s.hold (ifaceKey .spasen) = some (coreBase 0 + 0x28, 3) ∧
      dbgOpen (dev.core 0) = false ∧ dbgOpen (State.reset.core 0) = true ∧ csOff nap (wordAddr (siteBase 0)) = true ∧ inBlock (wordAddr (siteBase 0)) = true ∧
      (dev.setReg 0x14 0).fabValid = false ∧ chained.rf 0x300000 29 2 = 1 ∧ dev.recovery = false ∧ dev.quench = false ∧
      Tab.get none dev.latch (ifaceKey .spasen) = none ∧ [Iface.spasen, .fabric, .tongs].all (fun i => mayWrite i chained) = true ∧ mayWrite .smbus chained = false ∧
      mayWrite .smbus (chained.setReg 0x60004 1) = true ∧ mayWrite .jtag (dev.setRf 0x300000 26 1 1) = true ∧ reaches .spasen dev = false ∧
      { chained with image := some ⟨1, 0, dev.optics⟩ }.image = some ⟨1, 0, dev.optics⟩ := by decide +kernel

/-- A guest that is there, a rule that passes its request and none, and a request for it. -/
theorem witness_guests :
    let s := dev.setRf 0x203000 0 4 1
    let p := pkt 1 2 0x40
    let i := itm (.home (guestEp 0)) false (pkt 1 (guestEp 0) 0)
    let r := itm (.ready (guestEp 0)) false (pkt 1 (guestEp 0) 0)
    let t := (List.range 32).foldl (fun s e => s.setReg (0x202000 + 4 * e) 0xFFFFFFFF) s
    guestOn s 0 = true ∧ guestOn dev 0 = false ∧ isResp p = false ∧ (List.range 64).find? (rulePasses s 0 (asGuest s 0 p)) = none ∧
      ((Tab.get [] (s.setReg 0x201000 9).viol 0).filter (fun t => decide (s.now < t + 250000))).length < (s.setReg 0x201000 9).rf 0x201000 0 16 ∧
      fwClass i.pkt = some 0 ∧ t.rf (0x202000 + 4 * inboundEp { t with pool := [i] } i) 0 1 = 1 ∧ s.rf (0x202000 + 4 * inboundEp s i) 0 1 = 0 ∧
      dev.armed 5 = false ∧ dev.funcState 14 = 0 ∧ { s with pool := [r] }.pool.find? (fun i => decide (i.loc = Loc.ready (guestEp 0)) && sameSrc i.pkt (pkt 0x22 0 0) &&
        decide (i.pkt.tag = (pkt 0x22 0 0).tag)) = some r := by decide +kernel

/-- Rule 0 covers 2^40 bytes of crucible 0 for the reads of guest 0. -/
theorem witness_guest_rule :
    let s := ((dev.setRf 0x203000 0 4 1).setReg64 0x200000 (gfa 0 2 0)).setReg 0x200008 (BitVec.ofNat 32 (2 ^ 31 + 2 ^ 28 + 15 * 2 ^ 24 + 40 * 2 ^ 18 + 7))
    (List.range 64).find? (rulePasses s 0 (asGuest s 0 (pkt 1 2 0x40))) = some 0 ∧ s.guestReq = [] := by decide +kernel

/-! ### The command ring, management and pairs -/

/-- A command at the head of the ring: a record, a slot switch, a report, a fuse command, an image. -/
theorem witness_ring :
    let s (code : Nat) : State := (((((dev.setRf 0x300000 29 2 1).setReg 0x60024 1).setReg (ringWord 0 0) (BitVec.ofNat 32 code)).setReg (ringWord 0 1) 1).setReg (ringWord 0 2) 64).setReg (ringWord 0 4) 64
    ringHead (s 1) = some 0 ∧ firmwareRuns (s 1) = true ∧ (s 1).rf (ringWord 0 0) 0 8 = 1 ∧ ringArg (s 1) 0 1 = 1 ∧ ringArg (s 1) 0 2 = 64 ∧ ringArg (s 1) 0 3 = 0 ∧
      ringArg (s 1) 0 4 = 64 ∧ recordBytes 64 ≤ areaBytes 1 ∧ tongsWithin (s 1) 0 85 = true ∧ (s 1).fOpen = none ∧ (s 5).rf (ringWord 0 0) 0 8 = 5 ∧
      tongsWithin { s 1 with sensors := [(320, { Sensor.reset with temp := 800, conv := 1 })] } 0 85 = false ∧ ringHead dev = none ∧
      fuseReason 2 1 (s 4) = 0 ∧ fuseReason 9 64 (s 4) ≠ 0 ∧ tongsWithin ((s 4)) 10 60 = true ∧ { s 4 with fuseSeq := some ⟨1, 64, 0⟩ }.fuseSeq = some ⟨1, 64, 0⟩ ∧
      headerOk (s 2) 0 = false := by decide +kernel

theorem witness_management :
    started (dev.setRf 0x300000 29 2 1) = true ∧ started dev = false ∧ dev.rf 0x60004 0 1 = 0 ∧ (dev.setReg 0x60004 1).rf 0x60004 0 1 = 1 ∧
      dev.pins.vio = true ∧ dev.pins.smbAlertN = true ∧ dev.pins.coldRstN = true ∧ { dev.pins with coldRstN := false }.coldRstN = false ∧ dev.rf 0x300000 26 1 = 0 ∧
      (dev.setRf 0x300000 26 1 1).rf 0x300000 26 1 = 1 := by decide +kernel

/-- Claims of a member of a pair, and a standby that is armed and in sync. -/
theorem witness_pairs :
    let s (i o : Bool) : State := { dev with pins := { dev.pins with pairEn := true, ownIn := i, ownOut := o }, now := 2500 }
    let armed := ((s true false).setReg 0x500000 1).setReg 0x500008 0x45
    let sync := armed.setRf 0x500004 28 1 1
    (s true false).pins.ownIn = true ∧ (s false false).rf 0x500004 27 1 = 0 ∧ (s false true).ownLow + 2500 ≤ (s false true).now ∧
      (s false true).rf 0x500004 31 1 = 0 ∧ sync.rf 0x500000 0 1 = 1 ∧ sync.rf 0x500004 28 1 = 1 ∧ sync.rf 0x500008 6 1 = 1 ∧ sync.rf 0x500004 25 1 = 0 ∧
      sync.rf 0x500004 27 1 = 0 := by decide +kernel

/-- A standby that takes records and an active that closes its epoch. -/
theorem witness_mirror :
    let b : State := { dev with pins := { dev.pins with pairEn := true, ownIn := true } }
    let a : State := { setPortState 3 8 .full 3 (((dev.setRf 0x500004 31 1 1).setRf 0x500004 26 1 1).setReg (portBase 3 8) 0x80000000) with pins := { dev.pins with pairEn := true, ownOut := true } }
    let r : MirrorRec := ⟨2, 0, [1, 2]⟩
    isStandby b = true ∧ isStandby a = false ∧ mirrorOn a = true ∧ linkUp a = true ∧ hasHome r.ep.val = true ∧ b.rxBytes + r.bytes.length ≤ 2 ^ 22 ∧
      2 ^ 22 < { b with rxBytes := 2 ^ 22 }.rxBytes + r.bytes.length ∧ b.rxSkip = false ∧ (b.setRf 0x500004 28 1 1).rf 0x500004 28 1 = 1 ∧
      { b with mirDown := some 0, now := 250001 }.mirDown = some 0 ∧ { a with closing := [2], mirrorTx := [r, r] }.closing ≠ [] ∧ dev.closing = [] ∧ dev.resync = false ∧ a.rf 0x500004 25 1 = 0 ∧ portState a 3 8 .full = 3 := by decide +kernel

/-! ### Further clauses -/

/-- A gateway whose comb switches, and a port whose control slot or whose last slot fails. -/
theorem witness_gap :
    let q : State := { dev with swaps := [(0, some ⟨portRole 0, 9, false, some 0⟩)], now := 5 }
    let s := q.setReg (0x94000 + 4 * 9) 0x80000000
    let k (n : Nat) (s : State) : State := s.setReg (0x94100 + 36) (BitVec.ofNat 32 (n * 2 ^ 29))
    let live := ((List.range 8).find? (fun m => decide (peerState (k m s) 9 = 1))).getD 9
    let f : Frame := ⟨3, 9, 0, false, 0, pkt 2 0 store0⟩
    let cross : Frame := ⟨3, 4, 0, false, 0, pkt 2 0 store0⟩
    let u := s.setReg (0x94000 + 4 * 4) 0xA0000000
    inGap s 0 (portRole 0) 0 = true ∧ inGap dev 0 (portRole 0) 0 = false ∧ routeGw s 9 = 0 ∧ streamQuiet s 9 = true ∧ streamQuiet dev 9 = false ∧
      live < 8 ∧ (s.setStream 9 false { s.stream 9 false with onAlt := !priUp s 9 }).rf (0x94000 + 36) 24 4 = 0 ∧ f.hop ≠ 3 ∧
      routeGw u 4 ≠ 0 ∧ routeValid u 4 = true ∧ cross.dst.toNat ≠ u.fabNum ∧ u.pool = [] ∧
      (dev.setRf 0x10808 26 2 2).funcState 13 = 2 ∧ dev.funcState 13 = 0 ∧
      (2 ^ 31 - 1 : Nat) &&& (2 ^ 32 - 1 - 2 ^ 30) &&& slotMask .full = 2 ^ 30 - 1 ∧ Nat.testBit (2 ^ 30 - 1) 31 = false ∧
      Nat.testBit ((2 ^ 32 - 1 : Nat) &&& (2 ^ 32 - 1 - 2 ^ 30) &&& slotMask .full) 31 = true ∧ minLanes .full ≤ dataLanes .full (2 ^ 32 - 1 - 2 ^ 30) := by decide +kernel

/-- A lane held for a time at degraded width, a retrained lane, a lane swapped for its ring's sake and one that cannot be. -/
theorem witness_swaps :
    let k := linkKey 0 0
    let short : Link := { Link.reset with width := 1, short := true, picked := List.range 32 }
    let s (x : Link) : State := { trained with links := [(k, x)] }
    let up : State := setWorking 0 0 .full (2 ^ 31 - 1) (setPortState 0 0 .full 3 (dev.setReg (portBase 0 0) 0x80000000))
    let g := linkKey 2 0
    let l : OLane := ⟨2, 0, 0⟩
    let c : Cal := ⟨0x800, 16, 240, 100, 100, 1000, 31, true⟩
    badLane short 0 = false ∧ linkRuns (s short) k = true ∧ darkLink (s short) k = false ∧ (laneOn 0 short 0).isSome = true ∧
      (withFail short 0).outs = [] ∧ (halfWidth 0 (withFail short 0)).width ≠ 2 ∧ Link.reset.short = false ∧
      (trained.link g).outs.contains 0 = false ∧ (trained.link g).width = 0 ∧ laneLink l = some g ∧
      { trained with links := [(g, { Link.reset with outs := [0] })] }.link g = { Link.reset with outs := [0] } ∧
      slotHalf up 0 0 3 = .full ∧ portState up 0 0 .full = 3 ∧ Nat.testBit (working up 0 0).toNat 3 = true ∧ Nat.testBit (working up 0 0).toNat 31 = false ∧
      slotBad up 0 0 31 = false ∧ slotBad { up with portT := [(badKey 0 0, 8)] } 0 0 3 = true ∧
      calReason (some 0x800) (judged l OptLane.reset c trained) = 0 ∧ laneDark trained 2 0 = false ∧
      combLit dev 0 0 = true ∧ combLit { dev with recovery := true } 0 0 = false ∧
      Tab.get 0 { dev with lowFrom := [(0, 2)] }.lowFrom 0 = 2 ∧ 2 - 2 + 25000000 ≤ { dev with now := 25000000 }.now := by decide +kernel

/-- Requesters with nothing else waiting, one that takes back what it asked, a rise given up and one still waiting. -/
theorem witness_requesters :
    let ask (h : BitVec 4) : State := dev.setCore 0 { core0 with hint := h }
    let rise (h : Nat) : Bool := let s := ask (BitVec.ofNat 4 h)
      decide (s.granted 0 < askOf s 0) && (List.range 36).all (fun p => decide (p = 0 ∨ askOf s p = s.granted p)) && decide (s.granted 0 ≥ s.floorStep 0)
    let back : State := { dev with reqs := [(0, { Req.reset with asked := some 9 })] }
    let late : State := { dev with avs := [(0, 0, 7), (9, 20, 8)], now := 25000 }
    (List.range 16).any rise = true ∧ askOf back 5 = back.granted 5 ∧ asked back 0 = 9 ∧ back.granted 0 ≠ asked back 0 ∧
      late.avs.any (fun e => decide (e.1 / 4 = 0 ∧ e.2.1 + 25000 ≤ late.now)) = true ∧
      late.avs.any (fun e => decide (e.1 / 4 = 2 ∧ e.2.1 + 25000 ≤ late.now)) = false ∧ late.avs.any (fun e => decide (e.1 / 4 = 5)) = false ∧
      Tab.get 0 { dev with missed := [(0, 4)] }.missed 0 = 3 + 1 ∧ Tab.get 0 dev.missed 0 = 0 ∧ crucDelay dev = none ∧
      crucDelay (holds (itm (.pcq 0 0) false (pkt 1 2 0))) = some 16 ∧ { dev with pins := { dev.pins with ocAlertN := false } }.pins.ocAlertN = false := by decide +kernel

/-- Host packets: a credit, too many requests, a full buffer; a link before and after its clock; blocks that answer. -/
theorem witness_control_space :
    let e := hdr 0x21 1 3
    let full : State := { dev with hostWait := [(false, ⟨0, 0x10, 0, 0, 0, 0, List.replicate 8188 0⟩)] }
    let p : SpsUp := ⟨0, 0x10, 0, 0, 0, 0, []⟩
    let d := coreBase 0 + 0x28
    lenOk { e with len := 0 } 0 = true ∧ e.op = 0x21 ∧ waitBytes full + 16 + 4 * p.data.length > 32768 ∧ waitBytes dev + 16 + 4 * p.data.length ≤ 32768 ∧
      spsPortUp dev false = false ∧ linkClocked chained = true ∧ linkClocked dev = false ∧ linkClocked { dev with now := 500000 } = true ∧
      reaches .spasen chained = true ∧ csOff chained d = false ∧ csOff chained (coreBase 0 + 0x14) = false ∧ blockAnswers chained 0x10010 = true ∧
      blockAnswers chained 0x18000 = true ∧ blockAnswers chained 0x9990000 = false ∧ blockAnswers { chained with recovery := true } 0x80000 = false ∧
      isLow64 0x500010 = true ∧ isHigh64 0x500014 = true ∧ isLow64 0x10010 = false ∧ isHigh64 0x10010 = false ∧ (regInfo 0x10010).isSome = true ∧
      ((chained.setRf 0x50004 0 2 2).devState = 2 ∧ chained.devState = 0) ∧ chained.image = none ∧
      Tab.get none { chained with hold := [(ifaceKey .spasen, some (coreBase 0 + 0x10, 7))] }.hold (ifaceKey .spasen) = some (coreBase 0 + 0x10, 7) ∧
      mayWrite .smbus { (chained.setReg 0x60004 1) with pins := { dev.pins with vio := false } } = false := by decide +kernel

/-- A guest past its limit and one out of service, a request with another merged into it, a killed job. -/
theorem witness_guest_limits :
    let s : State := { (dev.setRf 0x203000 0 4 1).setReg 0x201000 1 with viol := [(0, [0])], now := 5 }
    let r := itm (.ready (guestEp 0)) false (pkt 1 (guestEp 0) 0)
    let m : Item := { r with id := 2, lead := some 1 }
    s.rf 0x201000 0 16 ≤ ((Tab.get [] s.viol 0).filter (fun t => decide (s.now < t + 250000))).length ∧ Tab.get 0 s.violT 0 = 0 ∧
      { s with pool := [r, m] }.merged 1 = [m] ∧ { s with pool := [r] }.merged 1 = [] ∧ compStatus { pkt 0x22 0 0 with comp := compWord 4 1 false } ≠ 0 ∧
      isResp (pkt 0x22 0 0) = true ∧ (dev.setRf 0x10808 28 2 2).funcState 14 = 2 ∧ (dev.setReg 0x8F010 0x80000005).armed 5 = true := by decide +kernel

/-- A record that does not fit, an image's slot switch, a report under way, a start without room, and the recovered tongs. -/
theorem witness_flash :
    let s (code : Nat) : State := (((((dev.setRf 0x300000 29 2 1).setReg 0x60024 1).setReg (ringWord 0 0) (BitVec.ofNat 32 code)).setReg (ringWord 0 1) 1).setReg (ringWord 0 2) 64).setReg (ringWord 0 4) 64
    recFits 1 64 (s 1) = true ∧ recFits 3 2097152 (s 1) = false ∧ (s 1).recovery = false ∧ (s 3).rf 0x300000 21 1 = 0 ∧
      ((s 3).setRf 0x300000 21 1 1).rf 0x300000 21 1 = 1 ∧ { s 1 with fOpen := some ⟨1, 128, [1]⟩ }.fOpen ≠ none ∧ firmwareRuns (s 3) = true ∧
      rstBusy (s 1) = false ∧ (s 1).devState = 0 ∧ (s 1).f0Down = none ∧ { s 1 with rstFor := some (3, false) }.rstFor = some (3, false) ∧
      ({ dev with regs := [(siteBase 0 + 0x9000, 0x10000)] }).rf (siteBase 0 + 0x9000) 16 1 = 1 ∧ (s 9).rf (ringWord 0 0) 0 8 = 9 := by decide +kernel
/-- The image of `signed` verifies whatever the registers hold, also after a restart that abandons no record. -/
theorem witness_signed (r : List (Nat × Word)) : headerOk (abandonRec (signed r)) (signed r).slotBoot = true := test_image_verifies r

/-! ### The queue, reset and quench -/

theorem witness_queue : step { State.reset with pending := [.ocAlert, .bypass] } = exec .ocAlert { State.reset with pending := [.bypass] } := by rfl
theorem test_idle_tick : (match step State.reset with | .next t => t.now | _ => 0) = 1 := by decide +kernel
theorem witness_quench : quenched { State.reset with quench := true, frozen := true } := ⟨rfl, rfl⟩
theorem witness_memory : memOk State.reset := by rfl
theorem witness_bundle : (bundleOf (.addi 0 1 2 3 0)).map Prod.snd = some 0x0000000008220003 := by decide +kernel

end Sys2Proof.Tests
end

section
/-! PROOFS. Fields of registers, the job slots of a site (R60), and the starts of cores (R42, R59, R65, R66, R69). -/

namespace Sys2Proof.Machine

/-! ### Fields of a word and of a register -/

theorem ofNat_fld (w : Word) (lo n : Nat) : BitVec.ofNat n (fld w lo n) = w.extractLsb' lo n := by
  apply BitVec.eq_of_toNat_eq
  simp [fld, Nat.shiftRight_eq_div_pow]

theorem fld_eq_zero_iff (w : Word) (lo n : Nat) : fld w lo n = 0 ↔ w.extractLsb' lo n = 0#n := by
  rw [← ofNat_fld, ← BitVec.toNat_inj]
  simp [fld]

theorem fld_one_iff (w : Word) (i : Nat) : fld w i 1 = 1 ↔ w.getLsbD i = true := by
  simp [fld, BitVec.getLsbD, Nat.testBit_eq_decide_div_mod_eq]

theorem fld_withFld_same (w : Word) (lo n v : Nat) (h : lo + n ≤ 32) : fld (withFld w lo n v) lo n = v % 2 ^ n := by
  obtain ⟨m, hm⟩ := Nat.exists_eq_add_of_le h
  have hpow : 2 ^ 32 = 2 ^ lo * (2 ^ n * 2 ^ m) := by rw [hm, pow_add, pow_add, Nat.mul_assoc]
  have hle : fld w lo n * 2 ^ lo ≤ w.toNat :=
    (Nat.mul_le_mul_right _ (Nat.mod_le _ _)).trans (Nat.div_mul_le_self _ _)
  have hdiv : (w.toNat - fld w lo n * 2 ^ lo + v % 2 ^ n * 2 ^ lo) / 2 ^ lo =
      w.toNat / 2 ^ lo - fld w lo n + v % 2 ^ n := by
    rw [Nat.add_mul_div_right _ _ (by positivity), Nat.mul_comm (fld w lo n), Nat.sub_mul_div]
  have hmul : w.toNat / 2 ^ lo - fld w lo n = 2 ^ n * (w.toNat / 2 ^ lo / 2 ^ n) := by
    have := Nat.mod_add_div (w.toNat / 2 ^ lo) (2 ^ n)
    unfold fld
    omega
  calc fld (withFld w lo n v) lo n
      = (w.toNat - fld w lo n * 2 ^ lo + v % 2 ^ n * 2 ^ lo) % 2 ^ 32 / 2 ^ lo % 2 ^ n := by
        rw [fld, withFld, BitVec.toNat_ofNat]
    _ = (w.toNat / 2 ^ lo - fld w lo n + v % 2 ^ n) % 2 ^ n := by
        rw [hpow, Nat.mod_mul_right_div_self, Nat.mod_mul_right_mod, hdiv]
    _ = v % 2 ^ n := by rw [hmul, Nat.mul_add_mod, Nat.mod_mod]

theorem rf_setRf_same (s : State) (a lo n v : Nat) (h : lo + n ≤ 32) : (s.setRf a lo n v).rf a lo n = v % 2 ^ n := by
  rw [State.rf, reg_setRf, if_pos rfl, fld_withFld_same _ _ _ _ h]

/-- Reads of a register depend on the registers of the state alone. -/
theorem reg_congr {s t : State} (h : t.regs = s.regs) (a : Nat) : t.reg a = s.reg a := by rw [State.reg, State.reg, h]

theorem rf_congr {s t : State} (h : t.regs = s.regs) (a lo n : Nat) : t.rf a lo n = s.rf a lo n := by
  rw [State.rf, State.rf, reg_congr h]

/-- A write to a plain RW register takes the bits of its mask (R7). -/
theorem plainWrite_of_regRW (s : State) (a m r : Nat) (v : Word) (h : regInfo a = some (regRW m r)) :
    s.plainWrite a v = s.setReg a ((s.reg a &&& ~~~BitVec.ofNat 32 m) ||| (v &&& BitVec.ofNat 32 m)) := by
  simp only [State.plainWrite, h, regRW, ite_self, Nat.add_zero, BitVec.zero_and, BitVec.not_zero,
    BitVec.and_allOnes]

/-! ### Job slots (R60, R63) -/

theorem regInfo_site (site : SiteId) (o : Nat) (ho : o < 0x10000) : regInfo (siteBase site.val + o) = siteRegInfo o := by
  have hdiv : (siteBase site.val + o) / 0x10000 = 0x10 + site.val := by unfold siteBase; omega
  have hmod : (siteBase site.val + o) % 0x10000 = o := by unfold siteBase; omega
  unfold regInfo
  rw [hdiv, hmod]
  fin_cases site <;> rfl

/-- Address of SITE_JOB_CFG or SITE_JOB_ORDER of slot `n` (R63). -/
def jobSlotAddr (site : SiteId) (n : Fin 8) (order : Bool) : Nat :=
  siteBase site.val + 0x100 + 8 * n.val + (if order then 4 else 0)

theorem regInfo_jobSlotAddr (site : SiteId) (n : Fin 8) (order : Bool) :
    regInfo (jobSlotAddr site n order) = some (regRW (if order then 1 else 0xFFC00FFF) 0) := by
  have hslot : siteRegInfo (0x100 + 8 * n.val + if order then 4 else 0) =
      some (regRW (if order then 1 else 0xFFC00FFF) 0) := by
    revert n order
    decide
  rw [jobSlotAddr, Nat.add_assoc, Nat.add_assoc, ← Nat.add_assoc 0x100, regInfo_site _ _ (by split <;> omega), hslot]

/-- A core of the site that names slot `n` is RUNNING or STOPPING. -/
def slotInUse (site n : Nat) (s : State) : Prop :=
  ∃ i < 256, ((s.core (256 * site + i)).st = .running ∨ (s.core (256 * site + i)).st = .stopping) ∧
    s.rf (coreBase (256 * site + i) + 0x0C) 0 3 = n

theorem jobSlotWrite_of_inUse (site n : Nat) (order : Bool) (v : Word) (s : State) (h : slotInUse site n s) :
    jobSlotWrite site n order v s = s.setRf (siteBase site) 0 1 1 :=
  if_pos (by simpa [slotInUse] using h)

theorem jobSlotWrite_of_free (site : SiteId) (n : Fin 8) (order : Bool) (v : Word) (s : State)
    (h : ¬slotInUse site.val n.val s) :
    jobSlotWrite site.val n.val order v s = s.plainWrite (jobSlotAddr site n order) v :=
  if_neg (by simpa [slotInUse] using h)

theorem exec_siteJobCfgWrite (site : SiteId) (n : Fin 8) (order : Bool) (v : Word) (s : State)
    (h : sitesOn site.val s = true) :
    exec (.siteJobCfgWrite site n order v) s = .next (jobSlotWrite site.val n.val order v s) :=
  congrArg _ (if_pos h)

/-! ### What a start does (R42, R59, R65, R66) -/

theorem exec_start (c : CoreId) (s : State) (h : sitesOn (c.val / 256) s = true) :
    exec (.start c) s = .next (startCmd c s) := congrArg _ (if_pos h)

theorem exec_siteGo (site : SiteId) (s : State) (h : sitesOn site.val s = true) :
    exec (.siteGo site) s = .next (siteGoCmd site.val s) := congrArg _ (if_pos h)

/-- Waking a region leaves everything alone but the regions that wake. -/
theorem wakeRegion_frame (r : Nat) (s : State) :
    (wakeRegion r s).cores = s.cores ∧ (wakeRegion r s).regs = s.regs ∧ (wakeRegion r s).mem = s.mem ∧
      (wakeRegion r s).pool = s.pool := by
  unfold wakeRegion
  split <;> exact ⟨rfl, rfl, rfl, rfl⟩

/-- The core after a start command: as a start leaves it, or with CmdRefused set. -/
def startAnswer (s : State) (c : Nat) : Core :=
  if startOk s c then startedCore s c else { s.core c with refused := true }

theorem startCmd_core (c d : Nat) (s : State) :
    (startCmd c s).core d = if d = c then startAnswer s c else s.core d := by
  unfold startCmd startAnswer
  split
  · rw [State.core, (wakeRegion_frame _ _).1]
    exact core_setCore _ _ _ _
  · exact core_modCore _ _ _ _

theorem startCmd_frame (c : Nat) (s : State) :
    (startCmd c s).regs = s.regs ∧ (startCmd c s).mem = s.mem ∧ (startCmd c s).pool = s.pool := by
  unfold startCmd
  split
  · exact (wakeRegion_frame _ _).2
  · exact ⟨rfl, rfl, rfl⟩

theorem startOk_iff (s : State) (c : Nat) :
    startOk s c = true ↔
      ((s.core c).st = .idle ∨ (s.core c).st = .halted ∨ (s.core c).st = .trapped ∨ (s.core c).st = .stopped) ∧
        (s.core c).fe = [] ∧ (s.core c).bulk = [] ∧ (jobCfg s c).getLsbD 31 = true ∧
        (jobCfg s c).extractLsb' 0 12 ≠ 0#12 ∧ s.regionState (regionOf c) ≠ 3 ∧
        s.rf (siteBase (c / 256) + 0x8030) (regionOf c % 4) 1 = 1 := by
  rw [← fld_one_iff, ne_eq, ← fld_eq_zero_iff]
  simp only [startOk, regionOnline, Bool.and_eq_true, decide_eq_true_eq, List.isEmpty_iff, and_assoc, ne_eq]

/-- What a start command makes of a core depends on the registers and that core alone. -/
theorem startAnswer_congr {s t : State} {c : Nat} (hregs : t.regs = s.regs) (hcore : t.core c = s.core c) :
    startAnswer t c = startAnswer s c := by
  have hcfg : jobCfg t c = jobCfg s c := by rw [jobCfg, jobCfg, rf_congr hregs, reg_congr hregs]
  have hok : startOk t c = startOk s c := by
    rw [Bool.eq_iff_iff, startOk_iff, startOk_iff, hcore, hcfg, State.regionState, State.regionState, rf_congr hregs,
      rf_congr hregs]
  simp only [startAnswer, startedCore, State.reg64, hok, hcore, hcfg, rf_congr hregs, reg_congr hregs]

theorem startedCore_jobTag (s : State) (c : Nat) : (startedCore s c).jobTag = (jobCfg s c).extractLsb' 0 12 :=
  ofNat_fld _ _ _

/-- After a start x1 and x2 hold the arguments of the start, every other x register 0 (R42, R59). -/
theorem startedCore_getX (s : State) (c : Nat) (r : BitVec 5) :
    (startedCore s c).getX r =
      if r = 1 then s.reg64 (coreBase c + 0x10) else if r = 2 then s.reg64 (coreBase c + 0x18) else 0 := by
  have h1 : r.toNat = 1 ↔ r = 1#5 := BitVec.toNat_inj (y := 1#5)
  have h2 : r.toNat = 2 ↔ r = 2#5 := BitVec.toNat_inj (y := 2#5)
  by_cases h0 : r = 0#5
  · subst h0; rfl
  · simp [Core.getX, startedCore, tab_get_put, h0, h1, h2]

/-! ### SITE_GO (R69) -/

/-- SITE_ARM names core `i` of the site. -/
def armed (s : State) (site i : Nat) : Prop := s.rf (siteBase site + 0x200 + 4 * (i / 32)) (i % 32) 1 = 1

/-- SITE_GO as far as the first `n` cores of the site. -/
def siteGoUpTo (site n : Nat) (s : State) : State :=
  (List.range n).foldl (fun t i =>
    if s.rf (siteBase site + 0x200 + 4 * (i / 32)) (i % 32) 1 = 1 then startCmd (256 * site + i) t else t) s

theorem siteGoCmd_eq (site : Nat) (s : State) : siteGoCmd site s = siteGoUpTo site 256 s := rfl

theorem siteGoUpTo_succ_armed (site n : Nat) (s : State) (h : armed s site n) :
    siteGoUpTo site (n + 1) s = startCmd (256 * site + n) (siteGoUpTo site n s) := by
  rw [siteGoUpTo, List.range_succ, List.foldl_concat]
  exact if_pos h

theorem siteGoUpTo_succ_not_armed (site n : Nat) (s : State) (h : ¬armed s site n) :
    siteGoUpTo site (n + 1) s = siteGoUpTo site n s := by
  rw [siteGoUpTo, List.range_succ, List.foldl_concat]
  exact if_neg h

theorem siteGoUpTo_frame (site n : Nat) (s : State) :
    (siteGoUpTo site n s).regs = s.regs ∧ (siteGoUpTo site n s).mem = s.mem ∧ (siteGoUpTo site n s).pool = s.pool := by
  induction n with
  | zero => exact ⟨rfl, rfl, rfl⟩
  | succ n ih =>
    obtain ⟨hregs, hmem, hpool⟩ := ih
    by_cases h : armed s site n
    · obtain ⟨sregs, smem, spool⟩ := startCmd_frame (256 * site + n) (siteGoUpTo site n s)
      rw [siteGoUpTo_succ_armed _ _ _ h]
      exact ⟨sregs.trans hregs, smem.trans hmem, spool.trans hpool⟩
    · rw [siteGoUpTo_succ_not_armed _ _ _ h]
      exact ⟨hregs, hmem, hpool⟩

/-- A core that is none of the armed ones handled so far stands as before. -/
theorem siteGoUpTo_core_other (site n d : Nat) (s : State) (h : ∀ i < n, armed s site i → d ≠ 256 * site + i) :
    (siteGoUpTo site n s).core d = s.core d := by
  induction n with
  | zero => rfl
  | succ n ih =>
    have ih := ih fun i hi => h i (by omega)
    by_cases ha : armed s site n
    · rw [siteGoUpTo_succ_armed _ _ _ ha, startCmd_core, if_neg (h n (by omega) ha), ih]
    · rw [siteGoUpTo_succ_not_armed _ _ _ ha, ih]

/-- An armed core handled so far has had its start, judged in the state before SITE_GO: no other core's start matters to it. -/
theorem siteGoUpTo_core_armed (site n i : Nat) (s : State) (hi : i < n) (ha : armed s site i) :
    (siteGoUpTo site n s).core (256 * site + i) = startAnswer s (256 * site + i) := by
  induction n with
  | zero => omega
  | succ n ih =>
    by_cases hn : i = n
    · subst hn
      rw [siteGoUpTo_succ_armed _ _ _ ha, startCmd_core, if_pos rfl]
      exact startAnswer_congr (siteGoUpTo_frame site i s).1
        (siteGoUpTo_core_other site i _ s fun j hj _ => by omega)
    · have ih := ih (by omega)
      by_cases hb : armed s site n
      · rw [siteGoUpTo_succ_armed _ _ _ hb, startCmd_core, if_neg (by omega), ih]
      · rw [siteGoUpTo_succ_not_armed _ _ _ hb, ih]

end Sys2Proof.Machine

namespace Sys2Proof.Proofs

open Sys2Proof.Machine

/-- Settles O14: the write in a state where the slot is in use sets CfgRefused, in any other it takes the register's bits. -/
theorem jobSlotWrite : Obligations.JobSlotWrite := by
  intro site n order val s hon
  refine ⟨fun hbusy => ⟨_, exec_siteJobCfgWrite site n order val s hon, ?_⟩,
    fun hfree => ⟨_, exec_siteJobCfgWrite site n order val s hon, ?_⟩⟩
  · rw [jobSlotWrite_of_inUse _ _ _ _ _ hbusy]
    exact ⟨rf_setRf_same s _ 0 1 1 (by omega), fun x hx => by rw [reg_setRf, if_neg hx], rfl, rfl⟩
  · rw [jobSlotWrite_of_free _ _ _ _ _ hfree, plainWrite_of_regRW _ _ _ _ _ (regInfo_jobSlotAddr site n order)]
    refine ⟨?_, fun x hx => by rw [reg_setReg]; exact if_neg hx, rfl, rfl⟩
    cases order <;> exact reg_setReg_same _ _ _

/-- START of one core, accepted or refused: `startAnswer` is its core's next state. -/
theorem claimsStart : Claims.Start := by
  intro c s hon
  have hcore (d : Nat) := startCmd_core c.val d s
  refine ⟨fun hok => ⟨_, exec_start c s hon, ?_⟩, fun hno => ?_, startOk_iff s c.val⟩
  · have hc : (startCmd c.val s).core c = startedCore s c := by rw [hcore, if_pos rfl, startAnswer, if_pos hok]
    obtain ⟨hregs, hmem, hpool⟩ := startCmd_frame c.val s
    rw [hc]
    refine ⟨rfl, startedCore_getX s c 1, startedCore_getX s c 2,
      fun r h1 h2 => by rw [startedCore_getX, if_neg h1, if_neg h2], fun _ => rfl, fun p hp => if_neg hp,
      fun _ _ => rfl, rfl, rfl, rfl, rfl, rfl, startedCore_jobTag s c, rfl, rfl, rfl, rfl, rfl, rfl, rfl, rfl,
      fun d hd => by rw [hcore, if_neg hd], hmem, hregs, hpool⟩
  · rw [exec_start c s hon, startCmd, if_neg (by simp [hno])]
    rfl

/-- SITE_GO: every armed core has the start it would have alone, and nothing else of the site or the device changes. -/
theorem claimsSiteGo : Claims.SiteGo := by
  intro site s hon
  obtain ⟨hregs, hmem, hpool⟩ := siteGoUpTo_frame site.val 256 s
  refine ⟨_, exec_siteGo site s hon, hmem, hregs, hpool, fun d hd => ?_,
    fun i hi => ⟨fun hna => ?_, fun ha hok => ?_, fun ha hno => ?_⟩⟩
  · exact siteGoUpTo_core_other site.val 256 d s fun i hi _ => by omega
  · refine siteGoUpTo_core_other site.val 256 _ s fun j _ hj hij => ?_
    obtain rfl : i = j := by omega
    exact hna hj
  · have hc : (siteGoCmd site.val s).core (256 * site.val + i) = startedCore s (256 * site.val + i) := by
      rw [siteGoCmd_eq, siteGoUpTo_core_armed site.val 256 i s hi ha, startAnswer, if_pos hok]
    have hsite : (256 * site.val + i) / 256 = site.val := by omega
    rw [hc, startedCore_jobTag, jobCfg, hsite]
    exact ⟨rfl, rfl, rfl⟩
  · rw [siteGoCmd_eq, siteGoUpTo_core_armed site.val 256 i s hi ha, startAnswer, if_neg (by simp [hno])]

/-- Settles O12: START core by core, and SITE_GO by induction on the cores it has gone through. -/
theorem coreStarts : Obligations.CoreStarts := ⟨claimsStart, claimsSiteGo⟩

end Sys2Proof.Proofs
end
